-- ==== Sys2Proof/Word.lean ====
section
/-! DEFINITION. The word types of the model: bytes, register words, messages' byte strings. -/

namespace Sys2Proof

/-- A byte of a message, of a memory or of a pin-driven frame. -/
abbrev Byte := BitVec 8

/-- A register of the register space (00_scope.md, Registers and fields: 32-bit registers). -/
abbrev Word := BitVec 32

end Sys2Proof
end

