-- ==== Sys2Proof/Syntax.lean ====
section
/-! DEFINITION. The commands of the block and their operands: the rows of spec/opcode_table.json. -/

namespace Sys2Proof.Machine

/-- The two ports of the Welbueth link (07_link_protocol.md): the upstream port and, on E and X grades, the cascade port. -/
inductive Port where
  | up | cas
  deriving DecidableEq, Repr

/-- A message as it arrives on a port (R169 to R171). PLANE and TYPE are those of the row; `flags` is header byte 2
(REV, ACK_REQ, REPLAY, reserved), `hops` header byte 3, `body` the bytes 16 to LEN - 5 (body and padding), `crc` the trailer. -/
structure Msg where
  port : Port
  flags : Byte
  hops : Byte
  dest : Byte
  src : Byte
  seq : BitVec 16
  air : BitVec 32
  lenW : BitVec 16
  hcrc : BitVec 16
  body : List Byte
  crc : BitVec 32
  deriving DecidableEq, Repr

/-- A CRITICAL message (R203). CMD, and the MODE or OP byte that a row implies, are those of the row; `tail` is the rest
of PARAMS; `lastFails` says that the loft write of LAST fails (R464); the other fields are as in Msg. -/
structure Crit where
  port : Port
  flags : Byte
  hops : Byte
  dest : Byte
  src : Byte
  seq : BitVec 16
  air : BitVec 32
  lenW : BitVec 16
  hcrc : BitVec 16
  plen : BitVec 16
  resv : BitVec 32
  ctr : BitVec 64
  tail : List Byte
  tag : List Byte
  crc : BitVec 32
  lastFails : Bool
  deriving DecidableEq, Repr

/-- A furrow action as it fires (R121). CLASS, and the OP that a row implies, are those of the row; TICK is the present tick. -/
structure Act where
  serve : BitVec 2
  car : BitVec 3
  unit : Byte
  arg : BitVec 23
  deriving DecidableEq, Repr

/-- Why a receive half loses lock (R157). -/
inductive LockLoss where
  | signal | cdr | headers
  deriving DecidableEq, Repr

/-- An alignment marker on one receive half (R149): the half, its eight bytes, whether it came more than 40 ns after
the earliest lane's (R151), and the invalid sync headers seen on the half since its last marker (R157). -/
structure Marker where
  lane : Nat
  bytes : List Byte
  late : Bool
  invalid : Nat := 0
  deriving DecidableEq, Repr

/-- How the loft answers the tally's writes of one event (R396, R479, R492): per write operation in order, the word of it that fails, if
one does; the slots of a retired sector that cannot be read; the words that fail of the control-block writes to the copy not in force and
then to the other; the word that fails of the media-fault record, 0 to 7 in its first operation and from 8 on in its second. Writes beyond
the list pass. -/
structure MediaReport where
  fails : List (Option Nat)
  unreadable : List Nat
  ctlFail : Option Nat × Option Nat
  mfaFail : Option Nat
  deriving DecidableEq, Repr

/-- What the error code of a memory word shows when the word is read (R392). -/
inductive EccResult where
  | good | corrected | uncorrectable
  deriving DecidableEq, Repr

/-- The sweep of one DRAM byte lane (R402): bit i of a mask is set when delay step i passes; `kept` is the outcome of the reduced check
of R404 with the previous setting. -/
structure LaneSweep where
  rd : BitVec 128
  wr : BitVec 128
  kept : Bool
  deriving DecidableEq, Repr

/-- The link-ECC errors that the bursts of an access meet (R407): byte lane, and whether the error is uncorrectable. -/
abbrev LinkErrs := List (Nat × Bool)

/-- Who writes the loft (R394). -/
inductive LoftWriter where
  | bootRom | firmware | security | tally | other
  deriving DecidableEq, Repr

/-- What a class 16 action sends (R122); the layout of its fields is not given. UL_DATA or PARTIAL for a section of a symbol, named by
the tick of its slot, with the frequency samples by subcarrier and path; samples of an extraction; the next group of a
sounding; the TX_REPORT of a slot. -/
inductive UlJob where
  | ulData (car slotT sym sect : Nat) (adc : List (List Int))
  | ulTime (extract num : Nat)
  | soundResult (car symT : Nat)
  | txReport (car slotT : Nat)
  deriving DecidableEq, Repr

/-- Post-modification modes of a tile access (R375). -/
inductive TMode where
  | none | lin | circ | brev
  deriving DecidableEq, Repr

/-- The address of a tile access (R375): register ADi, mode, offset register OFj. -/
structure TAddr where
  ad : BitVec 3
  mode : TMode
  off : BitVec 3
  deriving DecidableEq, Repr

/-- A vector operand (R370): a register, or the data of the bundle's own load A or B. -/
inductive VSrc where
  | v (r : BitVec 5)
  | loadA
  | loadB
  deriving DecidableEq, Repr

/-- A scalar operand: an immediate, an S register or a K register. -/
inductive SSrc where
  | imm (x : BitVec 32)
  | s (r : BitVec 4)
  | k (r : BitVec 3)
  deriving DecidableEq, Repr

/-- A count of LOOP or REPEAT (R376, R377): 1 to 65,536, or a K register. -/
inductive TCount where
  | imm (c : Nat)
  | k (r : BitVec 3)
  deriving DecidableEq, Repr

/-- An address-generation register (R368). -/
inductive AReg where
  | ad (i : BitVec 3)
  | off (i : BitVec 3)
  | cb (i : BitVec 3)
  | cl (i : BitVec 3)
  deriving DecidableEq, Repr

/-- A condition of SCSEL, on two scalars taken as signed. -/
inductive SCond where
  | eq | ne | lt | ge
  deriving DecidableEq, Repr

/-- One operation of a tile bundle (13_processing_tiles.md, Instruction summary). -/
inductive TOp where
  | ldv (dst : Option (BitVec 5)) (a : TAddr)
  | ldb (dst : Option (BitVec 5)) (a : TAddr)
  | sld (dst : BitVec 4) (a : TAddr)
  | stv (src : BitVec 5) (a : TAddr)
  | sst (src : BitVec 4) (a : TAddr)
  | cmac (acc : BitVec 3) (x y : VSrc) (clr neg conj wrap : Bool)
  | accrd (dst : BitVec 5) (acc : BitVec 3) (sh : SSrc) (w16 : Bool)
  | accadd (acc other : BitVec 3) (neg wrap : Bool)
  | accst (acc : BitVec 3) (a : TAddr)
  | accld (acc : BitVec 3) (a : TAddr) (sh : BitVec 5) (wrap : Bool)
  | vadd (dst : BitVec 5) (x y : VSrc)
  | vsub (dst : BitVec 5) (x y : VSrc)
  | vneg (dst : BitVec 5) (x : VSrc)
  | vconj (dst : BitVec 5) (x : VSrc)
  | vshr (dst : BitVec 5) (x : VSrc) (sh : SSrc)
  | vshl (dst : BitVec 5) (x : VSrc) (sh : SSrc)
  | vsel (dst : BitVec 5) (x y : VSrc) (mask : BitVec 4)
  | vshuf (dst : BitVec 5) (x idx : VSrc)
  | vmov (dst : BitVec 5) (x : VSrc)
  | bfly (dst1 dst2 : BitVec 5) (x y w : VSrc) (sc : Bool)
  | sclr (max : Bool)
  | smax (x : VSrc) (key : BitVec 2)
  | smin (x : VSrc) (key : BitVec 2)
  | sred (key idx : BitVec 4)
  | smov (dst : BitVec 4) (x : SSrc)
  | sadd (dst : BitVec 4) (x y : SSrc)
  | ssub (dst : BitVec 4) (x y : SSrc)
  | sand (dst : BitVec 4) (x y : SSrc)
  | sor (dst : BitVec 4) (x y : SSrc)
  | sxor (dst : BitVec 4) (x y : SSrc)
  | sshl (dst : BitVec 4) (x y : SSrc)
  | sshr (dst : BitVec 4) (x y : SSrc)
  | sclz (dst : BitVec 4) (x : SSrc)
  | scsel (dst : BitVec 4) (c : SCond) (l r x y : SSrc)
  | amov (r : AReg) (x : SSrc)
  | aadd (r : AReg) (x : SSrc)
  | loop (c : TCount) (n : Nat)
  | rep (c : TCount)
  | done
  | nop
  | xin (ad : BitVec 3) (off : BitVec 4) (w : BitVec 2) (n : Nat)
  | xout (ad : BitVec 3) (off : BitVec 4) (w : BitVec 2) (n : Nat)
  | xwait
  deriving DecidableEq, Repr

/-- How far binary32 arithmetic takes the numbers of an adaptation step from the exact ones (R280): `f` in 1/64 of an engine sample, the
loop gain `g` in units of 2^-32, and the coefficients of c_new in units of 2^-15. -/
structure AdaptResult where
  f : Int
  g : Int × Int
  coef : List (Int × Int)
  deriving DecidableEq, Repr

end Sys2Proof.Machine

namespace Sys2Proof

open Sys2Proof.Machine


/-- The commands of the block: one constructor per row of spec/opcode_table.json, in the table's order, those
with operands before those without. The default of an operand is what it is where nothing is said of it: a level held through its
filter, no time, no errors. -/
inductive Instr where
  /-- RAIL_FAULT (R58): A rail has not reported power-good 1 ms after the end of its window; all rails switch off and the failing bit is set in PWR_FAULT. -/
  | railFault (rail : Nat)
  /-- RAIL_POWER_LOSS (R58): A rail loses power-good after sequencing; the power-fail sequence starts and RAILFAULT is set. -/
  | railPowerLoss (report : MediaReport)
  /-- UV_ACCEPTED (R55): An undervoltage crossing persists for its filter time and the power-fail sequence runs to completion. -/
  | uvAccepted (report : MediaReport)
  /-- OV_ACCEPTED (R55): An overvoltage crossing persists for its filter time and the power-fail sequence runs to completion. -/
  | ovAccepted (report : MediaReport)
  /-- POWER_ON_RESET (R60): VIN falls below the POR threshold or power is first applied, and all logic outside VAON resets. -/
  | powerOnReset (vaonLost : Bool)
  /-- THERMAL_TRIP (R59): A junction sensor exceeds 120 °C for 10 µs; the power-fail sequence starts, and a second trip within 60 s latches the device off. -/
  | thermalTrip (within : Bool) (report : MediaReport)
  /-- RESET_N_ASSERT (R61): RESET_N is accepted low; outputs go quiet, a loft write in progress completes, and logic outside VAON resets. -/
  | resetNAssert (held : Nat := 1300)
  /-- RESET_RELEASE (R64): All rails are good and RESET_N is accepted high; reset is released and the boot ROM starts, entering recovery if SB_CS_N is held low. -/
  | resetRelease (sbLow : Bool) (held : Nat := 1300)
  /-- SOFT_RESET (R63): A write of SYS_RESETCTL.SOFT with KEY 0xA5 in EMPTY, READY or FAULTED resets the device; any other such write sets REFUSED. -/
  | softReset (key : Byte)
  /-- REFCLK_PRESENT (R64): The boot ROM confirms REFCLK, locks the tick PLL, releases ALERT_N if REFCLK was late, and starts slot selection. -/
  | refclkPresent (ms : Nat := 0) (badA : Bool := false)
  /-- RECOVERY_IMAGE_LOADED (R71): The recovery image read from QSPI flash has been checked; it runs, or the boot ROM enters STAGE 7 and drives ALERT_N low. -/
  | recoveryImageLoaded (image : List Byte)
  /-- LOFT_CHECKS_DONE (R67): The lock block is checked at start-up step 7 and the bias safe codes are applied, or LOCK_BAD is set. -/
  | loftChecksDone (badA badB : Bool) (corrected : Nat := 0) (badCopies : List Nat := [])
  /-- DRAM_TRAINING_DONE (R402): Initial DRAM training completes; a byte lane with no working setting sets DRAM_FAIL under R68. -/
  | dramTrainingDone (size : BitVec 2) (lanes : List LaneSweep)
  /-- SB_LOAD (R74): The sideband LOAD command writes 256 bytes to the recovery staging area during STAGE 7. -/
  | sbLoad (offset : BitVec 24) (data : List Byte)
  /-- SB_BOOT (R74): The sideband BOOT command verifies the staged image and runs it with SLOT 0b11. -/
  | sbBoot (length : BitVec 32)
  /-- SB_RESET (R74): The sideband RESET command with bytes 0x5A 0xA5 causes a sideband reset. -/
  | sbReset (first second : Byte)
  /-- TALLY_SEEK (R489): The sideband SEEK command sets the cursor source and slot. -/
  | tallySeek (word : BitVec 16)
  /-- JTAG_BYPASS (R449): The IEEE 1149.1 BYPASS instruction. -/
  | jtagBypass (tdi : List Bool)
  /-- JTAG_SAMPLE_PRELOAD (R449): The IEEE 1149.1 SAMPLE/PRELOAD instruction on the digital I/O scan chain. -/
  | jtagSamplePreload (pins tdi : List Bool)
  /-- JTAG_EXTEST (R449): The IEEE 1149.1 EXTEST instruction on the digital I/O scan chain. -/
  | jtagExtest (pins tdi : List Bool)
  /-- SYNC (R81): A PTP Sync message is received and timestamped, a Delay_Req is sent, and the offset is formed for the servo. -/
  | sync (m : Msg) (ago later res : Nat)
  /-- FOLLOW_UP (R81): A PTP Follow_Up gives t1 for a two-step master. -/
  | followUp (m : Msg)
  /-- DELAY_RESP (R81): A PTP Delay_Resp gives t4 and completes an exchange; the servo updates its mean path delay, offset and state. -/
  | delayResp (m : Msg)
  /-- ANNOUNCE (R85): A PTP Announce refreshes master liveness; a grandmasterIdentity change sends the servo to HOLDOVER. -/
  | announce (m : Msg)
  /-- PPS_IN_EDGE (R107): An accepted PPS_IN edge is timestamped, its phase is stored and checked against its limit, and it steers phase in holdover. -/
  | ppsInEdge (ago : Nat)
  /-- FSYNC_EDGE (R108): An accepted FSYNC edge is compared with the expected frame boundary and may raise FSYNC_ALARM. -/
  | fsyncEdge (ago : Nat)
  /-- FCTL_FRAME_DONE (R98): An FCTL frame completes or is NACKed, and the newest y, if one is waiting, follows it. -/
  | fctlFrameDone (nak : Bool)
  /-- SHEAF_LOAD_VERIFY (R117): SHEAF_LOAD mode 0 starts verification of the staged image. -/
  | sheafLoadVerify (m : Crit)
  /-- SHEAF_LOAD_VERIFY_APPLY (R117): SHEAF_LOAD mode 1 verifies the staged image and then applies it. -/
  | sheafLoadVerifyApply (m : Crit)
  /-- SHEAF_LOAD_APPLY (R117): SHEAF_LOAD mode 2 applies the image already staged and verified. -/
  | sheafLoadApply (m : Crit)
  /-- SHEAF_LOAD_DISCARD (R117): SHEAF_LOAD mode 3 discards the staged image. -/
  | sheafLoadDiscard (m : Crit)
  /-- VERIFY_DONE (R119): Verification of the staged image ends; STAGE becomes VERIFIED or REJECTED and the load is answered. -/
  | verifyDone (rest : Option Nat) (link : LinkErrs := [])
  /-- APPLY_DONE (R135): Apply completes; the furrows, tile images, beams, banks, idle states and DMA descriptors are loaded and the run state becomes READY, or the apply fails to EMPTY. -/
  | applyDone (fault : Bool) (link : LinkErrs := [])
  /-- START (R134): The critical START command for a frame is accepted into STARTING, or refused. -/
  | start (m : Crit)
  /-- STOP (R133): The critical STOP command sets or advances a stop boundary, cancels a pending START, or leaves FAULTED. -/
  | stop (m : Crit)
  /-- SUBFRAME_BOUNDARY (R125): A subframe begins; its furrow is selected and read from the furrow store, and store errors are corrected or cause FAULTED. -/
  | subframeBoundary (corrected : Nat) (bad : Bool) (ovl : List Nat := []) (word : Nat := 0)
  /-- NO_OPERATION (R122): A class 0 action does nothing. -/
  | noOperation (a : Act)
  /-- LINK_PLACEMENT_OPEN (R122): A class 1 action opens a receive buffer. -/
  | linkPlacementOpen (serve : BitVec 2) (car slotT sym : Nat) (kind : BitVec 3)
  /-- LINK_PLACEMENT_CLOSE (R32): A class 1 action closes a receive buffer at its deadline; absent content is filled and counted, and orphaned content is discarded. -/
  | linkPlacementClose (serve : BitVec 2) (car slotT sym : Nat) (kind : BitVec 3)
  /-- FETCH (R225): A class 2 FETCH applies the held C-plane beam writes and loads the absent beams of a symbol from DRAM into the beam cache. -/
  | fetch (a : Act) (lost : List (Nat × Nat)) (fixed : List Nat := [])
  /-- RECOMPUTE_FETCH (R246): A class 2 RECOMPUTE_FETCH loads the beams of a marked symbol into the recompute beam buffer. -/
  | recomputeFetch (a : Act) (lost : List (Nat × Nat)) (fixed : List Nat := [])
  /-- KERNEL_START (R384): A class 3 action loads K0 to K7 and starts a kernel on its tile. -/
  | kernelStart (a check : Act) (later : Bool)
  /-- KERNEL_CHECK (R385): A class 4 action checks that a kernel has completed, and applies the breach response of R387 if it has not. -/
  | kernelCheck (a : Act)
  /-- CFR_SELECT (R233): A class 5 action selects a CFR set for a path group from an engine symbol. -/
  | cfrSelect (a : Act)
  /-- DPD_SELECT (R267): A class 6 SELECT selects a DPD operating point from a boundary. -/
  | dpdSelect (a : Act)
  /-- COMMIT (R270): A class 6 COMMIT validates a group's shadows and commits them, or winnows them. -/
  | commit (a : Act)
  /-- ADAPT (R280): A class 6 ADAPT starts an adaptation step on a gleaner's capture slot. -/
  | adapt (a : Act)
  /-- ADAPT_DONE (R280): An adaptation step completes; it writes a shadow and failmask, loop gain, delay and reflection, or voids the capture. -/
  | adaptDone (gleaner buf : Nat) (r : AdaptResult)
  /-- SET_NCO_TX (R317): A class 7 action sets the transmit NCO frequency from its boundary. -/
  | setNcoTx (a : Act)
  /-- SET_NCO_RX (R317): A class 7 action sets the receive NCO frequency from its boundary. -/
  | setNcoRx (a : Act)
  /-- DAC_QUIET (R317): A class 7 action puts DACs in the quiet state from its boundary. -/
  | dacQuiet (a : Act)
  /-- DAC_ACTIVE (R317): A class 7 action takes DACs out of the quiet state from its boundary. -/
  | dacActive (a : Act)
  /-- TONE (R322): A class 7 TONE sets a path's tone generator from its boundary engine symbol. -/
  | tone (a : Act)
  /-- CONVERTER_BOUNDARY (R318): The boundary of a converter action reaches the RF balls, and the new NCO or DAC state takes effect. -/
  | converterBoundary (bound : Nat)
  /-- SET_ATTN (R290): A class 8 action sets receive attenuation from its boundary. -/
  | setAttn (a : Act)
  /-- SET_FILTER (R290): A class 8 action sets the decimation filter set of a carrier from its boundary. -/
  | setFilter (a : Act)
  /-- AGC_STEP (R292): A class 8 AGC_STEP decides each named path's attenuation from its ADC samples. -/
  | agcStep (a : Act) (codes : List (List Int))
  /-- EXTRACT (R309): A class 8 EXTRACT copies time-domain samples of a path to UL_TIME or to the capture partition. -/
  | extract (a : Act) (adc : List Int)
  /-- RX_SETTING_BOUNDARY (R290): The boundary of a receive setting reaches the RX balls; the attenuation or filter changes and samples become invalid. -/
  | rxSettingBoundary (bound : Nat)
  /-- CAPTURE (R274): A class 9 action switches a gleaner's selector and records coupler and reference samples into a capture slot. -/
  | capture (a : Act)
  /-- CAPTURE_END (R278): A capture interval ends, and the capture-time void reason is written to the slot header. -/
  | captureEnd (gleaner : Nat) (codes : List Int) (lead : Nat)
  /-- BIAS_STAGE (R329): A class 10 STAGE writes the stages of bias outputs and sets PENDING. -/
  | biasStage (a : Act)
  /-- BIAS_STROBE (R330): A class 10 STROBE latches the pending stages of its groups for its boundary. -/
  | biasStrobe (a : Act)
  /-- BIAS_BOUNDARY (R330): The strobe boundary reaches the TX balls; latched outputs change code or begin a range switch at the safe voltage. -/
  | biasBoundary (bound : Nat)
  /-- BIAS_RANGE_SWITCH_DONE (R331): A 4 µs bias range switch completes. -/
  | biasRangeSwitchDone (out : Nat)
  /-- FEM_PHASE (R347): A class 11 PHASE schedules a path's FEM phase change. -/
  | femPhase (a : Act)
  /-- FEM_CHANGE_INSTANT (R348): A FEM change instant arrives; the lines take the level of the entry and phase, and FSB_MSG chains are triggered. -/
  | femChangeInstant (bound : Nat)
  /-- FSB_SEND (R350): A class 11 FSB_SEND starts an FSB chain on a bus. -/
  | fsbSend (a : Act)
  /-- FSB_CHAIN_START (R351): A waiting FSB_MSG or TUNER_MSG chain starts once the bus is free. -/
  | fsbChainStart (bus : Nat)
  /-- FSB_FRAME_DONE (R349): An FSB frame ends; read data and parity are kept, and the next frame of the chain follows. -/
  | fsbFrameDone (bus : Nat) (data : Byte) (par : Bool)
  /-- FSB_GO (R352): A write of RFE_FSBCMD.GO sends a single FSB frame outside a run, or sets REFUSED. -/
  | fsbGo (word : BitVec 32)
  /-- TINE_SEND (R361): A class 12 SEND transmits one WRITE frame for each held TINE_WEIGHTS of its chain and boundary. -/
  | tineSend (a : Act)
  /-- TINE_STROBE (R361): A class 12 STROBE raises TBk_LD at the load instant. -/
  | tineStrobe (a : Act)
  /-- TINE_READBACK (R362): Sent bits return on TBk_DI and are compared with those sent; a difference sets RBERR. -/
  | tineReadback (chain : Nat) (ret : List Bool)
  /-- TINE_IDLE_STROBE (R363): The IDLE_ALL frame reaches the last chip, and TBk_LD is raised for 4 ticks. -/
  | tineIdleStrobe (chain : Nat)
  /-- CONVERT (R440): A class 13 action starts a scheduled monitor conversion into a slot. -/
  | convert (a : Act)
  /-- DMA_OPEN (R427): A class 14 OPEN starts a scheduled channel at its head descriptor. -/
  | dmaOpen (a : Act)
  /-- DMA_CLOSE (R427): A class 14 CLOSE cuts a scheduled channel's chain after its burst in progress. -/
  | dmaClose (a : Act)
  /-- CAL_WINDOW_OPEN (R142): A class 15 OPEN opens a calibration window for a chiplet. -/
  | calWindowOpen (a : Act) (close : Nat)
  /-- CAL_WINDOW_CLOSE (R340): A class 15 CLOSE closes a calibration window; a calibration still running overruns. -/
  | calWindowClose (a : Act)
  /-- U_C_PLANE_TRANSMISSION (R122): A class 16 action sends U-plane and C-plane messages towards the host, such as UL_DATA, PARTIAL, UL_TIME, SOUND_RESULT and TX_REPORT. -/
  | uCPlaneTransmission (serve : BitVec 2) (job : UlJob)
  /-- PLAYOUT (R248): A class 17 PLAYOUT begins the ring read of an engine symbol; mute causes and regulatory tests are applied and duty is accounted. -/
  | playout (a : Act) (osc : Nat)
  /-- HORIZON (R245): A class 17 HORIZON closes amendments, and marked symbols are winnowed and recomputed. -/
  | horizon (a : Act)
  /-- ENGINE_WINDOW (R237): An engine window opens and takes the earliest void and eligible engine symbol for a CFR and DPD pass. -/
  | engineWindow (at_ win : Nat)
  /-- ENGINE_PASS_DONE (R242): An engine pass completes, and its closing state becomes the next symbol's opening checkpoint. -/
  | enginePassDone (win : Nat) (poison : List Nat)
  /-- RECOMPUTE_DONE (R245): The tile recomputation of a marked carrier symbol completes, and the symbol becomes eligible. -/
  | recomputeDone (car at_ : Nat)
  /-- PARTIAL_SUM_CLOSE (R301): A class 18 CLOSE ends the expectation of a PARTIAL; a missing contribution makes the device forward its own sum marked partial. -/
  | partialSumClose (a : Act)
  /-- COVAR (R306): A class 19 COVAR accumulates the covariance of a sounding symbol. -/
  | covar (a : Act) (adc : List (List Int))
  /-- SOLVE (R306): A class 19 SOLVE runs the power iteration for each group. -/
  | solve (a : Act)
  /-- PLACE (R307): A class 19 PLACE writes the sounding-derived beams into the beam cache. -/
  | place (a : Act)
  /-- SYN_LOCK_LOSS (R335): A synthesizer loses lock; the chiplet goes quiet, relocks or calibrates, and CAL_OVERRUN is raised. -/
  | synLockLoss (chiplet : Nat)
  /-- SYN_RELOCK_RETRY (R335): The 10 ms retry for a synthesizer that has not relocked expires. -/
  | synRelockRetry (chiplet : Nat)
  /-- CAL_REQUEST (R338): A write to RFE_CALREQ requests calibration kinds for chiplets. -/
  | calRequest (kinds : BitVec 5) (chiplets : BitVec 4)
  /-- CAL_START (R339): A pending calibration kind starts, inside a window or outside a run. -/
  | calStart (chiplet : Nat)
  /-- CAL_COMPLETE (R336): A calibration completes, is counted, and records the sensor mean. -/
  | calComplete (chiplet : Nat)
  /-- CAL_ABORT (R336): A calibration reaches its abort limit, stops and restores the settings it found. -/
  | calAbort (chiplet : Nat)
  /-- CAL_HELD_RELEASE (R341): Writing 1 to RFE_CALSTATk.HELD releases a held calibration kind. -/
  | calHeldRelease (chiplet : Nat)
  /-- POWER_STEP_BOUNDARY (R343): The boundary of an accepted POWER_STEP or FEM_STATE reaches the balls, and the entry takes effect. -/
  | powerStepBoundary (bound : Nat)
  /-- PROTECT_BOUNDARY (R355): The first qualifying boundary after a trip, latch or clear arrives, and a path enters or leaves protection. -/
  | protectBoundary (bound : Nat)
  /-- ALERT_INPUT_RISE (R355): An accepted rising edge of ALRT_INk latches the input and applies its RESP. -/
  | alertInputRise (input : Nat) (held : Nat := 256)
  /-- ALERT_INPUT_FALL (R42): An accepted falling edge of ALRT_INk clears its filtered level. -/
  | alertInputFall (input : Nat) (held : Nat := 256)
  /-- TRIP_CLEAR (R356): Writing 1 to a RFE_TRIP bit clears a mismatch trip. -/
  | tripClear (path : Nat)
  /-- LATCH_CLEAR (R356): Writing 1 to a RFE_ALERT.LATCH bit clears the latch when the input is low. -/
  | latchClear (input : Nat)
  /-- LANE_SIGNAL_DETECT (R152): Signal has been present on a receive half for 100 ns, and it enters TRAIN. -/
  | laneSignalDetect (lane : Nat)
  /-- LANE_DETECT_TIMEOUT (R152): A lane half has found no signal or termination within 10 ms and goes OFF. -/
  | laneDetectTimeout (lane : Nat) (tx : Bool)
  /-- LANE_TRAIN_DONE (R153): Both ends report RX_READY, and the receive half leaves TRAIN. -/
  | laneTrainDone (lane ctle : Nat)
  /-- LANE_BIT_LOCK (R152): The CDR phase has been stable for 10,000 UI, and the receive half enters BIT_LOCK. -/
  | laneBitLock (lane : Nat)
  /-- LANE_BLOCK_LOCK (R152): 64 consecutive valid sync headers are seen, and the receive half enters BLOCK_LOCK. -/
  | laneBlockLock (lane : Nat) (inverted : Bool)
  /-- LANE_ALIGNED (R152): Two markers at the correct spacing are seen within deskew, and the receive half becomes ALIGNED. -/
  | laneAligned (lane logical : Nat)
  /-- BRINGUP_TIMEOUT (R154): 30 ms of bring-up pass; the port proceeds to capability exchange or restarts at a lower rate. -/
  | bringupTimeout (port : Port)
  /-- BRINGUP_RETRY (R154): The 100 ms wait after rate code 2 fails expires, and bring-up restarts at MAXRATE. -/
  | bringupRetry (port : Port)
  /-- CAPABILITY_BLOCK (R155): A capability record is received; when exchange completes the port becomes ACTIVE. -/
  | capabilityBlock (port : Port) (lane : Nat) (block : List Byte)
  /-- ALIGNMENT_MARKER (R150): An alignment marker is received; marker errors are counted and majority NEWMAP and RX_GOOD are acted on. -/
  | alignmentMarker (port : Port) (markers : List Marker)
  /-- MARKER_TRANSMIT (R149): The device sends markers on its lanes, with map changes, exclusions, rejoins, sleep and replay. -/
  | markerTransmit (port : Port)
  /-- LANE_LOSS_OF_LOCK (R157): A receive half loses lock; it is excluded and dropped from RX_GOOD, and the port may go DOWN. -/
  | laneLossOfLock (lane : Nat) (cause : LockLoss) (invalid : Nat := 0)
  /-- LANE_RETRAIN_RETRY (R161): The 100 ms retraining retry of an excluded lane expires. -/
  | laneRetrainRetry (lane : Nat)
  /-- LANE_SLEEP (R166): Setting a LNK_SLEEP bit puts a transmit half to sleep, or is refused. -/
  | laneSleep (lane : Nat)
  /-- LANE_WAKE (R167): Clearing a LNK_SLEEP bit wakes a transmit half. -/
  | laneWake (lane : Nat)
  /-- LANE_WAKE_TIMEOUT (R167): A woken half has not reached ALIGNED within 1 ms and falls back to full retraining. -/
  | laneWakeTimeout (lane : Nat)
  /-- BITSLIP (R156): LNK_LCTL_n.BITSLIP moves a manual block boundary by one bit, or sets REFUSED. -/
  | bitslip (lane : Nat)
  /-- LANE_RETRAIN (R161): LNK_LCTL_n.RETRAIN retrains a lane from DETECT and releases HELD. -/
  | laneRetrain (lane : Nat)
  /-- LANE_DISABLE (R168): Setting LNK_LCTL_n.DISABLE turns both halves OFF, with the effect of an exclusion. -/
  | laneDisable (lane : Nat)
  /-- HCRC_HUNT (R173): A header fails HCRC, and the receiver hunts for the next valid header. -/
  | hcrcHunt (port : Port) (bytes : List Byte)
  /-- FORWARD (R207): A message addressed to another position is forwarded with HOP incremented, or refused. -/
  | forward (plane typ : Byte) (m : Msg) (res : Nat)
  /-- DL_DATA (R183): A DL_DATA message is checked and placed, or held until its section or generation is known. -/
  | dlData (m : Msg)
  /-- PARTIAL (R299): A PARTIAL from the device below is accepted for its section and symbol, or re-addressed as SEGMENT at a boundary. -/
  | partialSum (m : Msg)
  /-- DL_SECTIONS (R188): A DL_SECTIONS message adds downlink sections within its window. -/
  | dlSections (m : Msg)
  /-- UL_SECTIONS (R188): A UL_SECTIONS message adds uplink sections within its window. -/
  | ulSections (m : Msg)
  /-- BEAM_WRITE (R190): A BEAM_WRITE holds cache writes until the FETCH of their symbol and writes the library as background work. -/
  | beamWrite (m : Msg) (link : LinkErrs := [])
  /-- AMEND (R196): An AMEND replaces or adds sections up to the horizon and marks symbols for recomputation. -/
  | amend (m : Msg)
  /-- REVOKE (R198): A REVOKE removes downlink sections up to the horizon. -/
  | revoke (m : Msg)
  /-- POWER_STEP (R191): A POWER_STEP requests a power step entry on paths from a symbol boundary. -/
  | powerStep (m : Msg)
  /-- FEM_STATE (R191): A FEM_STATE requests a FEM table entry on paths from a symbol boundary. -/
  | femState (m : Msg)
  /-- TINE_WEIGHTS (R361): A TINE_WEIGHTS message holds weights for chips of a chain, for the SEND that serves its boundary. -/
  | tineWeights (m : Msg)
  /-- SOUND_REQ (R305): A SOUND_REQ asks for sounding-derived beams from a MODE 0 descriptor. -/
  | soundReq (m : Msg)
  /-- KEEPALIVE (R200): A KEEPALIVE restarts the keep-alive timeout. -/
  | keepalive (m : Msg)
  /-- REG_READ (R201): A REG_READ is answered with one REG_DATA of COUNT registers. -/
  | regRead (m : Msg)
  /-- REG_WRITE (R201): A REG_WRITE writes COUNT registers, or is refused whole if any of them is schedule-owned. -/
  | regWrite (m : Msg)
  /-- REGISTER_WRITE (R11): A write to a register field that has no row of its own takes effect under its access code and range rules. -/
  | registerWrite (addr value : BitVec 32)
  /-- ALARM_RELEASE (R202): 100 ms pass since the last ALARM of a code, and one ALARM carrying the held occurrences is sent. -/
  | alarmRelease (code : BitVec 16)
  /-- ATTEST_REQ (R475): An ATTEST_REQ asks for a report or the certificate, or is refused as BUSY. -/
  | attestReq (m : Msg)
  /-- ATTEST_REPORT (R474): The signed report or certificate is ready and is sent as ATTEST_REPORT. -/
  | attestReport (limitFails : Bool)
  /-- ENVELOPE_CHANGE (R345): The critical ENVELOPE_CHANGE installs a new regulatory envelope in the lock block. -/
  | envelopeChange (m : Crit)
  /-- KEY_ENROLL (R467): KEY_OP ENROLL writes an operator key slot from an enrolment image. -/
  | keyEnroll (m : Crit)
  /-- KEY_REVOKE (R467): KEY_OP REVOKE marks an operator key slot revoked. -/
  | keyRevoke (m : Crit)
  /-- REKEY (R468): The critical REKEY unwraps a new command key and resets LAST. -/
  | rekey (m : Crit)
  /-- LOG_CLEAR (R491): The critical LOG_CLEAR writes a LOG_CLEARED event and enters CLEARING. -/
  | logClear (m : Crit) (report : MediaReport)
  /-- FW_INSTALL (R466): FW_UPDATE INSTALL writes a checked image into the inactive slot and records it as pending. -/
  | fwInstall (m : Crit)
  /-- FW_CONFIRM (R466): FW_UPDATE CONFIRM makes the trial slot active and may raise the minimum version. -/
  | fwConfirm (m : Crit)
  /-- LOCK_WRITE (R470): The critical LOCK_WRITE writes the lock-block POLICY. -/
  | lockWrite (m : Crit)
  /-- SECURITY_OP_DONE (R465): A background security operation completes and its command is answered. -/
  | securityOpDone (fails : Bool) (link : LinkErrs := [])
  /-- D_WRITE (R206): A D-plane WRITE writes data into a region. -/
  | dWrite (m : Msg) (link : LinkErrs := [])
  /-- D_READ (R206): A D-plane READ is answered by DATA messages and an END. -/
  | dRead (m : Msg) (link : LinkErrs := []) (corrected : Nat := 0)
  /-- D_END (R206): A host D-plane END checks the CRC of written data and is answered with ACK or DATA_CRC. -/
  | dEnd (m : Msg) (link : LinkErrs := []) (corrected : Nat := 0)
  /-- DMA_GO (R420): DMA_CHCTL_n.GO starts a background channel at HEAD. -/
  | dmaGo (channel : Nat)
  /-- DMA_CLEAR (R432): DMA_CHCTL_n.CLEAR returns a halted channel to IDLE. -/
  | dmaClear (channel : Nat)
  /-- DESCRIPTOR_STORE (R418): A write of DMA_DWIN_HI stores a 64-bit descriptor word, or is refused. -/
  | descriptorStore (hi : BitVec 32)
  /-- RING_LENGTH_WRITE (R425): A write to DMA_RLEN_n stages a new ring length. -/
  | ringLengthWrite (channel : Nat) (length : BitVec 30)
  /-- RING_ACK (R424): A write to DMA_RACK_n releases consumed ring bytes, or is refused. -/
  | ringAck (channel : Nat) (bytes : BitVec 30)
  /-- DMA_BURST (R414): The mover serves one burst of a channel, including descriptor fetch, chain end, ring wrap and halts. -/
  | dmaBurst (dramFree : Bool) (ecc : EccResult) (lane : Nat)
  /-- CONVERSION_DONE (R437): A monitor conversion ends; its result is written and limit-tested, and the next conversion starts. -/
  | conversionDone (raw : BitVec 12)
  /-- URGENT_GO (R441): MON_URG.GO requests an urgent conversion, or sets REFUSED. -/
  | urgentGo (ch : BitVec 7)
  /-- REFRESH_WINDOW (R400): A DRAM refresh window occurs, and per-bank refreshes are issued in it. -/
  | refreshWindow (banks : List Nat)
  /-- MR4_POLL (R401): The 256 µs MR4 read interval expires; a high multiplier sets HOT and postponed refresh can fail the channel. -/
  | mr4Poll (rates postponed : List Nat)
  /-- DRAM_RETRAIN_DONE (R404): Background retraining completes; new settings take effect, a lane is kept as MARGINAL, or it fails. -/
  | dramRetrainDone (lanes : List LaneSweep)
  /-- SELF_REFRESH_EXIT (R409): A request, START, TRAIN or SR_EN = 0 makes the controller leave self-refresh. -/
  | selfRefreshExit (request : Bool)
  /-- GRANARY_SCRUB (R393): The scrubber reads and corrects a granary word in a background cycle. -/
  | granaryScrub (addr : Nat) (ecc : EccResult)
  /-- LOFT_WRITE_DONE (R396): A loft write operation completes with verification and reports pass or fail to its writer. -/
  | loftWriteDone (writer : LoftWriter) (addr : Nat) (words : List (BitVec 64)) (failed : Option Nat)
  /-- TALLY_SCAN_DONE (R487): The tally's scan at reset release completes, and the write position is set. -/
  | tallyScanDone (mfaFail : Option Nat) (corrected : Nat := 0) (unreadable : List Nat := [])
  /-- TALLY_RECORD_WRITE (R485): The tally writes the next queued event to the log, remapping on a media fault. -/
  | tallyRecordWrite (report : MediaReport)
  /-- TALLY_WINDOW_READ (R490): A read of TAL_WIN0 captures the slot named by TAL_CUR into TAL_WIN1 to TAL_WIN15. -/
  | tallyWindowRead (corrected : Nat := 0) (bad : Bool := false)
  /-- SLOT_RESULT_READ (R446): A read of MON_SRES_k captures MON_STIME_k. -/
  | slotResultRead (slot : BitVec 5)
  /-- XFER_DONE (R380): A tile stream transfer completes, and the next queued transfer starts. -/
  | xferDone (tile : Byte)
  /-- TILE_RESUME (R387): At tick 0 of the next subframe, a suspended tile returns to IDLE. -/
  | tileResume (tile : Byte)
  /-- LDV (R370): Tile vector load. -/
  | tileLdv (tile : Byte) (last : Bool) (dst : Option (BitVec 5)) (a : TAddr)
  /-- LDB (R370): Tile 4-byte broadcast load. -/
  | tileLdb (tile : Byte) (last : Bool) (dst : Option (BitVec 5)) (a : TAddr)
  /-- SLD (R370): Tile scalar load. -/
  | tileSld (tile : Byte) (last : Bool) (dst : BitVec 4) (a : TAddr)
  /-- STV (R367): Tile vector store, suppressed with PROTFAULT in the protected region. -/
  | tileStv (tile : Byte) (last : Bool) (src : BitVec 5) (a : TAddr)
  /-- SST (R367): Tile scalar store. -/
  | tileSst (tile : Byte) (last : Bool) (src : BitVec 4) (a : TAddr)
  /-- CMAC (R371): Tile complex multiply-accumulate with overflow handling. -/
  | tileCmac (tile : Byte) (last : Bool) (acc : BitVec 3) (x y : VSrc) (clr neg conj wrap : Bool)
  /-- ACCRD (R374): Tile accumulator-to-vector conversion with rounding and saturation. -/
  | tileAccrd (tile : Byte) (last : Bool) (dst : BitVec 5) (acc : BitVec 3) (sh : SSrc) (w16 : Bool)
  /-- ACCADD (R372): Tile accumulator addition. -/
  | tileAccadd (tile : Byte) (last : Bool) (acc other : BitVec 3) (neg wrap : Bool)
  /-- ACCST (R370): Tile accumulator store. -/
  | tileAccst (tile : Byte) (last : Bool) (acc : BitVec 3) (a : TAddr)
  /-- ACCLD (R372): Tile accumulator load with shift. -/
  | tileAccld (tile : Byte) (last : Bool) (acc : BitVec 3) (a : TAddr) (sh : BitVec 5) (wrap : Bool)
  /-- VADD (R370): Tile lane-wise saturating add. -/
  | tileVadd (tile : Byte) (last : Bool) (dst : BitVec 5) (x y : VSrc)
  /-- VSUB (R370): Tile lane-wise saturating subtract. -/
  | tileVsub (tile : Byte) (last : Bool) (dst : BitVec 5) (x y : VSrc)
  /-- VNEG (R370): Tile lane-wise negate. -/
  | tileVneg (tile : Byte) (last : Bool) (dst : BitVec 5) (x : VSrc)
  /-- VCONJ (R370): Tile lane-wise conjugate. -/
  | tileVconj (tile : Byte) (last : Bool) (dst : BitVec 5) (x : VSrc)
  /-- VSHR (R370): Tile vector right shift, rounding half up. -/
  | tileVshr (tile : Byte) (last : Bool) (dst : BitVec 5) (x : VSrc) (sh : SSrc)
  /-- VSHL (R370): Tile vector left shift, saturating. -/
  | tileVshl (tile : Byte) (last : Bool) (dst : BitVec 5) (x : VSrc) (sh : SSrc)
  /-- VSEL (R370): Tile lane select by mask. -/
  | tileVsel (tile : Byte) (last : Bool) (dst : BitVec 5) (x y : VSrc) (mask : BitVec 4)
  /-- VSHUF (R370): Tile lane permutation. -/
  | tileVshuf (tile : Byte) (last : Bool) (dst : BitVec 5) (x idx : VSrc)
  /-- VMOV (R370): Tile vector move. -/
  | tileVmov (tile : Byte) (last : Bool) (dst : BitVec 5) (x : VSrc)
  /-- BFLY (R370): Tile FFT butterfly. -/
  | tileBfly (tile : Byte) (last : Bool) (dst1 dst2 : BitVec 5) (x y w : VSrc) (sc : Bool)
  /-- SCLR (R379): Tile search unit reset. -/
  | tileSclr (tile : Byte) (last : Bool) (max : Bool)
  /-- SMAX (R379): Tile search for maxima with index. -/
  | tileSmax (tile : Byte) (last : Bool) (x : VSrc) (key : BitVec 2)
  /-- SMIN (R379): Tile search for minima with index. -/
  | tileSmin (tile : Byte) (last : Bool) (x : VSrc) (key : BitVec 2)
  /-- SRED (R379): Tile search reduction to a best key and its index. -/
  | tileSred (tile : Byte) (last : Bool) (key idx : BitVec 4)
  /-- SMOV (R370): Tile scalar move. -/
  | tileSmov (tile : Byte) (last : Bool) (dst : BitVec 4) (x : SSrc)
  /-- SADD (R370): Tile scalar add. -/
  | tileSadd (tile : Byte) (last : Bool) (dst : BitVec 4) (x y : SSrc)
  /-- SSUB (R370): Tile scalar subtract. -/
  | tileSsub (tile : Byte) (last : Bool) (dst : BitVec 4) (x y : SSrc)
  /-- SAND (R370): Tile scalar AND. -/
  | tileSand (tile : Byte) (last : Bool) (dst : BitVec 4) (x y : SSrc)
  /-- SOR (R370): Tile scalar OR. -/
  | tileSor (tile : Byte) (last : Bool) (dst : BitVec 4) (x y : SSrc)
  /-- SXOR (R370): Tile scalar XOR. -/
  | tileSxor (tile : Byte) (last : Bool) (dst : BitVec 4) (x y : SSrc)
  /-- SSHL (R370): Tile scalar left shift. -/
  | tileSshl (tile : Byte) (last : Bool) (dst : BitVec 4) (x y : SSrc)
  /-- SSHR (R370): Tile scalar right shift. -/
  | tileSshr (tile : Byte) (last : Bool) (dst : BitVec 4) (x y : SSrc)
  /-- SCLZ (R370): Tile scalar count of leading sign bits. -/
  | tileSclz (tile : Byte) (last : Bool) (dst : BitVec 4) (x : SSrc)
  /-- SCSEL (R370): Tile scalar select by condition. -/
  | tileScsel (tile : Byte) (last : Bool) (dst : BitVec 4) (c : SCond) (l r x y : SSrc)
  /-- AMOV (R375): Tile address register set. -/
  | tileAmov (tile : Byte) (last : Bool) (r : AReg) (x : SSrc)
  /-- AADD (R375): Tile address register add. -/
  | tileAadd (tile : Byte) (last : Bool) (r : AReg) (x : SSrc)
  /-- LOOP (R377): Tile zero-overhead loop. -/
  | tileLoop (tile : Byte) (last : Bool) (c : TCount) (n : Nat)
  /-- REPEAT (R376): Tile repeat of the next bundle. -/
  | tileRepeat (tile : Byte) (last : Bool) (c : TCount)
  /-- END (R384): Tile kernel completion. -/
  | tileEnd (tile : Byte) (last : Bool)
  /-- NOP (R369): Tile no-operation. -/
  | tileNop (tile : Byte) (last : Bool)
  /-- XIN (R380): Tile stream transfer from a shared window, which halts the kernel on a window fault. -/
  | tileXin (tile : Byte) (last : Bool) (ad : BitVec 3) (off : BitVec 4) (w : BitVec 2) (n : Nat)
  /-- XOUT (R380): Tile stream transfer to a shared window. -/
  | tileXout (tile : Byte) (last : Bool) (ad : BitVec 3) (off : BitVec 4) (w : BitVec 2) (n : Nat)
  /-- XWAIT (R380): Tile wait for queued stream transfers to complete. -/
  | tileXwait (tile : Byte) (last : Bool)
  /-- TIMING_INPUT_GLITCH (R43): A rising edge on FSYNC or PPS_IN that the deglitch filter rejects leaves no timestamp and is counted in TIM_CNT_GLITCH. -/
  | timingInputGlitch (pps : Bool)
  /-- TRAINING_CONTROL_BLOCK (R153): A training control block arrives on a lane in TRAIN, and the transmit half adjusts its 3-tap FIR as REQ_PRE, REQ_MAIN and REQ_POST ask. -/
  | trainingControlBlock (lane : Nat) (block : List Byte) (req : BitVec 6 := 0) (converged : Bool := false)
  /-- TERMINATION_DETECT (R152): A transmit half in DETECT finds far-end termination and begins sending the training pattern. -/
  | terminationDetect (lane : Nat)
  /-- SYNTHESIZER_RELOCK (R335): A synthesizer that lost lock relocks on its stored settings, and CLK_OK and SYN_LOCK return so the chiplet can resume transmit and receive. -/
  | synthesizerRelock (chiplet : Nat)
  /-- UNKNOWN_TYPE (R172): A message whose header passes HCRC but whose PLANE or TYPE is undefined, or not accepted on its port of arrival, is refused with PLANE_UNKNOWN or TYPE_UNKNOWN. -/
  | unknownType (plane typ : Byte) (m : Msg)
  /-- PTP_MESSAGE_DISCARDED (R76): A Pdelay, Signaling or Management PTP message arrives and is discarded without a NACK, counted in TIM_CNT_DISC. -/
  | ptpMessageDiscarded (m : Msg)
  /-- ACK_OR_NACK_RECEIVED (R177): An ACK or NACK addressed to the device is consumed without answer and, from the host, restarts the keep-alive timeout. -/
  | ackOrNackReceived (nack : Bool) (m : Msg)
  /-- DRAM_FULL_TRAINING_DONE (R406): The full training that TRAIN starts after a DRAM failure completes, and the failure clears when every lane passes. -/
  | dramFullTrainingDone (lanes : List LaneSweep)
  /-- VIN_QUALIFIED (R53): VIN has stayed above the valid threshold for 1 ms, and rail sequencing starts with group 1. -/
  | vinQualified
  /-- RAIL_GROUP_GOOD (R57): Every rail of a group reports power-good, and the sequencer starts the next group or releases reset. -/
  | railGroupGood
  /-- RAIL_RETRY (R58): The 100 ms retry delay after a rail fault expires and sequencing restarts. -/
  | railRetry
  /-- THERMAL_RESTART (R59): The 10 s off time after a thermal trip expires and the device cold-starts. -/
  | thermalRestart
  /-- WATCHDOG (R62): The management watchdog has gone 1 s without service; the firmware restarts and up to 256 M-plane messages are held. -/
  | watchdog
  /-- FIRMWARE_RESTART_DONE (R62): The firmware restart after a watchdog reset completes, and the held M-plane messages are processed in order. -/
  | firmwareRestartDone
  /-- REFCLK_LATE (R66): REFCLK has been absent for 100 ms after reset release; REFCLK_LATE is set and ALERT_N is driven low. -/
  | refclkLate
  /-- SLOT_VERIFY_DONE (R70): Verification of a firmware slot completes; the slot runs, or it is marked bad and the next slot or recovery follows. -/
  | slotVerifyDone (corrected : Nat := 0) (bad : Bool := false)
  /-- SB_STATUS (R74): The sideband STATUS command returns SYS_BOOTSTAT and SYS_RESETCAUSE. -/
  | sbStatus
  /-- TALLY_OPEN (R489): The sideband OPEN command freezes the log, sets the cursor to the newest head and returns TAL_STAT and TAL_HEADSEQ. -/
  | tallyOpen
  /-- TALLY_READ (R489): The sideband READ command returns the slot at the cursor and steps the cursor to the next older slot. -/
  | tallyRead (corrected : Nat := 0) (bad : Bool := false)
  /-- TALLY_CLOSE (R489): The sideband CLOSE command ends the session and the freeze. -/
  | tallyClose
  /-- TALLY_SESSION_TIMEOUT (R489): 1 s has passed since the last window command, and the sideband session ends. -/
  | tallySessionTimeout
  /-- EXCHANGE_TIMEOUT (R81): An exchange has not completed within 4 Sync intervals; it is dropped and counted in TIM_CNT_DISC. -/
  | exchangeTimeout
  /-- SYNC_TIMEOUT (R85): No valid Sync has arrived for 8 Sync intervals, and the servo enters HOLDOVER. -/
  | syncTimeout
  /-- ANNOUNCE_TIMEOUT (R85): No Announce has arrived for 3 Announce intervals, and the servo enters HOLDOVER. -/
  | announceTimeout
  /-- HOLDOVER_LIMIT (R91): The holdover limit passes; HOLD_EXPIRED is set, an alarm is raised and a tally record is written. -/
  | holdoverLimit
  /-- SERVO_DISABLE (R88): A write of TIM_CTRL.SERVO_EN = 0 puts the servo in FREERUN at once and freezes y. -/
  | servoDisable
  /-- PPS_OUT_RISE (R106): A whole second of the time counter arrives, and PPS_OUT rises once the servo has locked. -/
  | ppsOutRise
  /-- PPS_OUT_FALL (R106): The PPS_OUT pulse width expires and PPS_OUT returns low. -/
  | ppsOutFall
  /-- FULL_CAL_DONE (R135): The converter and synthesizer calibration after apply completes, and CAL_DONE is set. -/
  | fullCalDone
  /-- RUN_PREPARE (R137): Subframe 9 of frame F − 1 before a START fires the SERVE 1 actions of the new run. -/
  | runPrepare
  /-- RUN_START (R136): Tick 0 of the START frame; carried state is initialised and the run state becomes RUNNING. -/
  | runStart
  /-- STOP_BOUNDARY (R138): The STOP boundary is reached; the STOP mute cause is set, receive output stops and prepared work is winnowed. -/
  | stopBoundary
  /-- STOP_COMPLETE (R138): Subframe 0 after the STOP boundary ends; outputs go to their idle states and the run state becomes READY. -/
  | stopComplete
  /-- KEEPALIVE_EXPIRY (R33): The M-plane keep-alive timeout expires; TX mutes, an alarm is raised and a tally record is written. -/
  | keepaliveExpiry
  /-- KEEPALIVE_MUTE_LIFT (R33): The qualifying frame boundary after the host's next valid message arrives, and the keep-alive mute lifts. -/
  | keepaliveMuteLift
  /-- STEP_MUTE_RELEASE (R93): The first frame boundary past the high-water mark arrives, and the backward-step mute releases. -/
  | stepMuteRelease
  /-- UP_RESTART (R168): LNK_PCTL.UP_RESTART restarts upstream bring-up, or is refused during a run. -/
  | upRestart
  /-- CAS_RESTART (R168): LNK_PCTL.CAS_RESTART restarts cascade bring-up, or is refused during a run. -/
  | casRestart
  /-- SEGMENT_STATUS_CHANGE (R210): A new segment boundary status takes effect at its frame boundary, and SEGMENTS is raised. -/
  | segmentStatusChange
  /-- NACK_LOST (R178): Room returns in the answer queue, and one NACK_LOST reports the discarded answers. -/
  | nackLost
  /-- TREE_BUILD_DONE (R471): A bottom identity tree finishes building, and attestation becomes ready. -/
  | treeBuildDone
  /-- DESCRIPTOR_READ (R418): A read of DMA_DWIN_RDLO returns the low half and captures the high half. -/
  | descriptorRead
  /-- BARRIER_RELEASE (R430): A channel waiting at a BARRIER finds its conditions met and proceeds. -/
  | barrierRelease
  /-- SCAN_PASS_START (R442): The gap between scan passes expires, and a new pass starts with the current mask. -/
  | scanPassStart
  /-- MON_CAL (R444): MON_CTRL.CAL requests a monitor ADC calibration. -/
  | monCal
  /-- DRAM_TRAIN (R406): MEM_DCTL.TRAIN starts retraining, or full training after a failure, or sets REFUSED. -/
  | dramTrain
  /-- SELF_REFRESH_ENTRY (R408): SR_IDLE ms pass with no DRAM request, and the controller enters self-refresh. -/
  | selfRefreshEntry
  /-- TALLY_CLEAR_DONE (R491): The overwriting of the log after LOG_CLEAR completes. -/
  | tallyClearDone
  /-- OPTIME_PERSIST (R481): The 60 s interval expires, and operating time is persisted to the loft. -/
  | optimePersist
  /-- MEDIA_CLEAR (R494): Writing 1 to TAL_STAT.MEDIA releases ALERT_N. -/
  | mediaClear
  /-- TIME_READ (R109): A read of TIM_NOW0 captures TIM_NOW1 and TIM_NOW2. -/
  | timeRead
  /-- COUNTER_READ (R477): A read of SEC_CTR_LO captures SEC_CTR_HI. -/
  | counterRead
  /-- BANK_READ_I (R284): A read of DPD_BANKI captures DPD_BANKQ. -/
  | bankReadI
  /-- BANK_READ_Q (R284): A read of DPD_BANKQ advances DPD_BANKSEL.TERM by 1. -/
  | bankReadQ
  deriving DecidableEq, Repr

end Sys2Proof
end

