-- ==== Sys2Proof/Config.lean ====
section
/-! DEFINITION. The values the spec leaves open, as constants without a body: nothing constrains them. -/

namespace Sys2Proof.Config

/-- SEV of an alarm code whose severity the spec does not state (R202); the model takes it modulo 3. (Log: 42 DESIGN CHOICE) -/
opaque alarmSev : Nat → Nat

/-- Setting of a transmit FIR tap (0 pre, 1 main, 2 post) after a preset request or at the start of training (R153). (Log: 165 DESIGN CHOICE) -/
opaque firPreset : Nat → Nat

/-- Whether the filter of RESET_N takes a level that holds between 0.7 and 1.3 µs, by the step's free counter (R42). (Log: 228 DESIGN CHOICE) -/
opaque resetBand : Nat → Bool

/-- Layers that a port direction carries with a count of lanes in its map: port (0 upstream, 1 cascade), direction
(0 downlink, 1 uplink), lanes, of the DEGRADE section's bytes, whose layout the spec does not give (R163). (Log: 50 DESIGN CHOICE) -/
opaque degrade : List Byte → Nat → Nat → Nat → Nat

/-- Load in kbit/s that a sheaf, by its digest, reserves on a port direction with a count of U-plane layers: the bytes of the messages it
schedules, which RESERVE or the class 16 actions give in a layout that the spec does not state (R126, R163). (Log: 50 DESIGN CHOICE) -/
opaque linkLoad : List Byte → Nat → Nat → Nat → Nat

/-- A choice the spec leaves open among several that it allows, by the step's free counter: which of two middle steps, which of
several widest runs (R402). (Log: 7 DESIGN CHOICE) -/
opaque pick : Nat → Nat

/-- An address of the granary (space 0) or DRAM (space 1) lies in a range that a sheaf reserves; the layout of RESERVE is
not given (R126, R417). (Log: 50 DESIGN CHOICE) -/
opaque reserved : List Byte → Nat → Nat → Bool

/-- How many furrows a FURROWS section holds, and where the table of a furrow begins and how many actions it has: R121 gives the action
words, and no rule gives the section's division into tables (R113, R124). (Log: 252 DESIGN CHOICE) -/
opaque furrowCount : List Byte → Nat
/-- (Log: 252 DESIGN CHOICE) -/
opaque furrowTable : List Byte → Nat → Nat × Nat

/-- Bytes of protected traffic that a sheaf, by its digest, reserves at most in 3 consecutive marker intervals of a port direction (R160):
port (0 upstream, 1 cascade), direction (0 downlink, 1 uplink), rate code, on which the marker interval depends (R147). (Log: 50 DESIGN CHOICE) -/
opaque linkBurst : List Byte → Nat → Nat → Nat → Nat

/-- How far a component of a sounding-derived beam lies from the exact power iteration, and how POWER is rounded: a function of
the symbol's frequency samples, the request (group size, vectors, iterations) and the component (R306). (Log: 132 DESIGN CHOICE) -/
opaque soundErr : List (List (Int × Int)) → List Nat → Nat → Nat

/-- The PSEL with which a class 19 operation on a descriptor starts a sounding kernel of a TILEIMG section, none where it does not
start that kernel: R386 gives neither. (Log: 259 DESIGN CHOICE) -/
opaque soundBlock : List Byte → Nat → Nat → Nat → Option Nat

/-- The monitor ADC's factory coefficients in the loft, as the word MON_CALCOEF shows; the layout of the factory range is not given (R443). (Log: 138 DESIGN CHOICE) -/
opaque monFactory : Nat

/-- A byte of DRAM that nothing has written since its content was last lost, by the number of losses and the address (R406). (Log: 95 DESIGN CHOICE) -/
opaque dramLost : Nat → Nat → Nat

/-- The operations of a bundle of 16 bytes, none where it does not decode: the bit encoding of bundles is no part of the contract (R369, R386). (Log: 144 DESIGN CHOICE) -/
opaque bundle : List Byte → Option (List Machine.TOp)

/-- What a tile writes where the rules give no result: a shift amount above its range (ACCRD 0, SSHL 1, SSHR 2), the bits that a right
shift of a negative scalar brings in (SSHR), the update of BREV with a length that is no power of two (3), the key of SRED before any
SMAX or SMIN (4). A function of the operation and its operands, so that nothing else reaches the outputs
(R140, R141). (Log: 142 DESIGN CHOICE) -/
opaque tileFree : Nat → List Int → Nat

/-- Whether the CFR engine rounds an inexact quotient of these numbers up: R231 gives the precision and no rounding. (Log: 157 DESIGN CHOICE) -/
opaque cfrRound : Int → Nat → Nat

/-- Magnitude, in units of 2^-16, that the peak search of R231 compares with beyond the first (side 0) and last (side 1) sample of an
engine symbol, by the symbol's samples and side. (Log: 157 DESIGN CHOICE) -/
opaque cfrEdge : List (Int × Int) → Nat → Nat

/-- The CFR set of a path before the first SELECT of a run; above 7, none. (Log: 157 DESIGN CHOICE) -/
opaque cfrFirst : Nat → Nat

/-- The portIdentity by which the device's PTP port names itself, byte by byte: the spec does not give it. -/
opaque ptpPort : Nat → Nat

/-- sequenceId of the device's first Delay_Req after a reset, and the originTimestamp bytes of the n-th, which the spec does not give. -/
opaque ptpSeq : Nat
opaque ptpStamp : Nat → Nat → Nat

/-- The change of y that the servo makes on an offset (R86 bounds it and gives no law); a function of the step's free counter and the
offset. -/
opaque slew : Nat → Int → Int

/-- A path on which the applied sheaf, by its digest, transmits (TXC_PATHCTL_n.USED): no field that the spec lays out says so. (Log: 50 DESIGN CHOICE) -/
opaque txUsed : List Byte → Nat → Bool

/-- The beams, with their IDs, of a BEAMS section, whose layout the spec does not give. (Log: 50 DESIGN CHOICE) -/
opaque beams : List Byte → List (Nat × List Byte)

/-- DEEPCAP as a sheaf reserves it (R205): offset in DRAM, and bytes. The layout of RESERVE is not given. (Log: 50 DESIGN CHOICE) -/
opaque deepcap : List Byte → Nat × Nat

/-- Which of the two values of R222 g takes at -48: 4,115 by the formula or 4,116 by its note. (Log: 227 DEDUCED) -/
opaque gainLeast : Nat

/-- Whether round() of R228 takes a tie up, by the value in units of 2^-40 of the sum: the rule does not say. (Log: 225 DESIGN CHOICE) -/
opaque ifftTie : Int → Bool

/-- A carrier's engine-rate sample before its shift (R229), by the engine samples in a carrier sample, the carrier samples of the engine
symbol before and of this one, and the sample's place: the taps of the interpolator are not given. (Log: 226 DESIGN CHOICE) -/
opaque interpolate : Nat → List (Int × Int) → List (Int × Int) → Nat → Int × Int

/-- Whether an inexact product of a carrier shift rounds up, by the product in units of 2^-40: R229 and R286 do not say. (Log: 226 DESIGN CHOICE) -/
opaque shiftRound : Int → Nat

/-- The gain compensation of a path at an attenuation, as a Q6.10 number, by path, attenuation and the calibration it comes from (R289). (Log: 256 DESIGN CHOICE) -/
opaque rxGain : Nat → Nat → Nat → Nat

/-- The taps of the decimation filter of R286 and R293 in units of 2^-30, by filter set and decimation ratio: R293 gives their response
and not the taps. (Log: 257 DESIGN CHOICE) -/
opaque decimTaps : Nat → Nat → List Int

/-- Whether an inexact product with the gain compensation rounds up, by the product in units of 2^-40: R286 does not say. (Log: 257 DESIGN CHOICE) -/
opaque compRound : Int → Nat

/-- The taps of a gleaner's decimation in units of 2^-30, by the ADC codes to an engine sample: R325 gives neither them nor their response. (Log: 271 DESIGN CHOICE) -/
opaque gleanTaps : Nat → List Int

/-- A tap of the fractional-delay filter of R280, in units of 2^-30, by f in 1/64 of a sample and the tap's number. (Log: 149 DESIGN CHOICE) -/
opaque delayTap : Int → Nat → Int

/-- Data words of a D-plane DATA message, by the step's free counter: R205 gives its largest size alone. (Log: 51 DESIGN CHOICE) -/
opaque dataWords : Nat → Nat

/-- A byte that LMS or LM-OTS derives from the identity seed (R471): which value of which leaf, and its place. The spec does not say how the
key follows from the seed. (Log: 52 DESIGN CHOICE) -/
opaque identityByte : List Byte → List Nat → Nat → Nat

/-- A byte of an LM-OTS signature of the identity key: seed, leaf, the message that it signs, and the byte's place among the randomizer and
the chain values (R471, R474). (Log: 52 DESIGN CHOICE) -/
opaque identityOts : List Byte → List Nat → List Byte → Nat → Nat

end Sys2Proof.Config
end

