-- ==== Sys2Proof/Machine/Num.lean ====
section
/-! DEFINITION. Exact arithmetic that several blocks share: searches over monotone predicates, rounding, saturation, logarithms and
angles by integer arithmetic, complex numbers. -/

namespace Sys2Proof.Machine

/-- The largest number below 2^n, from `acc` on, that a falling predicate admits. -/
def bitSearch (p : Nat → Bool) : Nat → Nat → Nat
  | 0, acc => acc
  | n + 1, acc => if p (acc + 2 ^ n) then bitSearch p n (acc + 2 ^ n) else bitSearch p n acc

/-- The square root, rounded down, of a number below 2^(2n). -/
def isqrt (n x : Nat) : Nat := bitSearch (fun r => decide (r * r ≤ x)) n 0

/-- Nearest integer of a quotient; a tie goes up. -/
def roundDiv (a : Int) (b : Nat) : Int := (2 * a + b) / (2 * b)

/-- Arithmetic right shift, rounding half up; a shift of 0 changes nothing. -/
def shiftUp (n : Nat) (v : Int) : Int := if n = 0 then v else (v + 2 ^ (n - 1)) / 2 ^ n

/-- Limit a value to `m` bits, two's complement. -/
def sat (m : Nat) (v : Int) : Int := max (-(2 ^ (m - 1) : Nat)) (min ((2 ^ (m - 1) : Nat) - 1) v)

/-- `n` log10 of a quotient, rounded down. -/
def logFloor (n num den : Nat) : Int :=
  if den ≤ num then ((bitSearch (fun k => decide (10 ^ k * den ^ n ≤ num ^ n)) 16 0 : Nat) : Int)
  else
    let k := bitSearch (fun k => decide (num ^ n * 10 ^ k < den ^ n)) 16 0
    Int.negSucc k

/-- pi in units of 2^-96. -/
def pi96 : Nat := 0x3243f6a8885a308d313198a2e

/-- The sine of an angle, both in units of 2^-96, by its power series; exact to about 2^-80 for angles up to pi / 2. -/
def sinSeries : Nat → Int → Int → Nat → Int → Int
  | 0, acc, _, _, _ => acc
  | n + 1, acc, term, j, x2 =>
    let t := -(term * x2 / 2 ^ 96 / ((2 * j) * (2 * j + 1) : Nat))
    sinSeries n (acc + t) t (j + 1) x2

/-- The sine of `num` pi / `den`, at most pi / 2, in units of 2^-96. -/
def sinPi (num den : Nat) : Int :=
  let x : Int := (pi96 * num / den : Nat)
  sinSeries 16 x x 1 (x * x / 2 ^ 96)

/-- cos and sin of 2 pi r / n in units of 2^-96; n is a multiple of 4. (Log: 225 DESIGN CHOICE) -/
def circle (r n : Nat) : Int × Int :=
  let s := sinPi (2 * (r % (n / 4))) n
  let c := sinPi (n / 2 - 2 * (r % (n / 4))) n
  match r * 4 / n % 4 with
  | 0 => (c, s)
  | 1 => (-s, c)
  | 2 => (-c, -s)
  | _ => (s, -c)

/-- The angle of a point of the first quadrant (off the vertical axis), in units of pi / 32,768, rounded down. -/
def angleFirst (i q : Int) : Nat := bitSearch (fun k => decide (i * sinPi k 32768 ≤ q * sinPi (16384 - k) 32768)) 14 0

/-- The angle of a point from -32,768 to 32,767 in units of pi / 32,768, rounded towards the axis before it. -/
def angleOf (i q : Int) : Int :=
  if 0 < i ∧ 0 ≤ q then angleFirst i q
  else if i ≤ 0 ∧ 0 < q then 16384 + angleFirst q (-i)
  else if i < 0 ∧ q ≤ 0 then (angleFirst (-i) (-q) : Int) - 32768
  else (angleFirst (-q) i : Int) - 16384

-- Complex numbers

def cadd (a b : Int × Int) : Int × Int := (a.1 + b.1, a.2 + b.2)
def cmul (a b : Int × Int) : Int × Int := (a.1 * b.1 - a.2 * b.2, a.1 * b.2 + a.2 * b.1)
def cconj (a : Int × Int) : Int × Int := (a.1, -a.2)
def cnorm (a : Int × Int) : Nat := (a.1 * a.1 + a.2 * a.2).toNat

/-- The sum of the products of two vectors, without conjugation. -/
def cdot (a b : List (Int × Int)) : Int × Int := (a.zip b).foldl (fun r x => cadd r (cmul x.1 x.2)) (0, 0)

/-- An entry of a list of complex numbers; beyond it 0. -/
def cAt (l : List (Int × Int)) (i : Nat) : Int × Int := (l.drop i).head?.getD (0, 0)

/-- A part of a product of a carrier shift, given in units of 2^-40. (Log: 226 DESIGN CHOICE) -/
def turnRound (v : Int) : Int := v / 2 ^ 40 + if v % 2 ^ 40 = 0 then 0 else ((Config.shiftRound v % 2 : Nat) : Int)

/-- A sample turned by `i` times `k` of `n` parts of a full circle (R229, R286); the product is exact to 2^-40. (Log: 226 DESIGN CHOICE) -/
def turned (k : Int) (n i : Nat) (x : Int × Int) : Int × Int :=
  let q := cmul x (circle (k * (i : Int) % (n : Int)).toNat n)
  (turnRound (roundDiv q.1 (2 ^ 56)), turnRound (roundDiv q.2 (2 ^ 56)))

/-- round() of a value in units of 2^-m; a tie goes either way. (Log: 225 DESIGN CHOICE) -/
def roundTie (m : Nat) (v : Int) : Int :=
  if v % 2 ^ m * 2 = 2 ^ m then v / 2 ^ m + (if Config.ifftTie v then 1 else 0) else roundDiv v (2 ^ m)

end Sys2Proof.Machine
end

