-- ==== Sys2Proof/Machine/Bytes.lean ====
section
/-! DEFINITION. Byte strings: little- and big-endian fields, signed fields, and the check codes of R170. -/

namespace Sys2Proof.Machine

/-- Little-endian number of a byte string (R171: multi-byte fields are little-endian). -/
def leNat : List Byte → Nat
  | [] => 0
  | b :: r => b.toNat + 256 * leNat r

/-- `n` bytes of a number, little-endian. -/
def leBytes : Nat → Nat → List Byte
  | 0, _ => []
  | n + 1, x => BitVec.ofNat 8 x :: leBytes n (x / 256)

/-- Field of `n` bytes at offset `o`, little-endian; bytes beyond the end read as 0. -/
def leAt (bs : List Byte) (o n : Nat) : Nat := leNat ((bs.drop o).take n)

/-- Field of `n` bytes at offset `o`, big-endian (R78: the enclosed PTP message). -/
def beAt (bs : List Byte) (o n : Nat) : Nat := leNat ((bs.drop o).take n).reverse

/-- `n` bytes of a number, big-endian. -/
def beBytes (n x : Nat) : List Byte := (leBytes n x).reverse

/-- Two's complement reading of a `w`-bit number. -/
def signed (w x : Nat) : Int := if x % 2 ^ w < 2 ^ (w - 1) then (x % 2 ^ w : Nat) else ((x % 2 ^ w : Nat) : Int) - 2 ^ w

/-- Two's complement `w`-bit pattern of an integer. -/
def unsigned (w : Nat) (x : Int) : Nat := (x % (2 ^ w : Nat)).toNat

/-- All bytes of a field are 0. -/
def zeroAt (bs : List Byte) (o n : Nat) : Bool := ((bs.drop o).take n).all (· == 0)

/-- One bit of the reflected CRC-32C of R170 (0x82F6_3B78 is 0x1EDC_6F41 reflected). -/
def crc32cBit (c : BitVec 32) : BitVec 32 := if c.getLsbD 0 then (c >>> 1) ^^^ 0x82F63B78#32 else c >>> 1

/-- CRC-32C over a byte string (R170). -/
def crc32c (bs : List Byte) : BitVec 32 :=
  (bs.foldl (fun c b => (List.range 8).foldl (fun c _ => crc32cBit c) (c ^^^ b.setWidth 32)) 0xFFFFFFFF#32) ^^^ 0xFFFFFFFF#32

/-- One bit of the CRC-16 of R170 (polynomial 0x1021, not reflected). -/
def crc16Bit (c : BitVec 16) : BitVec 16 := if c.getLsbD 15 then (c <<< 1) ^^^ 0x1021#16 else c <<< 1

/-- CRC-16 over a byte string: the HCRC of R170. -/
def crc16 (bs : List Byte) : BitVec 16 :=
  bs.foldl (fun c b => (List.range 8).foldl (fun c _ => crc16Bit c) (c ^^^ BitVec.shiftLeft (b.setWidth 16) 8)) 0xFFFF#16

/-- Bits [hi:lo] of a number. -/
def bits (x hi lo : Nat) : Nat := x / 2 ^ lo % 2 ^ (hi - lo + 1)

/-- Bit `i` of a number. -/
def bit (x i : Nat) : Bool := x / 2 ^ i % 2 == 1

/-- Serial-number order of R521: `a` is later than `b` at width `w`. -/
def later (w a b : Nat) : Bool := 0 < (a + 2 ^ w - b % 2 ^ w) % 2 ^ w && (a + 2 ^ w - b % 2 ^ w) % 2 ^ w < 2 ^ (w - 1)

end Sys2Proof.Machine
end

