-- ==== Sys2Proof/Machine/RegMap.lean ====
section
/-! DEFINITION. The register map of the block: every register of spec/19_register_reference.md (R497 to R519) with its
address, its instances, its reset value and, per access code of R11, the mask of the bits that carry the code; and
every named field of the field tables of chapters 02 to 18 as a constant of the namespace Sys2Proof.Machine.R. -/

namespace Sys2Proof.Machine

/-- A field of a register: the register's address and the field's bit range [hi:lo] (00_scope.md, Registers and fields). -/
structure Fld where
  addr : Nat
  hi : Nat
  lo : Nat
  deriving DecidableEq, Repr

/-- How many instances a register has, and on which parts (R498). -/
inductive Inst where
  | one | only64 | path | lane | channel | monCh | monSlot | byteLane | chain
  deriving DecidableEq, Repr

/-- One row of the tables of R502 to R517: address of instance 0, instances, masks of the bits of each access code,
and the reset value on 64-path and on 32-path parts ("Per part", "Per loft", "Per image", "Per cause" and
"Per history" rows hold 0 here: State and Ops give those registers their value). -/
structure RegDesc where
  addr : Nat
  inst : Inst
  rw : Nat
  w1c : Nat
  ws : Nat
  wo : Nat
  reset64 : Nat
  reset32 : Nat
  deriving DecidableEq, Repr

/-- R502: the SYS registers. -/
def RegMap.sys : List RegDesc := [
  ⟨0x0, .one, 0x0, 0x0, 0x0, 0x0, 0x0, 0x0⟩,
  ⟨0x4, .one, 0x0, 0x0, 0x0, 0x0, 0x0, 0x0⟩,
  ⟨0x8, .one, 0x0, 0x0, 0x0, 0x0, 0x0, 0x0⟩,
  ⟨0xc, .one, 0x0, 0x0, 0x0, 0x0, 0x0, 0x0⟩,
  ⟨0x20, .one, 0x0, 0x1ff, 0x0, 0x0, 0x0, 0x0⟩,
  ⟨0x24, .one, 0x0, 0x0, 0x0, 0x0, 0x0, 0x0⟩,
  ⟨0x28, .one, 0x0, 0x2, 0x1, 0xff00, 0x0, 0x0⟩
  ]

/-- R503: the PWR registers. -/
def RegMap.pwr : List RegDesc := [
  ⟨0x10000, .one, 0x0, 0x0, 0x0, 0x0, 0x13fff, 0x133ff⟩,
  ⟨0x10004, .one, 0x0, 0x3fff, 0x0, 0x0, 0x0, 0x0⟩
  ]

/-- R504: the TIM registers. -/
def RegMap.tim : List RegDesc := [
  ⟨0x20000, .one, 0xfff3f, 0x0, 0x0, 0x0, 0xc0000, 0xc0000⟩,
  ⟨0x20004, .one, 0x0, 0x1e0, 0x0, 0x0, 0x0, 0x0⟩,
  ⟨0x20008, .one, 0x0, 0x0, 0x0, 0x0, 0x0, 0x0⟩,
  ⟨0x2000c, .one, 0xfffff, 0x0, 0x0, 0x0, 0x3e8, 0x3e8⟩,
  ⟨0x20010, .one, 0xffff, 0x0, 0x0, 0x0, 0x32, 0x32⟩,
  ⟨0x20014, .one, 0xffff, 0x0, 0x0, 0x0, 0x64, 0x64⟩,
  ⟨0x20018, .one, 0x1ffff, 0x0, 0x0, 0x0, 0x0, 0x0⟩,
  ⟨0x20020, .one, 0x0, 0x0, 0x0, 0x0, 0x0, 0x0⟩,
  ⟨0x20024, .one, 0x0, 0x0, 0x0, 0x0, 0x0, 0x0⟩,
  ⟨0x20028, .one, 0x0, 0x0, 0x0, 0x0, 0x0, 0x0⟩,
  ⟨0x2002c, .one, 0xffffffff, 0x0, 0x0, 0x0, 0x0, 0x0⟩,
  ⟨0x20030, .one, 0xffffffff, 0x0, 0x0, 0x0, 0x0, 0x0⟩,
  ⟨0x20034, .one, 0x1fffff, 0x0, 0x0, 0x0, 0x0, 0x0⟩,
  ⟨0x20038, .one, 0xffff03ff, 0x0, 0x0, 0x0, 0x3e80064, 0x3e80064⟩,
  ⟨0x2003c, .one, 0x0, 0x0, 0x0, 0x0, 0x0, 0x0⟩,
  ⟨0x20040, .one, 0xffff000f, 0x0, 0x0, 0x0, 0x80000, 0x80000⟩,
  ⟨0x20044, .one, 0x0, 0x0, 0x0, 0x0, 0x0, 0x0⟩,
  ⟨0x20048, .one, 0x0, 0x0, 0x0, 0x0, 0x0, 0x0⟩,
  ⟨0x2004c, .one, 0x0, 0x0, 0x0, 0x0, 0x0, 0x0⟩,
  ⟨0x20050, .one, 0x0, 0x0, 0x0, 0x0, 0x0, 0x0⟩,
  ⟨0x20054, .one, 0x0, 0x0, 0x0, 0x0, 0x0, 0x0⟩,
  ⟨0x20058, .one, 0x0, 0x0, 0x0, 0x0, 0x0, 0x0⟩,
  ⟨0x2005c, .one, 0x0, 0x0, 0x0, 0x0, 0x0, 0x0⟩,
  ⟨0x20060, .one, 0x0, 0x0, 0x0, 0x0, 0x0, 0x0⟩,
  ⟨0x20064, .one, 0x0, 0x1f, 0x0, 0x0, 0x0, 0x0⟩
  ]

/-- R505: the SHF registers. -/
def RegMap.shf : List RegDesc := [
  ⟨0x30000, .one, 0x0, 0x0, 0x0, 0x0, 0x0, 0x0⟩,
  ⟨0x30004, .one, 0x0, 0x0, 0x0, 0x0, 0x0, 0x0⟩,
  ⟨0x30008, .one, 0x0, 0x0, 0x0, 0x0, 0x0, 0x0⟩,
  ⟨0x3000c, .one, 0x0, 0x0, 0x0, 0x0, 0x3, 0x3⟩,
  ⟨0x30010, .one, 0x0, 0x0, 0x0, 0x0, 0x0, 0x0⟩,
  ⟨0x30014, .one, 0x0, 0x0, 0x0, 0x0, 0x0, 0x0⟩,
  ⟨0x30020, .one, 0x0, 0x0, 0x0, 0x0, 0x0, 0x0⟩,
  ⟨0x30024, .one, 0x0, 0x0, 0x0, 0x0, 0x0, 0x0⟩,
  ⟨0x30028, .one, 0x0, 0x0, 0x0, 0x0, 0x0, 0x0⟩,
  ⟨0x3002c, .one, 0x0, 0x0, 0x0, 0x0, 0x0, 0x0⟩,
  ⟨0x30030, .one, 0x0, 0x0, 0x0, 0x0, 0x0, 0x0⟩,
  ⟨0x30034, .one, 0x0, 0x0, 0x0, 0x0, 0x0, 0x0⟩,
  ⟨0x30038, .one, 0x0, 0x0, 0x0, 0x0, 0x0, 0x0⟩,
  ⟨0x3003c, .one, 0x0, 0x0, 0x0, 0x0, 0x0, 0x0⟩,
  ⟨0x30040, .one, 0x0, 0x0, 0x0, 0x0, 0x0, 0x0⟩,
  ⟨0x30044, .one, 0x0, 0x0, 0x0, 0x0, 0x0, 0x0⟩,
  ⟨0x30048, .one, 0x0, 0x0, 0x0, 0x0, 0x0, 0x0⟩,
  ⟨0x3004c, .one, 0x0, 0x0, 0x0, 0x0, 0x0, 0x0⟩,
  ⟨0x30050, .one, 0x0, 0x0, 0x0, 0x0, 0x0, 0x0⟩,
  ⟨0x30054, .one, 0x0, 0x0, 0x0, 0x0, 0x0, 0x0⟩,
  ⟨0x30058, .one, 0x0, 0x0, 0x0, 0x0, 0x0, 0x0⟩,
  ⟨0x3005c, .one, 0x0, 0x0, 0x0, 0x0, 0x0, 0x0⟩,
  ⟨0x30080, .one, 0x0, 0x0, 0x0, 0x0, 0x0, 0x0⟩,
  ⟨0x30084, .one, 0x0, 0x0, 0x0, 0x0, 0x0, 0x0⟩,
  ⟨0x30088, .one, 0x0, 0x0, 0x0, 0x0, 0x0, 0x0⟩,
  ⟨0x3008c, .one, 0x0, 0x0, 0x0, 0x0, 0x0, 0x0⟩,
  ⟨0x30090, .one, 0x0, 0x0, 0x0, 0x0, 0x0, 0x0⟩,
  ⟨0x30094, .one, 0x0, 0x0, 0x0, 0x0, 0x0, 0x0⟩,
  ⟨0x30098, .one, 0x0, 0x3f, 0x0, 0x0, 0x0, 0x0⟩,
  ⟨0x300a0, .one, 0xfff, 0x0, 0x0, 0x0, 0x0, 0x0⟩,
  ⟨0x300a4, .one, 0x0, 0x80000000, 0x0, 0x0, 0x0, 0x0⟩
  ]

/-- R506: the LNK registers. -/
def RegMap.lnk : List RegDesc := [
  ⟨0x40000, .one, 0xf1f3, 0x0, 0x0, 0x0, 0x1010, 0x1010⟩,
  ⟨0x40004, .one, 0x0, 0x0, 0x3, 0x0, 0x0, 0x0⟩,
  ⟨0x40008, .one, 0x0, 0x0, 0x0, 0x0, 0x0, 0x0⟩,
  ⟨0x4000c, .one, 0x0, 0x0, 0x0, 0x0, 0x0, 0x0⟩,
  ⟨0x40010, .one, 0x0, 0x0, 0x0, 0x0, 0x0, 0x0⟩,
  ⟨0x40014, .one, 0x0, 0x0, 0x0, 0x0, 0x0, 0x0⟩,
  ⟨0x40018, .one, 0xffffff, 0x0, 0x0, 0x0, 0x0, 0x0⟩,
  ⟨0x4001c, .one, 0x0, 0x0, 0x0, 0x0, 0x0, 0x0⟩,
  ⟨0x40020, .one, 0x0, 0x7f, 0x0, 0x0, 0x0, 0x0⟩,
  ⟨0x40040, .one, 0x0, 0x0, 0x0, 0x0, 0x30, 0x30⟩,
  ⟨0x40044, .one, 0x0, 0x10, 0x0, 0x0, 0x0, 0x0⟩,
  ⟨0x40048, .one, 0x0, 0x0, 0x0, 0x0, 0x0, 0x0⟩,
  ⟨0x4004c, .one, 0x0, 0x0, 0x0, 0x0, 0x0, 0x0⟩,
  ⟨0x40050, .one, 0x0, 0x0, 0x0, 0x0, 0x0, 0x0⟩,
  ⟨0x40054, .one, 0x0, 0x0, 0x0, 0x0, 0x0, 0x0⟩,
  ⟨0x40058, .one, 0x0, 0x0, 0x0, 0x0, 0x0, 0x0⟩,
  ⟨0x4005c, .one, 0x0, 0x0, 0x0, 0x0, 0x0, 0x0⟩,
  ⟨0x40060, .one, 0x0, 0x0, 0x0, 0x0, 0x0, 0x0⟩,
  ⟨0x40064, .one, 0x0, 0x0, 0x0, 0x0, 0x0, 0x0⟩,
  ⟨0x40068, .one, 0x0, 0x0, 0x0, 0x0, 0x0, 0x0⟩,
  ⟨0x4006c, .one, 0x0, 0x1ff, 0x0, 0x0, 0x0, 0x0⟩,
  ⟨0x40070, .one, 0x0, 0x0, 0x0, 0x0, 0x0, 0x0⟩,
  ⟨0x41000, .lane, 0x0, 0x0, 0x0, 0x0, 0x0, 0x0⟩,
  ⟨0x41004, .lane, 0x9, 0x10, 0x6, 0x0, 0x0, 0x0⟩,
  ⟨0x41008, .lane, 0x0, 0x0, 0x0, 0x0, 0x0, 0x0⟩,
  ⟨0x41010, .lane, 0x0, 0x0, 0x0, 0x0, 0x0, 0x0⟩,
  ⟨0x41014, .lane, 0x0, 0x0, 0x0, 0x0, 0x0, 0x0⟩,
  ⟨0x41018, .lane, 0x0, 0x0, 0x0, 0x0, 0x0, 0x0⟩,
  ⟨0x4101c, .lane, 0x0, 0x0, 0x0, 0x0, 0x0, 0x0⟩,
  ⟨0x41020, .lane, 0x0, 0x0, 0x0, 0x0, 0x0, 0x0⟩,
  ⟨0x41024, .lane, 0x0, 0x0, 0x0, 0x0, 0x0, 0x0⟩,
  ⟨0x41028, .lane, 0x0, 0x3f, 0x0, 0x0, 0x0, 0x0⟩
  ]

/-- R507: the TXC registers. -/
def RegMap.txc : List RegDesc := [
  ⟨0x50000, .one, 0x0, 0x0, 0x0, 0x0, 0x0, 0x0⟩,
  ⟨0x50004, .one, 0x0, 0x0, 0x0, 0x0, 0x0, 0x0⟩,
  ⟨0x50008, .one, 0x0, 0x0, 0x0, 0x0, 0x0, 0x0⟩,
  ⟨0x5000c, .one, 0x0, 0x0, 0x0, 0x0, 0x0, 0x0⟩,
  ⟨0x50020, .one, 0x0, 0x0, 0x0, 0x0, 0x0, 0x0⟩,
  ⟨0x50024, .one, 0x0, 0x0, 0x0, 0x0, 0x0, 0x0⟩,
  ⟨0x50028, .one, 0x0, 0x0, 0x0, 0x0, 0x0, 0x0⟩,
  ⟨0x5002c, .one, 0x0, 0x0, 0x0, 0x0, 0x0, 0x0⟩,
  ⟨0x50030, .one, 0x0, 0xf, 0x0, 0x0, 0x0, 0x0⟩,
  ⟨0x50034, .one, 0x0, 0x10000, 0x0, 0x0, 0x8000, 0x8000⟩,
  ⟨0x51000, .path, 0x2, 0x0, 0x0, 0x0, 0x2, 0x2⟩,
  ⟨0x51004, .path, 0x0, 0x70, 0x0, 0x0, 0x0, 0x0⟩,
  ⟨0x51008, .path, 0x0, 0x0, 0x0, 0x0, 0x8000, 0x8000⟩,
  ⟨0x5100c, .path, 0x0, 0x0, 0x0, 0x0, 0x0, 0x0⟩,
  ⟨0x51010, .path, 0x0, 0x0, 0x0, 0x0, 0x0, 0x0⟩,
  ⟨0x51014, .path, 0x0, 0x0, 0x0, 0x0, 0x0, 0x0⟩,
  ⟨0x51018, .path, 0x0, 0x0, 0x0, 0x0, 0x0, 0x0⟩,
  ⟨0x5101c, .path, 0x0, 0x7, 0x0, 0x0, 0x0, 0x0⟩
  ]

/-- R508: the DPD registers. -/
def RegMap.dpd : List RegDesc := [
  ⟨0x60000, .one, 0x0, 0x0, 0x0, 0x0, 0x0, 0x0⟩,
  ⟨0x60004, .one, 0x3f333f, 0x0, 0x0, 0x0, 0x0, 0x0⟩,
  ⟨0x60008, .one, 0x0, 0x0, 0x0, 0x0, 0x0, 0x0⟩,
  ⟨0x6000c, .one, 0x0, 0x0, 0x0, 0x0, 0x0, 0x0⟩,
  ⟨0x60020, .one, 0x0, 0x0, 0x0, 0x0, 0x0, 0x0⟩,
  ⟨0x60024, .one, 0x0, 0x0, 0x0, 0x0, 0x0, 0x0⟩,
  ⟨0x60028, .one, 0x0, 0x0, 0x0, 0x0, 0x0, 0x0⟩,
  ⟨0x6002c, .one, 0x0, 0x7, 0x0, 0x0, 0x0, 0x0⟩,
  ⟨0x60030, .one, 0x0, 0x0, 0x0, 0x0, 0x0, 0x0⟩,
  ⟨0x60040, .one, 0x0, 0x0, 0x0, 0x0, 0x0, 0x0⟩,
  ⟨0x60044, .one, 0x0, 0x0, 0x0, 0x0, 0x0, 0x0⟩,
  ⟨0x60048, .one, 0x0, 0x0, 0x0, 0x0, 0x0, 0x0⟩,
  ⟨0x6004c, .one, 0x0, 0x0, 0x0, 0x0, 0x0, 0x0⟩,
  ⟨0x60050, .only64, 0x0, 0x0, 0x0, 0x0, 0x0, 0x0⟩,
  ⟨0x60054, .only64, 0x0, 0x0, 0x0, 0x0, 0x0, 0x0⟩,
  ⟨0x60058, .only64, 0x0, 0x0, 0x0, 0x0, 0x0, 0x0⟩,
  ⟨0x6005c, .only64, 0x0, 0x0, 0x0, 0x0, 0x0, 0x0⟩,
  ⟨0x61000, .path, 0x0, 0x0, 0x0, 0x0, 0x8, 0x8⟩,
  ⟨0x61004, .path, 0x0, 0x0, 0x0, 0x0, 0x0, 0x0⟩,
  ⟨0x61008, .path, 0x0, 0x0, 0x0, 0x0, 0x0, 0x0⟩,
  ⟨0x6100c, .path, 0x0, 0x0, 0x0, 0x0, 0x0, 0x0⟩,
  ⟨0x61010, .path, 0x0, 0x0, 0x0, 0x0, 0x0, 0x0⟩,
  ⟨0x61014, .path, 0x0, 0x0, 0x0, 0x0, 0x0, 0x0⟩,
  ⟨0x61018, .path, 0xf, 0x0, 0x0, 0x0, 0x8, 0x8⟩,
  ⟨0x61020, .path, 0x0, 0x0, 0x0, 0x0, 0x0, 0x0⟩,
  ⟨0x61024, .path, 0x0, 0x0, 0x0, 0x0, 0x0, 0x0⟩,
  ⟨0x61028, .path, 0x0, 0x0, 0x0, 0x0, 0x0, 0x0⟩,
  ⟨0x6102c, .path, 0x0, 0x0, 0x0, 0x0, 0x0, 0x0⟩,
  ⟨0x61030, .path, 0x0, 0xf, 0x0, 0x0, 0x0, 0x0⟩
  ]

/-- R509: the RXC registers. -/
def RegMap.rxc : List RegDesc := [
  ⟨0x70000, .one, 0x0, 0x0, 0x0, 0x0, 0x0, 0x0⟩,
  ⟨0x70004, .one, 0x0, 0x2, 0x0, 0x0, 0x0, 0x0⟩,
  ⟨0x70020, .one, 0x0, 0x0, 0x0, 0x0, 0x0, 0x0⟩,
  ⟨0x70024, .one, 0x0, 0x0, 0x0, 0x0, 0x0, 0x0⟩,
  ⟨0x70028, .one, 0x0, 0x0, 0x0, 0x0, 0x0, 0x0⟩,
  ⟨0x7002c, .one, 0x0, 0x0, 0x0, 0x0, 0x0, 0x0⟩,
  ⟨0x70030, .one, 0x0, 0x0, 0x0, 0x0, 0x0, 0x0⟩,
  ⟨0x70034, .one, 0x0, 0x1f, 0x0, 0x0, 0x0, 0x0⟩,
  ⟨0x71000, .path, 0x1f, 0x0, 0x0, 0x0, 0x1f, 0x1f⟩,
  ⟨0x71004, .path, 0x0, 0x0, 0x0, 0x0, 0x0, 0x0⟩,
  ⟨0x71008, .path, 0x0, 0x0, 0x0, 0x0, 0x0, 0x0⟩,
  ⟨0x7100c, .path, 0x0, 0x0, 0x0, 0x0, 0x0, 0x0⟩,
  ⟨0x71010, .path, 0x0, 0x0, 0x0, 0x0, 0x0, 0x0⟩,
  ⟨0x71014, .path, 0x0, 0x3, 0x0, 0x0, 0x0, 0x0⟩
  ]

/-- R510: the CNV registers. -/
def RegMap.cnv : List RegDesc := [
  ⟨0x80000, .one, 0x0, 0x0, 0x0, 0x0, 0x0, 0x0⟩,
  ⟨0x80010, .one, 0x0, 0x0, 0x0, 0x0, 0x0, 0x0⟩,
  ⟨0x80014, .one, 0x0, 0x0, 0x0, 0x0, 0x0, 0x0⟩,
  ⟨0x80018, .only64, 0x0, 0x0, 0x0, 0x0, 0x0, 0x0⟩,
  ⟨0x8001c, .only64, 0x0, 0x0, 0x0, 0x0, 0x0, 0x0⟩,
  ⟨0x80020, .one, 0x0, 0x2, 0x0, 0x0, 0x0, 0x0⟩,
  ⟨0x80024, .one, 0x0, 0x0, 0x0, 0x0, 0x0, 0x0⟩,
  ⟨0x80028, .one, 0x0, 0x1, 0x0, 0x0, 0x0, 0x0⟩,
  ⟨0x81000, .path, 0x0, 0x0, 0x0, 0x0, 0x1, 0x1⟩,
  ⟨0x81004, .path, 0x0, 0x0, 0x0, 0x0, 0x0, 0x0⟩,
  ⟨0x81008, .path, 0x0, 0x0, 0x0, 0x0, 0x0, 0x0⟩,
  ⟨0x8100c, .path, 0x0, 0x0, 0x0, 0x0, 0x0, 0x0⟩,
  ⟨0x81010, .path, 0x0, 0x0, 0x0, 0x0, 0x0, 0x0⟩,
  ⟨0x81020, .path, 0x0, 0x0, 0x0, 0x0, 0x1f0000, 0x1f0000⟩,
  ⟨0x81024, .path, 0x0, 0x0, 0x0, 0x0, 0x0, 0x0⟩,
  ⟨0x81028, .path, 0x0, 0x0, 0x0, 0x0, 0x1f0000, 0x1f0000⟩,
  ⟨0x8102c, .path, 0x0, 0x0, 0x0, 0x0, 0x0, 0x0⟩
  ]

/-- R511: the RFE registers. -/
def RegMap.rfe : List RegDesc := [
  ⟨0x90000, .one, 0x0, 0x0, 0x0, 0x0, 0x0, 0x0⟩,
  ⟨0x90004, .one, 0x0, 0x0, 0x1f, 0xf00, 0x0, 0x0⟩,
  ⟨0x90010, .one, 0x0, 0xc00, 0x0, 0x0, 0xe0, 0xe0⟩,
  ⟨0x90014, .one, 0x0, 0xc00, 0x0, 0x0, 0xe0, 0xe0⟩,
  ⟨0x90018, .only64, 0x0, 0xc00, 0x0, 0x0, 0xe0, 0xe0⟩,
  ⟨0x9001c, .only64, 0x0, 0xc00, 0x0, 0x0, 0xe0, 0xe0⟩,
  ⟨0x90020, .one, 0x0, 0x0, 0x0, 0x0, 0x0, 0x0⟩,
  ⟨0x90024, .one, 0x0, 0x0, 0x0, 0x0, 0x0, 0x0⟩,
  ⟨0x90028, .one, 0x0, 0x0, 0x0, 0x0, 0x0, 0x0⟩,
  ⟨0x9002c, .one, 0x0, 0x0, 0x0, 0x0, 0x0, 0x0⟩,
  ⟨0x90030, .one, 0x0, 0xf, 0x0, 0x0, 0x0, 0x0⟩,
  ⟨0x90040, .one, 0x7fffff, 0x4000000, 0x1000000, 0x0, 0x0, 0x0⟩,
  ⟨0x90044, .one, 0x0, 0x0, 0x0, 0x0, 0x0, 0x0⟩,
  ⟨0x90050, .one, 0x0, 0xffffffff, 0x0, 0x0, 0x0, 0x0⟩,
  ⟨0x90054, .one, 0x0, 0xffffffff, 0x0, 0x0, 0x0, 0x0⟩,
  ⟨0x90058, .one, 0x0, 0xff00, 0x0, 0x0, 0x0, 0x0⟩,
  ⟨0x9005c, .one, 0x0, 0x0, 0x0, 0x0, 0x0, 0x0⟩,
  ⟨0x90060, .one, 0x0, 0x0, 0x0, 0x0, 0x0, 0x0⟩,
  ⟨0x91000, .path, 0x0, 0x0, 0x0, 0x0, 0x300000, 0x300000⟩,
  ⟨0x91004, .path, 0x0, 0x0, 0x0, 0x0, 0x0, 0x0⟩,
  ⟨0x91008, .path, 0x0, 0x0, 0x0, 0x0, 0x0, 0x0⟩,
  ⟨0x9100c, .path, 0x0, 0x3, 0x0, 0x0, 0x0, 0x0⟩,
  ⟨0x98000, .chain, 0x0, 0x20000, 0x0, 0x0, 0x0, 0x0⟩,
  ⟨0x98004, .chain, 0x0, 0x0, 0x0, 0x0, 0x0, 0x0⟩,
  ⟨0x98008, .chain, 0x0, 0x0, 0x0, 0x0, 0x0, 0x0⟩,
  ⟨0x9800c, .chain, 0x0, 0x3, 0x0, 0x0, 0x0, 0x0⟩
  ]

/-- R512: the TIL registers. -/
def RegMap.til : List RegDesc := [
  ⟨0xa0000, .one, 0x0, 0x0, 0x0, 0x0, 0x0, 0x0⟩,
  ⟨0xa0004, .one, 0xff, 0x0, 0x0, 0x0, 0x0, 0x0⟩,
  ⟨0xa0008, .one, 0x0, 0x78, 0x0, 0x0, 0x0, 0x0⟩,
  ⟨0xa000c, .one, 0x0, 0x0, 0x0, 0x0, 0x0, 0x0⟩,
  ⟨0xa0020, .one, 0x0, 0x0, 0x0, 0x0, 0x0, 0x0⟩,
  ⟨0xa0024, .one, 0x0, 0x0, 0x0, 0x0, 0x0, 0x0⟩,
  ⟨0xa0028, .one, 0x0, 0x0, 0x0, 0x0, 0x0, 0x0⟩,
  ⟨0xa002c, .one, 0x0, 0x0, 0x0, 0x0, 0x0, 0x0⟩,
  ⟨0xa0030, .one, 0x0, 0x0, 0x0, 0x0, 0x0, 0x0⟩,
  ⟨0xa0034, .one, 0x0, 0x0, 0x0, 0x0, 0x0, 0x0⟩,
  ⟨0xa0038, .one, 0x0, 0x0, 0x0, 0x0, 0x0, 0x0⟩,
  ⟨0xa003c, .one, 0x0, 0x0, 0x0, 0x0, 0x0, 0x0⟩,
  ⟨0xa0040, .one, 0x0, 0x0, 0x0, 0x0, 0x0, 0x0⟩,
  ⟨0xa0044, .one, 0x0, 0x0, 0x0, 0x0, 0x0, 0x0⟩,
  ⟨0xa0048, .one, 0x0, 0x0, 0x0, 0x0, 0x0, 0x0⟩,
  ⟨0xa004c, .one, 0x0, 0x0, 0x0, 0x0, 0x0, 0x0⟩,
  ⟨0xa0050, .one, 0x0, 0x0, 0x0, 0x0, 0x0, 0x0⟩,
  ⟨0xa0054, .one, 0x0, 0x0, 0x0, 0x0, 0x0, 0x0⟩,
  ⟨0xa0058, .one, 0x0, 0x0, 0x0, 0x0, 0x0, 0x0⟩,
  ⟨0xa005c, .one, 0x0, 0x0, 0x0, 0x0, 0x0, 0x0⟩,
  ⟨0xa0060, .one, 0x0, 0x0, 0x0, 0x0, 0x0, 0x0⟩,
  ⟨0xa0064, .one, 0x0, 0x0, 0x0, 0x0, 0x0, 0x0⟩,
  ⟨0xa0068, .one, 0x0, 0x0, 0x0, 0x0, 0x0, 0x0⟩,
  ⟨0xa006c, .one, 0x0, 0x0, 0x0, 0x0, 0x0, 0x0⟩,
  ⟨0xa0070, .one, 0x0, 0xf, 0x0, 0x0, 0x0, 0x0⟩
  ]

/-- R513: the MEM registers. -/
def RegMap.mem : List RegDesc := [
  ⟨0xb0000, .one, 0x0, 0x0, 0x0, 0x0, 0x0, 0x0⟩,
  ⟨0xb0004, .one, 0x1fff01, 0x2000000, 0x1000000, 0x0, 0xa0a01, 0xa0a01⟩,
  ⟨0xb0008, .one, 0x0, 0x20, 0x0, 0x0, 0x0, 0x0⟩,
  ⟨0xb0010, .one, 0x0, 0x0, 0x0, 0x0, 0x0, 0x0⟩,
  ⟨0xb0014, .one, 0x0, 0x0, 0x0, 0x0, 0x0, 0x0⟩,
  ⟨0xb0020, .one, 0x0, 0x0, 0x0, 0x0, 0x0, 0x0⟩,
  ⟨0xb0024, .one, 0x0, 0x0, 0x0, 0x0, 0x0, 0x0⟩,
  ⟨0xb0028, .one, 0x0, 0x0, 0x0, 0x0, 0x0, 0x0⟩,
  ⟨0xb002c, .one, 0x0, 0x0, 0x0, 0x0, 0x0, 0x0⟩,
  ⟨0xb0030, .one, 0x0, 0x0, 0x0, 0x0, 0x0, 0x0⟩,
  ⟨0xb0034, .one, 0x0, 0x0, 0x0, 0x0, 0x0, 0x0⟩,
  ⟨0xb0038, .one, 0x0, 0x0, 0x0, 0x0, 0x0, 0x0⟩,
  ⟨0xb003c, .one, 0x0, 0x7f, 0x0, 0x0, 0x0, 0x0⟩,
  ⟨0xb1000, .byteLane, 0x0, 0x40000000, 0x0, 0x0, 0x0, 0x0⟩,
  ⟨0xb1004, .byteLane, 0x0, 0x0, 0x0, 0x0, 0x0, 0x0⟩,
  ⟨0xb1008, .byteLane, 0x0, 0x0, 0x0, 0x0, 0x0, 0x0⟩,
  ⟨0xb100c, .byteLane, 0x0, 0x0, 0x0, 0x0, 0x0, 0x0⟩,
  ⟨0xb1010, .byteLane, 0x0, 0x0, 0x0, 0x0, 0x0, 0x0⟩,
  ⟨0xb1014, .byteLane, 0x0, 0x7, 0x0, 0x0, 0x0, 0x0⟩
  ]

/-- R514: the DMA registers. -/
def RegMap.dma : List RegDesc := [
  ⟨0xc0000, .one, 0x7, 0x0, 0x0, 0x0, 0x2, 0x2⟩,
  ⟨0xc0004, .one, 0x0, 0x10000, 0x0, 0x0, 0x0, 0x0⟩,
  ⟨0xc0008, .one, 0xffff, 0x0, 0x0, 0x0, 0x0, 0x0⟩,
  ⟨0xc000c, .one, 0xffffffff, 0x0, 0x0, 0x0, 0x0, 0x0⟩,
  ⟨0xc0010, .one, 0x0, 0x0, 0x0, 0xffffffff, 0x0, 0x0⟩,
  ⟨0xc0014, .one, 0x0, 0x0, 0x0, 0x0, 0x0, 0x0⟩,
  ⟨0xc0018, .one, 0x0, 0x0, 0x0, 0x0, 0x0, 0x0⟩,
  ⟨0xc0020, .one, 0x0, 0x0, 0x0, 0x0, 0x0, 0x0⟩,
  ⟨0xc0024, .one, 0x0, 0x0, 0x0, 0x0, 0x0, 0x0⟩,
  ⟨0xc0028, .one, 0x0, 0x0, 0x0, 0x0, 0x0, 0x0⟩,
  ⟨0xc002c, .one, 0x0, 0x7, 0x0, 0x0, 0x0, 0x0⟩,
  ⟨0xc1000, .channel, 0x33fff, 0x4000000, 0x3000000, 0x0, 0x0, 0x0⟩,
  ⟨0xc1004, .channel, 0x0, 0x38, 0x0, 0x0, 0x0, 0x0⟩,
  ⟨0xc1008, .channel, 0x0, 0x0, 0x0, 0x0, 0x0, 0x0⟩,
  ⟨0xc100c, .channel, 0x0, 0x0, 0x0, 0x0, 0x0, 0x0⟩,
  ⟨0xc1010, .channel, 0x3fffffff, 0x0, 0x0, 0x0, 0x0, 0x0⟩,
  ⟨0xc1014, .channel, 0x0, 0x0, 0x0, 0x0, 0x0, 0x0⟩,
  ⟨0xc1018, .channel, 0x0, 0x0, 0x0, 0x0, 0x0, 0x0⟩,
  ⟨0xc101c, .channel, 0x0, 0x0, 0x0, 0x0, 0x0, 0x0⟩,
  ⟨0xc1020, .channel, 0x0, 0x0, 0x0, 0x3fffffff, 0x0, 0x0⟩,
  ⟨0xc1024, .channel, 0x0, 0x0, 0x0, 0x0, 0x0, 0x0⟩,
  ⟨0xc1028, .channel, 0x0, 0x0, 0x0, 0x0, 0x0, 0x0⟩,
  ⟨0xc102c, .channel, 0x0, 0x0, 0x0, 0x0, 0x0, 0x0⟩,
  ⟨0xc1030, .channel, 0x0, 0x0, 0x0, 0x0, 0x0, 0x0⟩,
  ⟨0xc1034, .channel, 0x0, 0x3, 0x0, 0x0, 0x0, 0x0⟩
  ]

/-- R515: the MON registers. -/
def RegMap.mon : List RegDesc := [
  ⟨0xd0000, .one, 0x1fff01, 0x0, 0x2, 0x0, 0x50001, 0x50001⟩,
  ⟨0xd0004, .one, 0x0, 0x0, 0x0, 0x0, 0x7f00, 0x7f00⟩,
  ⟨0xd0008, .one, 0xffffffff, 0x0, 0x0, 0x0, 0x0, 0x0⟩,
  ⟨0xd000c, .one, 0xffffffff, 0x0, 0x0, 0x0, 0x0, 0x0⟩,
  ⟨0xd0010, .one, 0xffff0000, 0x0, 0x0, 0x0, 0xffffffff, 0xcfffff0f⟩,
  ⟨0xd0014, .one, 0x7f, 0x400, 0x100, 0x0, 0x0, 0x0⟩,
  ⟨0xd0018, .one, 0x0, 0x0, 0x0, 0x0, 0x0, 0x0⟩,
  ⟨0xd0020, .one, 0x0, 0xffffffff, 0x0, 0x0, 0x0, 0x0⟩,
  ⟨0xd0024, .one, 0x0, 0xffffffff, 0x0, 0x0, 0x0, 0x0⟩,
  ⟨0xd0028, .one, 0x0, 0xffffffff, 0x0, 0x0, 0x0, 0x0⟩,
  ⟨0xd0030, .one, 0x0, 0x0, 0x0, 0x0, 0x0, 0x0⟩,
  ⟨0xd0034, .one, 0x0, 0x0, 0x0, 0x0, 0x0, 0x0⟩,
  ⟨0xd0038, .one, 0x0, 0x0, 0x0, 0x0, 0x0, 0x0⟩,
  ⟨0xd003c, .one, 0x0, 0x7, 0x0, 0x0, 0x0, 0x0⟩,
  ⟨0xd0040, .one, 0x0, 0x0, 0x0, 0x0, 0x80000000, 0x80000000⟩,
  ⟨0xd1000, .monCh, 0x0, 0x8000, 0x0, 0x0, 0x0, 0x0⟩,
  ⟨0xd1004, .monCh, 0xffffffff, 0x0, 0x0, 0x0, 0x7fff8000, 0x7fff8000⟩,
  ⟨0xd1008, .monCh, 0xf3, 0x0, 0x0, 0x0, 0x10, 0x10⟩,
  ⟨0xd8000, .monSlot, 0x0, 0x0, 0x0, 0x0, 0x0, 0x0⟩,
  ⟨0xd8004, .monSlot, 0x0, 0x0, 0x0, 0x0, 0x0, 0x0⟩
  ]

/-- R516: the SEC registers. -/
def RegMap.sec : List RegDesc := [
  ⟨0xe0000, .one, 0x0, 0x0, 0x0, 0x0, 0x1, 0x1⟩,
  ⟨0xe0004, .one, 0x0, 0x0, 0x0, 0x0, 0x0, 0x0⟩,
  ⟨0xe0008, .one, 0x0, 0x0, 0x0, 0x0, 0x3, 0x3⟩,
  ⟨0xe0010, .one, 0x0, 0x0, 0x0, 0x0, 0x0, 0x0⟩,
  ⟨0xe0014, .one, 0x0, 0x0, 0x0, 0x0, 0x0, 0x0⟩,
  ⟨0xe0018, .one, 0x0, 0x0, 0x0, 0x0, 0x0, 0x0⟩,
  ⟨0xe001c, .one, 0x0, 0x0, 0x0, 0x0, 0x0, 0x0⟩,
  ⟨0xe0020, .one, 0x0, 0x0, 0x0, 0x0, 0x0, 0x0⟩,
  ⟨0xe0024, .one, 0x0, 0x0, 0x0, 0x0, 0x0, 0x0⟩,
  ⟨0xe0028, .one, 0x0, 0x0, 0x0, 0x0, 0x0, 0x0⟩,
  ⟨0xe002c, .one, 0x0, 0x0, 0x0, 0x0, 0x0, 0x0⟩,
  ⟨0xe0030, .one, 0x0, 0x0, 0x0, 0x0, 0x0, 0x0⟩,
  ⟨0xe0034, .one, 0x0, 0x0, 0x0, 0x0, 0x0, 0x0⟩,
  ⟨0xe0038, .one, 0x0, 0x0, 0x0, 0x0, 0x0, 0x0⟩,
  ⟨0xe0040, .one, 0x0, 0x0, 0x0, 0x0, 0x0, 0x0⟩,
  ⟨0xe0044, .one, 0x0, 0x0, 0x0, 0x0, 0x0, 0x0⟩,
  ⟨0xe0048, .one, 0x0, 0x0, 0x0, 0x0, 0x0, 0x0⟩,
  ⟨0xe004c, .one, 0x0, 0x0, 0x0, 0x0, 0x0, 0x0⟩,
  ⟨0xe0050, .one, 0x0, 0x0, 0x0, 0x0, 0x0, 0x0⟩,
  ⟨0xe0054, .one, 0x0, 0x0, 0x0, 0x0, 0x0, 0x0⟩,
  ⟨0xe0058, .one, 0x0, 0x0, 0x0, 0x0, 0x0, 0x0⟩,
  ⟨0xe005c, .one, 0x0, 0x0, 0x0, 0x0, 0x0, 0x0⟩,
  ⟨0xe0060, .one, 0x0, 0x0, 0x0, 0x0, 0x0, 0x0⟩,
  ⟨0xe0064, .one, 0x0, 0x0, 0x0, 0x0, 0x0, 0x0⟩,
  ⟨0xe0068, .one, 0x0, 0x0, 0x0, 0x0, 0x0, 0x0⟩,
  ⟨0xe006c, .one, 0x0, 0x0, 0x0, 0x0, 0x0, 0x0⟩,
  ⟨0xe0070, .one, 0x0, 0xf, 0x0, 0x0, 0x0, 0x0⟩
  ]

/-- R517: the TAL registers. -/
def RegMap.tal : List RegDesc := [
  ⟨0xf0000, .one, 0x0, 0x38, 0x0, 0x0, 0x0, 0x0⟩,
  ⟨0xf0004, .one, 0x0, 0x0, 0x0, 0x0, 0x0, 0x0⟩,
  ⟨0xf0008, .one, 0x0, 0x0, 0x0, 0x0, 0x0, 0x0⟩,
  ⟨0xf000c, .one, 0x0, 0x0, 0x0, 0x0, 0x0, 0x0⟩,
  ⟨0xf0010, .one, 0x0, 0x0, 0x0, 0x0, 0x0, 0x0⟩,
  ⟨0xf0014, .one, 0x7fff, 0x0, 0x0, 0x0, 0x0, 0x0⟩,
  ⟨0xf0020, .one, 0x0, 0x0, 0x0, 0x0, 0x0, 0x0⟩,
  ⟨0xf0024, .one, 0x0, 0x0, 0x0, 0x0, 0x0, 0x0⟩,
  ⟨0xf0028, .one, 0x0, 0x0, 0x0, 0x0, 0x0, 0x0⟩,
  ⟨0xf002c, .one, 0x0, 0x0, 0x0, 0x0, 0x0, 0x0⟩,
  ⟨0xf0030, .one, 0x0, 0xf, 0x0, 0x0, 0x0, 0x0⟩,
  ⟨0xf0040, .one, 0x0, 0x0, 0x0, 0x0, 0x0, 0x0⟩,
  ⟨0xf0044, .one, 0x0, 0x0, 0x0, 0x0, 0x0, 0x0⟩,
  ⟨0xf0048, .one, 0x0, 0x0, 0x0, 0x0, 0x0, 0x0⟩,
  ⟨0xf004c, .one, 0x0, 0x0, 0x0, 0x0, 0x0, 0x0⟩,
  ⟨0xf0050, .one, 0x0, 0x0, 0x0, 0x0, 0x0, 0x0⟩,
  ⟨0xf0054, .one, 0x0, 0x0, 0x0, 0x0, 0x0, 0x0⟩,
  ⟨0xf0058, .one, 0x0, 0x0, 0x0, 0x0, 0x0, 0x0⟩,
  ⟨0xf005c, .one, 0x0, 0x0, 0x0, 0x0, 0x0, 0x0⟩,
  ⟨0xf0060, .one, 0x0, 0x0, 0x0, 0x0, 0x0, 0x0⟩,
  ⟨0xf0064, .one, 0x0, 0x0, 0x0, 0x0, 0x0, 0x0⟩,
  ⟨0xf0068, .one, 0x0, 0x0, 0x0, 0x0, 0x0, 0x0⟩,
  ⟨0xf006c, .one, 0x0, 0x0, 0x0, 0x0, 0x0, 0x0⟩,
  ⟨0xf0070, .one, 0x0, 0x0, 0x0, 0x0, 0x0, 0x0⟩,
  ⟨0xf0074, .one, 0x0, 0x0, 0x0, 0x0, 0x0, 0x0⟩,
  ⟨0xf0078, .one, 0x0, 0x0, 0x0, 0x0, 0x0, 0x0⟩,
  ⟨0xf007c, .one, 0x0, 0x0, 0x0, 0x0, 0x0, 0x0⟩
  ]

/-- R497: sixteen blocks of 64 KiB; nothing is mapped from 0x0010_0000 upward. -/
def RegMap.block (addr : Nat) : List RegDesc :=
  match addr / 0x10000 with
  | 0 => RegMap.sys
  | 1 => RegMap.pwr
  | 2 => RegMap.tim
  | 3 => RegMap.shf
  | 4 => RegMap.lnk
  | 5 => RegMap.txc
  | 6 => RegMap.dpd
  | 7 => RegMap.rxc
  | 8 => RegMap.cnv
  | 9 => RegMap.rfe
  | 10 => RegMap.til
  | 11 => RegMap.mem
  | 12 => RegMap.dma
  | 13 => RegMap.mon
  | 14 => RegMap.sec
  | 15 => RegMap.tal
  | _ => []

namespace R

def SYS_CAP0.w : Fld := ⟨0x0, 31, 0⟩
def SYS_CAP0.PATHS : Fld := ⟨0x0, 7, 0⟩
def SYS_CAP0.BAND : Fld := ⟨0x0, 8, 8⟩
def SYS_CAP0.GRADE : Fld := ⟨0x0, 10, 9⟩
def SYS_CAP0.FUSE_FAULT : Fld := ⟨0x0, 11, 11⟩
def SYS_CAP0.CHIPLETS : Fld := ⟨0x0, 15, 12⟩
def SYS_CAP0.REV_DIGIT : Fld := ⟨0x0, 23, 16⟩
def SYS_CAP0.REV_LETTER : Fld := ⟨0x0, 31, 24⟩
def SYS_CAP1.w : Fld := ⟨0x4, 31, 0⟩
def SYS_CAP1.COUPLED_DPD : Fld := ⟨0x4, 0, 0⟩
def SYS_CAP1.CASCADE : Fld := ⟨0x4, 1, 1⟩
def SYS_CAP1.TCLOCK : Fld := ⟨0x4, 2, 2⟩
def SYS_CAP1.SOUNDING : Fld := ⟨0x4, 3, 3⟩
def SYS_CAP1.TINE : Fld := ⟨0x4, 4, 4⟩
def SYS_CAP1.LAYERS : Fld := ⟨0x4, 13, 8⟩
def SYS_CAP1.ULANES : Fld := ⟨0x4, 31, 16⟩
def SYS_CAP2.w : Fld := ⟨0x8, 31, 0⟩
def SYS_CAP2.TILES : Fld := ⟨0x8, 8, 0⟩
def SYS_CAP2.GRANARY : Fld := ⟨0x8, 15, 9⟩
def SYS_CAP2.LOFT : Fld := ⟨0x8, 19, 16⟩
def SYS_CAP2.GLEANERS : Fld := ⟨0x8, 23, 20⟩
def SYS_CAP2.TINE_CHAINS : Fld := ⟨0x8, 28, 24⟩
def SYS_CAP3.w : Fld := ⟨0xc, 31, 0⟩
def SYS_CAP3.FMAX : Fld := ⟨0xc, 15, 0⟩
def SYS_CAP3.FMIN : Fld := ⟨0xc, 31, 16⟩
def SYS_RESETCAUSE.w : Fld := ⟨0x20, 31, 0⟩
def SYS_RESETCAUSE.POR : Fld := ⟨0x20, 0, 0⟩
def SYS_RESETCAUSE.BROWNOUT : Fld := ⟨0x20, 1, 1⟩
def SYS_RESETCAUSE.OVERVOLT : Fld := ⟨0x20, 2, 2⟩
def SYS_RESETCAUSE.THERMAL : Fld := ⟨0x20, 3, 3⟩
def SYS_RESETCAUSE.PIN : Fld := ⟨0x20, 4, 4⟩
def SYS_RESETCAUSE.SOFT : Fld := ⟨0x20, 5, 5⟩
def SYS_RESETCAUSE.SIDEBAND : Fld := ⟨0x20, 6, 6⟩
def SYS_RESETCAUSE.RAILFAULT : Fld := ⟨0x20, 7, 7⟩
def SYS_RESETCAUSE.WDOG : Fld := ⟨0x20, 8, 8⟩
def SYS_BOOTSTAT.w : Fld := ⟨0x24, 31, 0⟩
def SYS_BOOTSTAT.STAGE : Fld := ⟨0x24, 3, 0⟩
def SYS_BOOTSTAT.SLOT : Fld := ⟨0x24, 5, 4⟩
def SYS_BOOTSTAT.SLOT_A_BAD : Fld := ⟨0x24, 6, 6⟩
def SYS_BOOTSTAT.SLOT_B_BAD : Fld := ⟨0x24, 7, 7⟩
def SYS_BOOTSTAT.LOCK_BAD : Fld := ⟨0x24, 8, 8⟩
def SYS_BOOTSTAT.DRAM_FAIL : Fld := ⟨0x24, 9, 9⟩
def SYS_BOOTSTAT.REFCLK_LATE : Fld := ⟨0x24, 10, 10⟩
def SYS_BOOTSTAT.TRIAL : Fld := ⟨0x24, 11, 11⟩
def SYS_BOOTSTAT.BOOT_MS : Fld := ⟨0x24, 31, 16⟩
def SYS_RESETCTL.w : Fld := ⟨0x28, 31, 0⟩
def SYS_RESETCTL.SOFT : Fld := ⟨0x28, 0, 0⟩
def SYS_RESETCTL.REFUSED : Fld := ⟨0x28, 1, 1⟩
def SYS_RESETCTL.KEY : Fld := ⟨0x28, 15, 8⟩
def PWR_STATUS.w : Fld := ⟨0x10000, 31, 0⟩
def PWR_STATUS.RAIL_GOOD : Fld := ⟨0x10000, 13, 0⟩
def PWR_STATUS.VIN_OK : Fld := ⟨0x10000, 16, 16⟩
def PWR_FAULT.w : Fld := ⟨0x10004, 31, 0⟩
def PWR_FAULT.RAIL_FAIL : Fld := ⟨0x10004, 13, 0⟩
def PWR_FAULT.ATTEMPTS : Fld := ⟨0x10004, 15, 14⟩
def TIM_CTRL.w : Fld := ⟨0x20000, 31, 0⟩
def TIM_CTRL.SERVO_EN : Fld := ⟨0x20000, 0, 0⟩
def TIM_CTRL.FCTL_EN : Fld := ⟨0x20000, 1, 1⟩
def TIM_CTRL.PPS_MODE : Fld := ⟨0x20000, 3, 2⟩
def TIM_CTRL.FSYNC_EN : Fld := ⟨0x20000, 4, 4⟩
def TIM_CTRL.TC_EN : Fld := ⟨0x20000, 5, 5⟩
def TIM_CTRL.DOMAIN : Fld := ⟨0x20000, 15, 8⟩
def TIM_CTRL.SYNC_LOG : Fld := ⟨0x20000, 19, 16⟩
def TIM_STATUS.w : Fld := ⟨0x20004, 31, 0⟩
def TIM_STATUS.STATE : Fld := ⟨0x20004, 2, 0⟩
def TIM_STATUS.LOCK : Fld := ⟨0x20004, 3, 3⟩
def TIM_STATUS.STEP_MUTE : Fld := ⟨0x20004, 4, 4⟩
def TIM_STATUS.FCTL_FAULT : Fld := ⟨0x20004, 5, 5⟩
def TIM_STATUS.PPS_ALARM : Fld := ⟨0x20004, 6, 6⟩
def TIM_STATUS.FSYNC_ALARM : Fld := ⟨0x20004, 7, 7⟩
def TIM_STATUS.HOLD_EXPIRED : Fld := ⟨0x20004, 8, 8⟩
def TIM_EPOCH.w : Fld := ⟨0x20008, 31, 0⟩
def TIM_EPOCH.EPOCH : Fld := ⟨0x20008, 15, 0⟩
def TIM_STEPTHR.w : Fld := ⟨0x2000c, 31, 0⟩
def TIM_STEPTHR.STEPTHR : Fld := ⟨0x2000c, 19, 0⟩
def TIM_PATHTHR.w : Fld := ⟨0x20010, 31, 0⟩
def TIM_PATHTHR.PATHTHR : Fld := ⟨0x20010, 15, 0⟩
def TIM_LOCKTHR.w : Fld := ⟨0x20014, 31, 0⟩
def TIM_LOCKTHR.LOCKTHR : Fld := ⟨0x20014, 15, 0⟩
def TIM_HOLDOVER.w : Fld := ⟨0x20018, 31, 0⟩
def TIM_HOLDOVER.LIMIT : Fld := ⟨0x20018, 16, 0⟩
def TIM_OFFSET.w : Fld := ⟨0x20020, 31, 0⟩
def TIM_OFFSET.OFFSET : Fld := ⟨0x20020, 31, 0⟩
def TIM_MPD.w : Fld := ⟨0x20024, 31, 0⟩
def TIM_MPD.MPD : Fld := ⟨0x20024, 31, 0⟩
def TIM_FREQ.w : Fld := ⟨0x20028, 31, 0⟩
def TIM_FREQ.Y : Fld := ⟨0x20028, 31, 0⟩
def TIM_ASYM_UP.w : Fld := ⟨0x2002c, 31, 0⟩
def TIM_ASYM_UP.ASYM : Fld := ⟨0x2002c, 31, 0⟩
def TIM_ASYM_CAS.w : Fld := ⟨0x20030, 31, 0⟩
def TIM_ASYM_CAS.ASYM : Fld := ⟨0x20030, 31, 0⟩
def TIM_FCTLCFG.w : Fld := ⟨0x20034, 31, 0⟩
def TIM_FCTLCFG.ADDR : Fld := ⟨0x20034, 6, 0⟩
def TIM_FCTLCFG.SPEED : Fld := ⟨0x20034, 7, 7⟩
def TIM_FCTLCFG.REG : Fld := ⟨0x20034, 15, 8⟩
def TIM_FCTLCFG.ORDER : Fld := ⟨0x20034, 16, 16⟩
def TIM_FCTLCFG.SHIFT : Fld := ⟨0x20034, 20, 17⟩
def TIM_PPSCFG.w : Fld := ⟨0x20038, 31, 0⟩
def TIM_PPSCFG.WIDTH : Fld := ⟨0x20038, 9, 0⟩
def TIM_PPSCFG.PPS_LIMIT : Fld := ⟨0x20038, 31, 16⟩
def TIM_PPSPHASE.w : Fld := ⟨0x2003c, 31, 0⟩
def TIM_PPSPHASE.PHASE : Fld := ⟨0x2003c, 31, 0⟩
def TIM_FSYNCCFG.w : Fld := ⟨0x20040, 31, 0⟩
def TIM_FSYNCCFG.PERIOD_LOG : Fld := ⟨0x20040, 3, 0⟩
def TIM_FSYNCCFG.WINDOW : Fld := ⟨0x20040, 31, 16⟩
def TIM_FSYNCPOS.w : Fld := ⟨0x20044, 31, 0⟩
def TIM_FSYNCPOS.POS : Fld := ⟨0x20044, 31, 0⟩
def TIM_NOW0.w : Fld := ⟨0x20048, 31, 0⟩
def TIM_NOW0.NS : Fld := ⟨0x20048, 29, 0⟩
def TIM_NOW1.w : Fld := ⟨0x2004c, 31, 0⟩
def TIM_NOW1.SEC_LO : Fld := ⟨0x2004c, 31, 0⟩
def TIM_NOW2.w : Fld := ⟨0x20050, 31, 0⟩
def TIM_NOW2.SEC_HI : Fld := ⟨0x20050, 15, 0⟩
def TIM_NOW2.FRAC : Fld := ⟨0x20050, 31, 16⟩
def TIM_CNT_SYNC.w : Fld := ⟨0x20054, 31, 0⟩
def TIM_CNT_SYNC.SYNC : Fld := ⟨0x20054, 31, 0⟩
def TIM_CNT_DISC.w : Fld := ⟨0x20058, 31, 0⟩
def TIM_CNT_DISC.DISC : Fld := ⟨0x20058, 31, 0⟩
def TIM_CNT_GLITCH.w : Fld := ⟨0x2005c, 31, 0⟩
def TIM_CNT_GLITCH.FSYNC : Fld := ⟨0x2005c, 15, 0⟩
def TIM_CNT_GLITCH.PPS : Fld := ⟨0x2005c, 31, 16⟩
def TIM_CNT_FCTLNAK.w : Fld := ⟨0x20060, 31, 0⟩
def TIM_CNT_FCTLNAK.NAK : Fld := ⟨0x20060, 31, 0⟩
def TIM_CNTOVF.w : Fld := ⟨0x20064, 31, 0⟩
def TIM_CNTOVF.OVF : Fld := ⟨0x20064, 4, 0⟩
def SHF_STATE.w : Fld := ⟨0x30000, 31, 0⟩
def SHF_STATE.RUN : Fld := ⟨0x30000, 2, 0⟩
def SHF_STATE.CAL_DONE : Fld := ⟨0x30000, 3, 3⟩
def SHF_STATE.STAGE : Fld := ⟨0x30000, 5, 4⟩
def SHF_STATE.DRAM_OPT : Fld := ⟨0x30000, 6, 6⟩
def SHF_STATE.LAST_REASON : Fld := ⟨0x30000, 15, 8⟩
def SHF_STATE.FAULT_CAUSE : Fld := ⟨0x30000, 18, 16⟩
def SHF_BOUNDS.w : Fld := ⟨0x30004, 31, 0⟩
def SHF_BOUNDS.START_F : Fld := ⟨0x30004, 9, 0⟩
def SHF_BOUNDS.STOP_F : Fld := ⟨0x30004, 25, 16⟩
def SHF_NOW.w : Fld := ⟨0x30008, 31, 0⟩
def SHF_NOW.FRAME : Fld := ⟨0x30008, 9, 0⟩
def SHF_NOW.SUBFRAME : Fld := ⟨0x30008, 13, 10⟩
def SHF_NOW.FURROW : Fld := ⟨0x30008, 21, 16⟩
def SHF_CAP.w : Fld := ⟨0x3000c, 31, 0⟩
def SHF_CAP.MAXCLASS : Fld := ⟨0x3000c, 3, 0⟩
def SHF_ID_LO.w : Fld := ⟨0x30010, 31, 0⟩
def SHF_ID_LO.ID : Fld := ⟨0x30010, 31, 0⟩
def SHF_ID_HI.w : Fld := ⟨0x30014, 31, 0⟩
def SHF_ID_HI.ID : Fld := ⟨0x30014, 31, 0⟩
def SHF_DIGEST0.w : Fld := ⟨0x30020, 31, 0⟩
def SHF_DIGEST0.DIGEST : Fld := ⟨0x30020, 31, 0⟩
def SHF_DIGEST1.w : Fld := ⟨0x30024, 31, 0⟩
def SHF_DIGEST1.DIGEST : Fld := ⟨0x30024, 31, 0⟩
def SHF_DIGEST2.w : Fld := ⟨0x30028, 31, 0⟩
def SHF_DIGEST2.DIGEST : Fld := ⟨0x30028, 31, 0⟩
def SHF_DIGEST3.w : Fld := ⟨0x3002c, 31, 0⟩
def SHF_DIGEST3.DIGEST : Fld := ⟨0x3002c, 31, 0⟩
def SHF_DIGEST4.w : Fld := ⟨0x30030, 31, 0⟩
def SHF_DIGEST4.DIGEST : Fld := ⟨0x30030, 31, 0⟩
def SHF_DIGEST5.w : Fld := ⟨0x30034, 31, 0⟩
def SHF_DIGEST5.DIGEST : Fld := ⟨0x30034, 31, 0⟩
def SHF_DIGEST6.w : Fld := ⟨0x30038, 31, 0⟩
def SHF_DIGEST6.DIGEST : Fld := ⟨0x30038, 31, 0⟩
def SHF_DIGEST7.w : Fld := ⟨0x3003c, 31, 0⟩
def SHF_DIGEST7.DIGEST : Fld := ⟨0x3003c, 31, 0⟩
def SHF_SDIGEST0.w : Fld := ⟨0x30040, 31, 0⟩
def SHF_SDIGEST0.DIGEST : Fld := ⟨0x30040, 31, 0⟩
def SHF_SDIGEST1.w : Fld := ⟨0x30044, 31, 0⟩
def SHF_SDIGEST1.DIGEST : Fld := ⟨0x30044, 31, 0⟩
def SHF_SDIGEST2.w : Fld := ⟨0x30048, 31, 0⟩
def SHF_SDIGEST2.DIGEST : Fld := ⟨0x30048, 31, 0⟩
def SHF_SDIGEST3.w : Fld := ⟨0x3004c, 31, 0⟩
def SHF_SDIGEST3.DIGEST : Fld := ⟨0x3004c, 31, 0⟩
def SHF_SDIGEST4.w : Fld := ⟨0x30050, 31, 0⟩
def SHF_SDIGEST4.DIGEST : Fld := ⟨0x30050, 31, 0⟩
def SHF_SDIGEST5.w : Fld := ⟨0x30054, 31, 0⟩
def SHF_SDIGEST5.DIGEST : Fld := ⟨0x30054, 31, 0⟩
def SHF_SDIGEST6.w : Fld := ⟨0x30058, 31, 0⟩
def SHF_SDIGEST6.DIGEST : Fld := ⟨0x30058, 31, 0⟩
def SHF_SDIGEST7.w : Fld := ⟨0x3005c, 31, 0⟩
def SHF_SDIGEST7.DIGEST : Fld := ⟨0x3005c, 31, 0⟩
def SHF_CNT_EARLY.w : Fld := ⟨0x30080, 31, 0⟩
def SHF_CNT_EARLY.EARLY : Fld := ⟨0x30080, 31, 0⟩
def SHF_CNT_LATE.w : Fld := ⟨0x30084, 31, 0⟩
def SHF_CNT_LATE.LATE : Fld := ⟨0x30084, 31, 0⟩
def SHF_CNT_FILL.w : Fld := ⟨0x30088, 31, 0⟩
def SHF_CNT_FILL.FILL : Fld := ⟨0x30088, 31, 0⟩
def SHF_CNT_DEFBEAM.w : Fld := ⟨0x3008c, 31, 0⟩
def SHF_CNT_DEFBEAM.DEFBEAM : Fld := ⟨0x3008c, 31, 0⟩
def SHF_CNT_TILEBRK.w : Fld := ⟨0x30090, 31, 0⟩
def SHF_CNT_TILEBRK.TILEBRK : Fld := ⟨0x30090, 31, 0⟩
def SHF_CNT_ECC.w : Fld := ⟨0x30094, 31, 0⟩
def SHF_CNT_ECC.ECC : Fld := ⟨0x30094, 31, 0⟩
def SHF_CNTOVF.w : Fld := ⟨0x30098, 31, 0⟩
def SHF_CNTOVF.OVF : Fld := ⟨0x30098, 5, 0⟩
def SHF_KOVF_SEL.w : Fld := ⟨0x300a0, 31, 0⟩
def SHF_KOVF_SEL.KERNEL : Fld := ⟨0x300a0, 11, 0⟩
def SHF_KOVF_CNT.w : Fld := ⟨0x300a4, 31, 0⟩
def SHF_KOVF_CNT.COUNT : Fld := ⟨0x300a4, 30, 0⟩
def SHF_KOVF_CNT.OVF : Fld := ⟨0x300a4, 31, 31⟩
def LNK_CFG.w : Fld := ⟨0x40000, 31, 0⟩
def LNK_CFG.MAXRATE : Fld := ⟨0x40000, 1, 0⟩
def LNK_CFG.MINLANES_U : Fld := ⟨0x40000, 8, 4⟩
def LNK_CFG.MINLANES_C : Fld := ⟨0x40000, 15, 12⟩
def LNK_PCTL.w : Fld := ⟨0x40004, 31, 0⟩
def LNK_PCTL.UP_RESTART : Fld := ⟨0x40004, 0, 0⟩
def LNK_PCTL.CAS_RESTART : Fld := ⟨0x40004, 1, 1⟩
def LNK_PSTAT.w : Fld := ⟨0x40008, 31, 0⟩
def LNK_PSTAT.UP_STATE : Fld := ⟨0x40008, 2, 0⟩
def LNK_PSTAT.UP_RATE : Fld := ⟨0x40008, 5, 4⟩
def LNK_PSTAT.CAS_STATE : Fld := ⟨0x40008, 10, 8⟩
def LNK_PSTAT.CAS_RATE : Fld := ⟨0x40008, 13, 12⟩
def LNK_UMAP.w : Fld := ⟨0x4000c, 31, 0⟩
def LNK_UMAP.TXMAP : Fld := ⟨0x4000c, 15, 0⟩
def LNK_UMAP.RXMAP : Fld := ⟨0x4000c, 31, 16⟩
def LNK_CMAP.w : Fld := ⟨0x40010, 31, 0⟩
def LNK_CMAP.TXMAP : Fld := ⟨0x40010, 7, 0⟩
def LNK_CMAP.RXMAP : Fld := ⟨0x40010, 23, 16⟩
def LNK_EPOCH.w : Fld := ⟨0x40014, 31, 0⟩
def LNK_EPOCH.UP_TX : Fld := ⟨0x40014, 7, 0⟩
def LNK_EPOCH.UP_RX : Fld := ⟨0x40014, 15, 8⟩
def LNK_EPOCH.CAS_TX : Fld := ⟨0x40014, 23, 16⟩
def LNK_EPOCH.CAS_RX : Fld := ⟨0x40014, 31, 24⟩
def LNK_SLEEP.w : Fld := ⟨0x40018, 31, 0⟩
def LNK_SLEEP.U_SLEEP : Fld := ⟨0x40018, 15, 0⟩
def LNK_SLEEP.C_SLEEP : Fld := ⟨0x40018, 23, 16⟩
def LNK_DEG.w : Fld := ⟨0x4001c, 31, 0⟩
def LNK_DEG.UP_DL : Fld := ⟨0x4001c, 5, 0⟩
def LNK_DEG.UP_UL : Fld := ⟨0x4001c, 13, 8⟩
def LNK_DEG.CAS_DL : Fld := ⟨0x4001c, 21, 16⟩
def LNK_DEG.CAS_UL : Fld := ⟨0x4001c, 29, 24⟩
def LNK_PEVENT.w : Fld := ⟨0x40020, 31, 0⟩
def LNK_PEVENT.EVENTS : Fld := ⟨0x40020, 6, 0⟩
def LNK_PROTO.w : Fld := ⟨0x40040, 31, 0⟩
def LNK_PROTO.UP_REV : Fld := ⟨0x40040, 1, 0⟩
def LNK_PROTO.CAS_REV : Fld := ⟨0x40040, 3, 2⟩
def LNK_PROTO.REV_MAX : Fld := ⟨0x40040, 5, 4⟩
def LNK_PROTO.POS : Fld := ⟨0x40040, 9, 8⟩
def LNK_PROTO.POS_VALID : Fld := ⟨0x40040, 10, 10⟩
def LNK_SEG.w : Fld := ⟨0x40044, 31, 0⟩
def LNK_SEG.BOUNDARY : Fld := ⟨0x40044, 0, 0⟩
def LNK_SEG.UP_PS20 : Fld := ⟨0x40044, 1, 1⟩
def LNK_SEG.CAS_PS20 : Fld := ⟨0x40044, 2, 2⟩
def LNK_SEG.RESERVE : Fld := ⟨0x40044, 3, 3⟩
def LNK_SEG.CHANGED : Fld := ⟨0x40044, 4, 4⟩
def LNK_CNT_HCRC.w : Fld := ⟨0x40048, 31, 0⟩
def LNK_CNT_HCRC.HCRC : Fld := ⟨0x40048, 31, 0⟩
def LNK_CNT_CRC.w : Fld := ⟨0x4004c, 31, 0⟩
def LNK_CNT_CRC.CRC : Fld := ⟨0x4004c, 31, 0⟩
def LNK_CNT_NACK.w : Fld := ⟨0x40050, 31, 0⟩
def LNK_CNT_NACK.NACK : Fld := ⟨0x40050, 31, 0⟩
def LNK_CNT_NACKLOST.w : Fld := ⟨0x40054, 31, 0⟩
def LNK_CNT_NACKLOST.LOST : Fld := ⟨0x40054, 31, 0⟩
def LNK_CNT_DUP.w : Fld := ⟨0x40058, 31, 0⟩
def LNK_CNT_DUP.DUP : Fld := ⟨0x40058, 31, 0⟩
def LNK_CNT_SEQGAP.w : Fld := ⟨0x4005c, 31, 0⟩
def LNK_CNT_SEQGAP.GAP : Fld := ⟨0x4005c, 31, 0⟩
def LNK_CNT_ORPHAN.w : Fld := ⟨0x40060, 31, 0⟩
def LNK_CNT_ORPHAN.ORPHAN : Fld := ⟨0x40060, 31, 0⟩
def LNK_CNT_MDROP.w : Fld := ⟨0x40064, 31, 0⟩
def LNK_CNT_MDROP.MDROP : Fld := ⟨0x40064, 31, 0⟩
def LNK_CNT_FWD.w : Fld := ⟨0x40068, 31, 0⟩
def LNK_CNT_FWD.FWD : Fld := ⟨0x40068, 31, 0⟩
def LNK_PCNTOVF.w : Fld := ⟨0x4006c, 31, 0⟩
def LNK_PCNTOVF.OVF : Fld := ⟨0x4006c, 8, 0⟩
def LNK_NACKLAST.w : Fld := ⟨0x40070, 31, 0⟩
def LNK_NACKLAST.REASON : Fld := ⟨0x40070, 7, 0⟩
def LNK_NACKLAST.PLANE : Fld := ⟨0x40070, 10, 8⟩
def LNK_NACKLAST.TYPE : Fld := ⟨0x40070, 23, 16⟩
def LNK_LSTAT_n.w (n : Nat) : Fld := ⟨0x41000 + n * 0x100, 31, 0⟩
def LNK_LSTAT_n.RXSTATE (n : Nat) : Fld := ⟨0x41000 + n * 0x100, 3, 0⟩
def LNK_LSTAT_n.TXSTATE (n : Nat) : Fld := ⟨0x41000 + n * 0x100, 7, 4⟩
def LNK_LSTAT_n.POLINV (n : Nat) : Fld := ⟨0x41000 + n * 0x100, 8, 8⟩
def LNK_LSTAT_n.LANE (n : Nat) : Fld := ⟨0x41000 + n * 0x100, 15, 12⟩
def LNK_LCTL_n.w (n : Nat) : Fld := ⟨0x41004 + n * 0x100, 31, 0⟩
def LNK_LCTL_n.MANUAL (n : Nat) : Fld := ⟨0x41004 + n * 0x100, 0, 0⟩
def LNK_LCTL_n.BITSLIP (n : Nat) : Fld := ⟨0x41004 + n * 0x100, 1, 1⟩
def LNK_LCTL_n.RETRAIN (n : Nat) : Fld := ⟨0x41004 + n * 0x100, 2, 2⟩
def LNK_LCTL_n.DISABLE (n : Nat) : Fld := ⟨0x41004 + n * 0x100, 3, 3⟩
def LNK_LCTL_n.REFUSED (n : Nat) : Fld := ⟨0x41004 + n * 0x100, 4, 4⟩
def LNK_LEQ_n.w (n : Nat) : Fld := ⟨0x41008 + n * 0x100, 31, 0⟩
def LNK_LEQ_n.TX_PRE (n : Nat) : Fld := ⟨0x41008 + n * 0x100, 4, 0⟩
def LNK_LEQ_n.TX_MAIN (n : Nat) : Fld := ⟨0x41008 + n * 0x100, 12, 8⟩
def LNK_LEQ_n.TX_POST (n : Nat) : Fld := ⟨0x41008 + n * 0x100, 20, 16⟩
def LNK_LEQ_n.RX_CTLE (n : Nat) : Fld := ⟨0x41008 + n * 0x100, 27, 24⟩
def LNK_CNT_LOS_n.w (n : Nat) : Fld := ⟨0x41010 + n * 0x100, 31, 0⟩
def LNK_CNT_LOS_n.LOS (n : Nat) : Fld := ⟨0x41010 + n * 0x100, 31, 0⟩
def LNK_CNT_LOL_n.w (n : Nat) : Fld := ⟨0x41014 + n * 0x100, 31, 0⟩
def LNK_CNT_LOL_n.LOL (n : Nat) : Fld := ⟨0x41014 + n * 0x100, 31, 0⟩
def LNK_CNT_SH_n.w (n : Nat) : Fld := ⟨0x41018 + n * 0x100, 31, 0⟩
def LNK_CNT_SH_n.SH (n : Nat) : Fld := ⟨0x41018 + n * 0x100, 31, 0⟩
def LNK_CNT_MK_n.w (n : Nat) : Fld := ⟨0x4101c + n * 0x100, 31, 0⟩
def LNK_CNT_MK_n.MK (n : Nat) : Fld := ⟨0x4101c + n * 0x100, 31, 0⟩
def LNK_CNT_EXCL_n.w (n : Nat) : Fld := ⟨0x41020 + n * 0x100, 31, 0⟩
def LNK_CNT_EXCL_n.EXCL (n : Nat) : Fld := ⟨0x41020 + n * 0x100, 31, 0⟩
def LNK_CNT_RETRAIN_n.w (n : Nat) : Fld := ⟨0x41024 + n * 0x100, 31, 0⟩
def LNK_CNT_RETRAIN_n.RETRAIN (n : Nat) : Fld := ⟨0x41024 + n * 0x100, 31, 0⟩
def LNK_CNTOVF_n.w (n : Nat) : Fld := ⟨0x41028 + n * 0x100, 31, 0⟩
def LNK_CNTOVF_n.OVF (n : Nat) : Fld := ⟨0x41028 + n * 0x100, 5, 0⟩
def TXC_RUNAHEAD.w : Fld := ⟨0x50000, 31, 0⟩
def TXC_RUNAHEAD.DEPTH : Fld := ⟨0x50000, 2, 0⟩
def TXC_RUNAHEAD.ERATE : Fld := ⟨0x50000, 4, 3⟩
def TXC_RUNAHEAD.GRID : Fld := ⟨0x50000, 6, 5⟩
def TXC_TSLOT.w : Fld := ⟨0x50004, 31, 0⟩
def TXC_TSLOT.T : Fld := ⟨0x50004, 15, 0⟩
def TXC_HLEAD.w : Fld := ⟨0x50008, 31, 0⟩
def TXC_HLEAD.HLEAD : Fld := ⟨0x50008, 18, 0⟩
def TXC_BUDGET.w : Fld := ⟨0x5000c, 31, 0⟩
def TXC_BUDGET.BUDGET : Fld := ⟨0x5000c, 15, 0⟩
def TXC_CNT_AMEND.w : Fld := ⟨0x50020, 31, 0⟩
def TXC_CNT_AMEND.AMEND : Fld := ⟨0x50020, 31, 0⟩
def TXC_CNT_RECOMP.w : Fld := ⟨0x50024, 31, 0⟩
def TXC_CNT_RECOMP.RECOMP : Fld := ⟨0x50024, 31, 0⟩
def TXC_CNT_WINNOW.w : Fld := ⟨0x50028, 31, 0⟩
def TXC_CNT_WINNOW.WINNOW : Fld := ⟨0x50028, 31, 0⟩
def TXC_CNT_FETCHMISS.w : Fld := ⟨0x5002c, 31, 0⟩
def TXC_CNT_FETCHMISS.MISS : Fld := ⟨0x5002c, 31, 0⟩
def TXC_CNTOVF.w : Fld := ⟨0x50030, 31, 0⟩
def TXC_CNTOVF.OVF : Fld := ⟨0x50030, 3, 0⟩
def TXC_TOTPWR.w : Fld := ⟨0x50034, 31, 0⟩
def TXC_TOTPWR.PWR : Fld := ⟨0x50034, 15, 0⟩
def TXC_TOTPWR.TOT_LIMIT : Fld := ⟨0x50034, 16, 16⟩
def TXC_PATHCTL_n.w (n : Nat) : Fld := ⟨0x51000 + n * 0x100, 31, 0⟩
def TXC_PATHCTL_n.USED (n : Nat) : Fld := ⟨0x51000 + n * 0x100, 0, 0⟩
def TXC_PATHCTL_n.PWR_MON (n : Nat) : Fld := ⟨0x51000 + n * 0x100, 1, 1⟩
def TXC_PATHSTAT_n.w (n : Nat) : Fld := ⟨0x51004 + n * 0x100, 31, 0⟩
def TXC_PATHSTAT_n.MUTE (n : Nat) : Fld := ⟨0x51004 + n * 0x100, 3, 0⟩
def TXC_PATHSTAT_n.PWR_LIMIT (n : Nat) : Fld := ⟨0x51004 + n * 0x100, 4, 4⟩
def TXC_PATHSTAT_n.DUTY10 (n : Nat) : Fld := ⟨0x51004 + n * 0x100, 5, 5⟩
def TXC_PATHSTAT_n.DUTY1S (n : Nat) : Fld := ⟨0x51004 + n * 0x100, 6, 6⟩
def TXC_PATHPWR_n.w (n : Nat) : Fld := ⟨0x51008 + n * 0x100, 31, 0⟩
def TXC_PATHPWR_n.PWR (n : Nat) : Fld := ⟨0x51008 + n * 0x100, 15, 0⟩
def TXC_DUTY_n.w (n : Nat) : Fld := ⟨0x5100c + n * 0x100, 31, 0⟩
def TXC_DUTY_n.FRAME (n : Nat) : Fld := ⟨0x5100c + n * 0x100, 9, 0⟩
def TXC_DUTY_n.SECOND (n : Nat) : Fld := ⟨0x5100c + n * 0x100, 25, 16⟩
def TXC_CNT_REG_n.w (n : Nat) : Fld := ⟨0x51010 + n * 0x100, 31, 0⟩
def TXC_CNT_REG_n.REG (n : Nat) : Fld := ⟨0x51010 + n * 0x100, 31, 0⟩
def TXC_CNT_CLIP_n.w (n : Nat) : Fld := ⟨0x51014 + n * 0x100, 31, 0⟩
def TXC_CNT_CLIP_n.CLIP (n : Nat) : Fld := ⟨0x51014 + n * 0x100, 31, 0⟩
def TXC_CNT_RESID_n.w (n : Nat) : Fld := ⟨0x51018 + n * 0x100, 31, 0⟩
def TXC_CNT_RESID_n.RESID (n : Nat) : Fld := ⟨0x51018 + n * 0x100, 31, 0⟩
def TXC_CNTOVF_n.w (n : Nat) : Fld := ⟨0x5101c + n * 0x100, 31, 0⟩
def TXC_CNTOVF_n.OVF (n : Nat) : Fld := ⟨0x5101c + n * 0x100, 2, 0⟩
def DPD_CFG.w : Fld := ⟨0x60000, 31, 0⟩
def DPD_CFG.COUPLED : Fld := ⟨0x60000, 0, 0⟩
def DPD_CFG.MODELS : Fld := ⟨0x60000, 7, 4⟩
def DPD_CFG.SLOTS : Fld := ⟨0x60000, 12, 8⟩
def DPD_BANKSEL.w : Fld := ⟨0x60004, 31, 0⟩
def DPD_BANKSEL.PATH : Fld := ⟨0x60004, 5, 0⟩
def DPD_BANKSEL.OPPT : Fld := ⟨0x60004, 9, 8⟩
def DPD_BANKSEL.STORE : Fld := ⟨0x60004, 13, 12⟩
def DPD_BANKSEL.TERM : Fld := ⟨0x60004, 21, 16⟩
def DPD_BANKI.w : Fld := ⟨0x60008, 31, 0⟩
def DPD_BANKI.I : Fld := ⟨0x60008, 31, 0⟩
def DPD_BANKQ.w : Fld := ⟨0x6000c, 31, 0⟩
def DPD_BANKQ.Q : Fld := ⟨0x6000c, 31, 0⟩
def DPD_CNT_COMMIT.w : Fld := ⟨0x60020, 31, 0⟩
def DPD_CNT_COMMIT.COMMIT : Fld := ⟨0x60020, 31, 0⟩
def DPD_CNT_CFAIL.w : Fld := ⟨0x60024, 31, 0⟩
def DPD_CNT_CFAIL.CFAIL : Fld := ⟨0x60024, 31, 0⟩
def DPD_CNT_CIDLE.w : Fld := ⟨0x60028, 31, 0⟩
def DPD_CNT_CIDLE.CIDLE : Fld := ⟨0x60028, 31, 0⟩
def DPD_CNTOVF.w : Fld := ⟨0x6002c, 31, 0⟩
def DPD_CNTOVF.OVF : Fld := ⟨0x6002c, 2, 0⟩
def DPD_LASTFAIL.w : Fld := ⟨0x60030, 31, 0⟩
def DPD_LASTFAIL.GROUP : Fld := ⟨0x60030, 5, 0⟩
def DPD_LASTFAIL.OPPT : Fld := ⟨0x60030, 9, 8⟩
def DPD_LASTFAIL.PATH : Fld := ⟨0x60030, 21, 16⟩
def DPD_LASTFAIL.MASK : Fld := ⟨0x60030, 28, 24⟩
def DPD_GLSTAT0.w : Fld := ⟨0x60040, 31, 0⟩
def DPD_GLSTAT0.INPUT : Fld := ⟨0x60040, 2, 0⟩
def DPD_GLSTAT0.DIR : Fld := ⟨0x60040, 3, 3⟩
def DPD_GLSTAT0.BUSY : Fld := ⟨0x60040, 4, 4⟩
def DPD_GLSTAT0.BUF : Fld := ⟨0x60040, 11, 8⟩
def DPD_GLSTAT1.w : Fld := ⟨0x60044, 31, 0⟩
def DPD_GLSTAT1.INPUT : Fld := ⟨0x60044, 2, 0⟩
def DPD_GLSTAT1.DIR : Fld := ⟨0x60044, 3, 3⟩
def DPD_GLSTAT1.BUSY : Fld := ⟨0x60044, 4, 4⟩
def DPD_GLSTAT1.BUF : Fld := ⟨0x60044, 11, 8⟩
def DPD_GLSTAT2.w : Fld := ⟨0x60048, 31, 0⟩
def DPD_GLSTAT2.INPUT : Fld := ⟨0x60048, 2, 0⟩
def DPD_GLSTAT2.DIR : Fld := ⟨0x60048, 3, 3⟩
def DPD_GLSTAT2.BUSY : Fld := ⟨0x60048, 4, 4⟩
def DPD_GLSTAT2.BUF : Fld := ⟨0x60048, 11, 8⟩
def DPD_GLSTAT3.w : Fld := ⟨0x6004c, 31, 0⟩
def DPD_GLSTAT3.INPUT : Fld := ⟨0x6004c, 2, 0⟩
def DPD_GLSTAT3.DIR : Fld := ⟨0x6004c, 3, 3⟩
def DPD_GLSTAT3.BUSY : Fld := ⟨0x6004c, 4, 4⟩
def DPD_GLSTAT3.BUF : Fld := ⟨0x6004c, 11, 8⟩
def DPD_GLSTAT4.w : Fld := ⟨0x60050, 31, 0⟩
def DPD_GLSTAT4.INPUT : Fld := ⟨0x60050, 2, 0⟩
def DPD_GLSTAT4.DIR : Fld := ⟨0x60050, 3, 3⟩
def DPD_GLSTAT4.BUSY : Fld := ⟨0x60050, 4, 4⟩
def DPD_GLSTAT4.BUF : Fld := ⟨0x60050, 11, 8⟩
def DPD_GLSTAT5.w : Fld := ⟨0x60054, 31, 0⟩
def DPD_GLSTAT5.INPUT : Fld := ⟨0x60054, 2, 0⟩
def DPD_GLSTAT5.DIR : Fld := ⟨0x60054, 3, 3⟩
def DPD_GLSTAT5.BUSY : Fld := ⟨0x60054, 4, 4⟩
def DPD_GLSTAT5.BUF : Fld := ⟨0x60054, 11, 8⟩
def DPD_GLSTAT6.w : Fld := ⟨0x60058, 31, 0⟩
def DPD_GLSTAT6.INPUT : Fld := ⟨0x60058, 2, 0⟩
def DPD_GLSTAT6.DIR : Fld := ⟨0x60058, 3, 3⟩
def DPD_GLSTAT6.BUSY : Fld := ⟨0x60058, 4, 4⟩
def DPD_GLSTAT6.BUF : Fld := ⟨0x60058, 11, 8⟩
def DPD_GLSTAT7.w : Fld := ⟨0x6005c, 31, 0⟩
def DPD_GLSTAT7.INPUT : Fld := ⟨0x6005c, 2, 0⟩
def DPD_GLSTAT7.DIR : Fld := ⟨0x6005c, 3, 3⟩
def DPD_GLSTAT7.BUSY : Fld := ⟨0x6005c, 4, 4⟩
def DPD_GLSTAT7.BUF : Fld := ⟨0x6005c, 11, 8⟩
def DPD_PATHSTAT_n.w (n : Nat) : Fld := ⟨0x61000 + n * 0x100, 31, 0⟩
def DPD_PATHSTAT_n.MODEL (n : Nat) : Fld := ⟨0x61000 + n * 0x100, 2, 0⟩
def DPD_PATHSTAT_n.BYPASS (n : Nat) : Fld := ⟨0x61000 + n * 0x100, 3, 3⟩
def DPD_PATHSTAT_n.OPPT (n : Nat) : Fld := ⟨0x61000 + n * 0x100, 5, 4⟩
def DPD_PATHSTAT_n.VER (n : Nat) : Fld := ⟨0x61000 + n * 0x100, 15, 8⟩
def DPD_PATHSTAT_n.FAILMASK (n : Nat) : Fld := ⟨0x61000 + n * 0x100, 20, 16⟩
def DPD_LASTCAP_n.w (n : Nat) : Fld := ⟨0x61004 + n * 0x100, 31, 0⟩
def DPD_LASTCAP_n.VOID (n : Nat) : Fld := ⟨0x61004 + n * 0x100, 3, 0⟩
def DPD_LASTCAP_n.DIR (n : Nat) : Fld := ⟨0x61004 + n * 0x100, 4, 4⟩
def DPD_LASTCAP_n.BUF (n : Nat) : Fld := ⟨0x61004 + n * 0x100, 11, 8⟩
def DPD_NMSE_n.w (n : Nat) : Fld := ⟨0x61008 + n * 0x100, 31, 0⟩
def DPD_NMSE_n.MEAS (n : Nat) : Fld := ⟨0x61008 + n * 0x100, 11, 0⟩
def DPD_NMSE_n.PRED (n : Nat) : Fld := ⟨0x61008 + n * 0x100, 27, 16⟩
def DPD_LOOP_n.w (n : Nat) : Fld := ⟨0x6100c + n * 0x100, 31, 0⟩
def DPD_LOOP_n.GAIN (n : Nat) : Fld := ⟨0x6100c + n * 0x100, 15, 0⟩
def DPD_LOOP_n.PHASE (n : Nat) : Fld := ⟨0x6100c + n * 0x100, 31, 16⟩
def DPD_DELAY_n.w (n : Nat) : Fld := ⟨0x61010 + n * 0x100, 31, 0⟩
def DPD_DELAY_n.DELAY (n : Nat) : Fld := ⟨0x61010 + n * 0x100, 19, 0⟩
def DPD_RL_n.w (n : Nat) : Fld := ⟨0x61014 + n * 0x100, 31, 0⟩
def DPD_RL_n.RL (n : Nat) : Fld := ⟨0x61014 + n * 0x100, 11, 0⟩
def DPD_RL_n.VALID (n : Nat) : Fld := ⟨0x61014 + n * 0x100, 12, 12⟩
def DPD_RL_n.PHASE (n : Nat) : Fld := ⟨0x61014 + n * 0x100, 31, 16⟩
def DPD_GATTN_n.w (n : Nat) : Fld := ⟨0x61018 + n * 0x100, 31, 0⟩
def DPD_GATTN_n.ATTN (n : Nat) : Fld := ⟨0x61018 + n * 0x100, 3, 0⟩
def DPD_CNT_CAP_n.w (n : Nat) : Fld := ⟨0x61020 + n * 0x100, 31, 0⟩
def DPD_CNT_CAP_n.CAP (n : Nat) : Fld := ⟨0x61020 + n * 0x100, 31, 0⟩
def DPD_CNT_VOID_n.w (n : Nat) : Fld := ⟨0x61024 + n * 0x100, 31, 0⟩
def DPD_CNT_VOID_n.VOID (n : Nat) : Fld := ⟨0x61024 + n * 0x100, 31, 0⟩
def DPD_CNT_GSAT_n.w (n : Nat) : Fld := ⟨0x61028 + n * 0x100, 31, 0⟩
def DPD_CNT_GSAT_n.GSAT (n : Nat) : Fld := ⟨0x61028 + n * 0x100, 31, 0⟩
def DPD_CNT_OSAT_n.w (n : Nat) : Fld := ⟨0x6102c + n * 0x100, 31, 0⟩
def DPD_CNT_OSAT_n.OSAT (n : Nat) : Fld := ⟨0x6102c + n * 0x100, 31, 0⟩
def DPD_CNTOVF_n.w (n : Nat) : Fld := ⟨0x61030 + n * 0x100, 31, 0⟩
def DPD_CNTOVF_n.OVF (n : Nat) : Fld := ⟨0x61030 + n * 0x100, 3, 0⟩
def RXC_CFG.w : Fld := ⟨0x70000, 31, 0⟩
def RXC_CFG.RXGRID : Fld := ⟨0x70000, 1, 0⟩
def RXC_CFG.SEG_RESERVE : Fld := ⟨0x70000, 8, 8⟩
def RXC_SOUND.w : Fld := ⟨0x70004, 31, 0⟩
def RXC_SOUND.BUSY : Fld := ⟨0x70004, 0, 0⟩
def RXC_SOUND.SKIPPED : Fld := ⟨0x70004, 1, 1⟩
def RXC_CNT_INVSYM.w : Fld := ⟨0x70020, 31, 0⟩
def RXC_CNT_INVSYM.INVSYM : Fld := ⟨0x70020, 31, 0⟩
def RXC_CNT_PSMISS.w : Fld := ⟨0x70024, 31, 0⟩
def RXC_CNT_PSMISS.PSMISS : Fld := ⟨0x70024, 31, 0⟩
def RXC_CNT_PSSHED.w : Fld := ⟨0x70028, 31, 0⟩
def RXC_CNT_PSSHED.PSSHED : Fld := ⟨0x70028, 31, 0⟩
def RXC_CNT_SOUND.w : Fld := ⟨0x7002c, 31, 0⟩
def RXC_CNT_SOUND.SOUND : Fld := ⟨0x7002c, 31, 0⟩
def RXC_CNT_SNDSKIP.w : Fld := ⟨0x70030, 31, 0⟩
def RXC_CNT_SNDSKIP.SNDSKIP : Fld := ⟨0x70030, 31, 0⟩
def RXC_CNTOVF.w : Fld := ⟨0x70034, 31, 0⟩
def RXC_CNTOVF.OVF : Fld := ⟨0x70034, 4, 0⟩
def RXC_ATTN_n.w (n : Nat) : Fld := ⟨0x71000 + n * 0x100, 31, 0⟩
def RXC_ATTN_n.ATTN (n : Nat) : Fld := ⟨0x71000 + n * 0x100, 4, 0⟩
def RXC_PEAK_n.w (n : Nat) : Fld := ⟨0x71004 + n * 0x100, 31, 0⟩
def RXC_PEAK_n.PEAK (n : Nat) : Fld := ⟨0x71004 + n * 0x100, 10, 0⟩
def RXC_PEAK_n.HICNT (n : Nat) : Fld := ⟨0x71004 + n * 0x100, 31, 16⟩
def RXC_FILT_n.w (n : Nat) : Fld := ⟨0x71008 + n * 0x100, 31, 0⟩
def RXC_FILT_n.SET (n : Nat) : Fld := ⟨0x71008 + n * 0x100, 7, 0⟩
def RXC_CNT_OVL_n.w (n : Nat) : Fld := ⟨0x7100c + n * 0x100, 31, 0⟩
def RXC_CNT_OVL_n.OVL (n : Nat) : Fld := ⟨0x7100c + n * 0x100, 31, 0⟩
def RXC_CNT_AGC_n.w (n : Nat) : Fld := ⟨0x71010 + n * 0x100, 31, 0⟩
def RXC_CNT_AGC_n.AGC (n : Nat) : Fld := ⟨0x71010 + n * 0x100, 31, 0⟩
def RXC_CNTOVF_n.w (n : Nat) : Fld := ⟨0x71014 + n * 0x100, 31, 0⟩
def RXC_CNTOVF_n.OVF (n : Nat) : Fld := ⟨0x71014 + n * 0x100, 1, 0⟩
def CNV_CFG.w : Fld := ⟨0x80000, 31, 0⟩
def CNV_CFG.PLAN1 : Fld := ⟨0x80000, 3, 0⟩
def CNV_CFG.USED : Fld := ⟨0x80000, 7, 4⟩
def CNV_QSTAT0.w : Fld := ⟨0x80010, 31, 0⟩
def CNV_QSTAT0.CLK_OK : Fld := ⟨0x80010, 0, 0⟩
def CNV_QSTAT0.GL_ON : Fld := ⟨0x80010, 2, 1⟩
def CNV_QSTAT1.w : Fld := ⟨0x80014, 31, 0⟩
def CNV_QSTAT1.CLK_OK : Fld := ⟨0x80014, 0, 0⟩
def CNV_QSTAT1.GL_ON : Fld := ⟨0x80014, 2, 1⟩
def CNV_QSTAT2.w : Fld := ⟨0x80018, 31, 0⟩
def CNV_QSTAT2.CLK_OK : Fld := ⟨0x80018, 0, 0⟩
def CNV_QSTAT2.GL_ON : Fld := ⟨0x80018, 2, 1⟩
def CNV_QSTAT3.w : Fld := ⟨0x8001c, 31, 0⟩
def CNV_QSTAT3.CLK_OK : Fld := ⟨0x8001c, 0, 0⟩
def CNV_QSTAT3.GL_ON : Fld := ⟨0x8001c, 2, 1⟩
def CNV_BSTAT.w : Fld := ⟨0x80020, 31, 0⟩
def CNV_BSTAT.NOLOCK : Fld := ⟨0x80020, 0, 0⟩
def CNV_BSTAT.STROBE_SKIP : Fld := ⟨0x80020, 1, 1⟩
def CNV_CNT_BSKIP.w : Fld := ⟨0x80024, 31, 0⟩
def CNV_CNT_BSKIP.BSKIP : Fld := ⟨0x80024, 31, 0⟩
def CNV_CNTOVF.w : Fld := ⟨0x80028, 31, 0⟩
def CNV_CNTOVF.OVF : Fld := ⟨0x80028, 0, 0⟩
def CNV_PATHSTAT_n.w (n : Nat) : Fld := ⟨0x81000 + n * 0x100, 31, 0⟩
def CNV_PATHSTAT_n.TX_QUIET (n : Nat) : Fld := ⟨0x81000 + n * 0x100, 0, 0⟩
def CNV_PATHSTAT_n.MIXMODE (n : Nat) : Fld := ⟨0x81000 + n * 0x100, 1, 1⟩
def CNV_PATHSTAT_n.TONE (n : Nat) : Fld := ⟨0x81000 + n * 0x100, 3, 2⟩
def CNV_PATHSTAT_n.RX_ON (n : Nat) : Fld := ⟨0x81000 + n * 0x100, 4, 4⟩
def CNV_TXNCO_n.w (n : Nat) : Fld := ⟨0x81004 + n * 0x100, 31, 0⟩
def CNV_TXNCO_n.FC (n : Nat) : Fld := ⟨0x81004 + n * 0x100, 23, 0⟩
def CNV_RXNCO_n.w (n : Nat) : Fld := ⟨0x81008 + n * 0x100, 31, 0⟩
def CNV_RXNCO_n.FC (n : Nat) : Fld := ⟨0x81008 + n * 0x100, 23, 0⟩
def CNV_TONEF_n.w (n : Nat) : Fld := ⟨0x8100c + n * 0x100, 31, 0⟩
def CNV_TONEF_n.FREQ (n : Nat) : Fld := ⟨0x8100c + n * 0x100, 31, 0⟩
def CNV_TONEA_n.w (n : Nat) : Fld := ⟨0x81010 + n * 0x100, 31, 0⟩
def CNV_TONEA_n.AMPL (n : Nat) : Fld := ⟨0x81010 + n * 0x100, 12, 0⟩
def CNV_BG_n.w (n : Nat) : Fld := ⟨0x81020 + n * 0x100, 31, 0⟩
def CNV_BG_n.CODE (n : Nat) : Fld := ⟨0x81020 + n * 0x100, 11, 0⟩
def CNV_BG_n.RANGE (n : Nat) : Fld := ⟨0x81020 + n * 0x100, 13, 12⟩
def CNV_BG_n.SWITCHING (n : Nat) : Fld := ⟨0x81020 + n * 0x100, 14, 14⟩
def CNV_BG_n.SAFE (n : Nat) : Fld := ⟨0x81020 + n * 0x100, 15, 15⟩
def CNV_BG_n.GROUP (n : Nat) : Fld := ⟨0x81020 + n * 0x100, 20, 16⟩
def CNV_BGSTAGE_n.w (n : Nat) : Fld := ⟨0x81024 + n * 0x100, 31, 0⟩
def CNV_BGSTAGE_n.CODE (n : Nat) : Fld := ⟨0x81024 + n * 0x100, 11, 0⟩
def CNV_BGSTAGE_n.RANGE (n : Nat) : Fld := ⟨0x81024 + n * 0x100, 13, 12⟩
def CNV_BGSTAGE_n.PENDING (n : Nat) : Fld := ⟨0x81024 + n * 0x100, 16, 16⟩
def CNV_BA_n.w (n : Nat) : Fld := ⟨0x81028 + n * 0x100, 31, 0⟩
def CNV_BA_n.CODE (n : Nat) : Fld := ⟨0x81028 + n * 0x100, 11, 0⟩
def CNV_BA_n.RANGE (n : Nat) : Fld := ⟨0x81028 + n * 0x100, 13, 12⟩
def CNV_BA_n.SWITCHING (n : Nat) : Fld := ⟨0x81028 + n * 0x100, 14, 14⟩
def CNV_BA_n.SAFE (n : Nat) : Fld := ⟨0x81028 + n * 0x100, 15, 15⟩
def CNV_BA_n.GROUP (n : Nat) : Fld := ⟨0x81028 + n * 0x100, 20, 16⟩
def CNV_BASTAGE_n.w (n : Nat) : Fld := ⟨0x8102c + n * 0x100, 31, 0⟩
def CNV_BASTAGE_n.CODE (n : Nat) : Fld := ⟨0x8102c + n * 0x100, 11, 0⟩
def CNV_BASTAGE_n.RANGE (n : Nat) : Fld := ⟨0x8102c + n * 0x100, 13, 12⟩
def CNV_BASTAGE_n.PENDING (n : Nat) : Fld := ⟨0x8102c + n * 0x100, 16, 16⟩
def RFE_CALCFG.w : Fld := ⟨0x90000, 31, 0⟩
def RFE_CALCFG.POLICY : Fld := ⟨0x90000, 3, 0⟩
def RFE_CALREQ.w : Fld := ⟨0x90004, 31, 0⟩
def RFE_CALREQ.KINDS : Fld := ⟨0x90004, 4, 0⟩
def RFE_CALREQ.CHIPLETS : Fld := ⟨0x90004, 11, 8⟩
def RFE_CALSTAT0.w : Fld := ⟨0x90010, 31, 0⟩
def RFE_CALSTAT0.PENDING : Fld := ⟨0x90010, 4, 0⟩
def RFE_CALSTAT0.RUNKIND : Fld := ⟨0x90010, 7, 5⟩
def RFE_CALSTAT0.BUSY : Fld := ⟨0x90010, 8, 8⟩
def RFE_CALSTAT0.SYN_LOCK : Fld := ⟨0x90010, 9, 9⟩
def RFE_CALSTAT0.OVERRUN : Fld := ⟨0x90010, 10, 10⟩
def RFE_CALSTAT0.HELD : Fld := ⟨0x90010, 11, 11⟩
def RFE_CALSTAT0.TEMP : Fld := ⟨0x90010, 23, 16⟩
def RFE_CALSTAT0.TEMP_STEP : Fld := ⟨0x90010, 28, 24⟩
def RFE_CALSTAT1.w : Fld := ⟨0x90014, 31, 0⟩
def RFE_CALSTAT1.PENDING : Fld := ⟨0x90014, 4, 0⟩
def RFE_CALSTAT1.RUNKIND : Fld := ⟨0x90014, 7, 5⟩
def RFE_CALSTAT1.BUSY : Fld := ⟨0x90014, 8, 8⟩
def RFE_CALSTAT1.SYN_LOCK : Fld := ⟨0x90014, 9, 9⟩
def RFE_CALSTAT1.OVERRUN : Fld := ⟨0x90014, 10, 10⟩
def RFE_CALSTAT1.HELD : Fld := ⟨0x90014, 11, 11⟩
def RFE_CALSTAT1.TEMP : Fld := ⟨0x90014, 23, 16⟩
def RFE_CALSTAT1.TEMP_STEP : Fld := ⟨0x90014, 28, 24⟩
def RFE_CALSTAT2.w : Fld := ⟨0x90018, 31, 0⟩
def RFE_CALSTAT2.PENDING : Fld := ⟨0x90018, 4, 0⟩
def RFE_CALSTAT2.RUNKIND : Fld := ⟨0x90018, 7, 5⟩
def RFE_CALSTAT2.BUSY : Fld := ⟨0x90018, 8, 8⟩
def RFE_CALSTAT2.SYN_LOCK : Fld := ⟨0x90018, 9, 9⟩
def RFE_CALSTAT2.OVERRUN : Fld := ⟨0x90018, 10, 10⟩
def RFE_CALSTAT2.HELD : Fld := ⟨0x90018, 11, 11⟩
def RFE_CALSTAT2.TEMP : Fld := ⟨0x90018, 23, 16⟩
def RFE_CALSTAT2.TEMP_STEP : Fld := ⟨0x90018, 28, 24⟩
def RFE_CALSTAT3.w : Fld := ⟨0x9001c, 31, 0⟩
def RFE_CALSTAT3.PENDING : Fld := ⟨0x9001c, 4, 0⟩
def RFE_CALSTAT3.RUNKIND : Fld := ⟨0x9001c, 7, 5⟩
def RFE_CALSTAT3.BUSY : Fld := ⟨0x9001c, 8, 8⟩
def RFE_CALSTAT3.SYN_LOCK : Fld := ⟨0x9001c, 9, 9⟩
def RFE_CALSTAT3.OVERRUN : Fld := ⟨0x9001c, 10, 10⟩
def RFE_CALSTAT3.HELD : Fld := ⟨0x9001c, 11, 11⟩
def RFE_CALSTAT3.TEMP : Fld := ⟨0x9001c, 23, 16⟩
def RFE_CALSTAT3.TEMP_STEP : Fld := ⟨0x9001c, 28, 24⟩
def RFE_CNT_CAL.w : Fld := ⟨0x90020, 31, 0⟩
def RFE_CNT_CAL.CAL : Fld := ⟨0x90020, 31, 0⟩
def RFE_CNT_OVERRUN.w : Fld := ⟨0x90024, 31, 0⟩
def RFE_CNT_OVERRUN.OVERRUN : Fld := ⟨0x90024, 31, 0⟩
def RFE_CNT_LOCKLOSS.w : Fld := ⟨0x90028, 31, 0⟩
def RFE_CNT_LOCKLOSS.LOCKLOSS : Fld := ⟨0x90028, 31, 0⟩
def RFE_CNT_FSBPERR.w : Fld := ⟨0x9002c, 31, 0⟩
def RFE_CNT_FSBPERR.FSBPERR : Fld := ⟨0x9002c, 31, 0⟩
def RFE_CNTOVF.w : Fld := ⟨0x90030, 31, 0⟩
def RFE_CNTOVF.OVF : Fld := ⟨0x90030, 3, 0⟩
def RFE_FSBCMD.w : Fld := ⟨0x90040, 31, 0⟩
def RFE_FSBCMD.DATA : Fld := ⟨0x90040, 7, 0⟩
def RFE_FSBCMD.REG : Fld := ⟨0x90040, 15, 8⟩
def RFE_FSBCMD.USID : Fld := ⟨0x90040, 19, 16⟩
def RFE_FSBCMD.RW : Fld := ⟨0x90040, 20, 20⟩
def RFE_FSBCMD.BUS : Fld := ⟨0x90040, 22, 21⟩
def RFE_FSBCMD.GO : Fld := ⟨0x90040, 24, 24⟩
def RFE_FSBCMD.BUSY : Fld := ⟨0x90040, 25, 25⟩
def RFE_FSBCMD.REFUSED : Fld := ⟨0x90040, 26, 26⟩
def RFE_FSBRD.w : Fld := ⟨0x90044, 31, 0⟩
def RFE_FSBRD.DATA : Fld := ⟨0x90044, 7, 0⟩
def RFE_FSBRD.PERR : Fld := ⟨0x90044, 8, 8⟩
def RFE_FSBRD.BUS : Fld := ⟨0x90044, 10, 9⟩
def RFE_TRIP_LO.w : Fld := ⟨0x90050, 31, 0⟩
def RFE_TRIP_LO.TRIP : Fld := ⟨0x90050, 31, 0⟩
def RFE_TRIP_HI.w : Fld := ⟨0x90054, 31, 0⟩
def RFE_TRIP_HI.TRIP : Fld := ⟨0x90054, 31, 0⟩
def RFE_ALERT.w : Fld := ⟨0x90058, 31, 0⟩
def RFE_ALERT.LEVEL : Fld := ⟨0x90058, 7, 0⟩
def RFE_ALERT.LATCH : Fld := ⟨0x90058, 15, 8⟩
def RFE_PROT_LO.w : Fld := ⟨0x9005c, 31, 0⟩
def RFE_PROT_LO.PROT : Fld := ⟨0x9005c, 31, 0⟩
def RFE_PROT_HI.w : Fld := ⟨0x90060, 31, 0⟩
def RFE_PROT_HI.PROT : Fld := ⟨0x90060, 31, 0⟩
def RFE_PATH_n.w (n : Nat) : Fld := ⟨0x91000 + n * 0x100, 31, 0⟩
def RFE_PATH_n.PSTEP (n : Nat) : Fld := ⟨0x91000 + n * 0x100, 5, 0⟩
def RFE_PATH_n.PSREQ (n : Nat) : Fld := ⟨0x91000 + n * 0x100, 13, 8⟩
def RFE_PATH_n.FEMENT (n : Nat) : Fld := ⟨0x91000 + n * 0x100, 19, 16⟩
def RFE_PATH_n.PHASE (n : Nat) : Fld := ⟨0x91000 + n * 0x100, 21, 20⟩
def RFE_PATH_n.LINES (n : Nat) : Fld := ⟨0x91000 + n * 0x100, 26, 24⟩
def RFE_PATH_n.PROT (n : Nat) : Fld := ⟨0x91000 + n * 0x100, 27, 27⟩
def RFE_CNT_MWARN_n.w (n : Nat) : Fld := ⟨0x91004 + n * 0x100, 31, 0⟩
def RFE_CNT_MWARN_n.MWARN (n : Nat) : Fld := ⟨0x91004 + n * 0x100, 31, 0⟩
def RFE_CNT_MTRIP_n.w (n : Nat) : Fld := ⟨0x91008 + n * 0x100, 31, 0⟩
def RFE_CNT_MTRIP_n.MTRIP (n : Nat) : Fld := ⟨0x91008 + n * 0x100, 31, 0⟩
def RFE_CNTOVF_n.w (n : Nat) : Fld := ⟨0x9100c + n * 0x100, 31, 0⟩
def RFE_CNTOVF_n.OVF (n : Nat) : Fld := ⟨0x9100c + n * 0x100, 1, 0⟩
def RFE_TINE_k.w (n : Nat) : Fld := ⟨0x98000 + n * 0x100, 31, 0⟩
def RFE_TINE_k.LEN (n : Nat) : Fld := ⟨0x98000 + n * 0x100, 9, 0⟩
def RFE_TINE_k.DIV (n : Nat) : Fld := ⟨0x98000 + n * 0x100, 11, 10⟩
def RFE_TINE_k.BUSY (n : Nat) : Fld := ⟨0x98000 + n * 0x100, 16, 16⟩
def RFE_TINE_k.RBERR (n : Nat) : Fld := ⟨0x98000 + n * 0x100, 17, 17⟩
def RFE_CNT_TFRAME_k.w (n : Nat) : Fld := ⟨0x98004 + n * 0x100, 31, 0⟩
def RFE_CNT_TFRAME_k.TFRAME (n : Nat) : Fld := ⟨0x98004 + n * 0x100, 31, 0⟩
def RFE_CNT_TRBERR_k.w (n : Nat) : Fld := ⟨0x98008 + n * 0x100, 31, 0⟩
def RFE_CNT_TRBERR_k.TRBERR (n : Nat) : Fld := ⟨0x98008 + n * 0x100, 31, 0⟩
def RFE_TCNTOVF_k.w (n : Nat) : Fld := ⟨0x9800c + n * 0x100, 31, 0⟩
def RFE_TCNTOVF_k.OVF (n : Nat) : Fld := ⟨0x9800c + n * 0x100, 1, 0⟩
def TIL_CFG.w : Fld := ⟨0xa0000, 31, 0⟩
def TIL_CFG.IMAGES : Fld := ⟨0xa0000, 8, 0⟩
def TIL_CFG.KERNELS : Fld := ⟨0xa0000, 28, 16⟩
def TIL_SEL.w : Fld := ⟨0xa0004, 31, 0⟩
def TIL_SEL.TILE : Fld := ⟨0xa0004, 7, 0⟩
def TIL_TSTAT.w : Fld := ⟨0xa0008, 31, 0⟩
def TIL_TSTAT.STATE : Fld := ⟨0xa0008, 2, 0⟩
def TIL_TSTAT.OVF : Fld := ⟨0xa0008, 3, 3⟩
def TIL_TSTAT.WINFAULT : Fld := ⟨0xa0008, 4, 4⟩
def TIL_TSTAT.PROTFAULT : Fld := ⟨0xa0008, 5, 5⟩
def TIL_TSTAT.ECCU : Fld := ⟨0xa0008, 6, 6⟩
def TIL_TSTAT.KERNEL : Fld := ⟨0xa0008, 19, 8⟩
def TIL_TCYC.w : Fld := ⟨0xa000c, 31, 0⟩
def TIL_TCYC.CYCLES : Fld := ⟨0xa000c, 20, 0⟩
def TIL_TUSED0.w : Fld := ⟨0xa0020, 31, 0⟩
def TIL_TUSED0.USED : Fld := ⟨0xa0020, 31, 0⟩
def TIL_TUSED1.w : Fld := ⟨0xa0024, 31, 0⟩
def TIL_TUSED1.USED : Fld := ⟨0xa0024, 31, 0⟩
def TIL_TUSED2.w : Fld := ⟨0xa0028, 31, 0⟩
def TIL_TUSED2.USED : Fld := ⟨0xa0028, 31, 0⟩
def TIL_TUSED3.w : Fld := ⟨0xa002c, 31, 0⟩
def TIL_TUSED3.USED : Fld := ⟨0xa002c, 31, 0⟩
def TIL_TUSED4.w : Fld := ⟨0xa0030, 31, 0⟩
def TIL_TUSED4.USED : Fld := ⟨0xa0030, 31, 0⟩
def TIL_TUSED5.w : Fld := ⟨0xa0034, 31, 0⟩
def TIL_TUSED5.USED : Fld := ⟨0xa0034, 31, 0⟩
def TIL_TUSED6.w : Fld := ⟨0xa0038, 31, 0⟩
def TIL_TUSED6.USED : Fld := ⟨0xa0038, 31, 0⟩
def TIL_TUSED7.w : Fld := ⟨0xa003c, 31, 0⟩
def TIL_TUSED7.USED : Fld := ⟨0xa003c, 31, 0⟩
def TIL_TFAIL0.w : Fld := ⟨0xa0040, 31, 0⟩
def TIL_TFAIL0.FAIL : Fld := ⟨0xa0040, 31, 0⟩
def TIL_TFAIL1.w : Fld := ⟨0xa0044, 31, 0⟩
def TIL_TFAIL1.FAIL : Fld := ⟨0xa0044, 31, 0⟩
def TIL_TFAIL2.w : Fld := ⟨0xa0048, 31, 0⟩
def TIL_TFAIL2.FAIL : Fld := ⟨0xa0048, 31, 0⟩
def TIL_TFAIL3.w : Fld := ⟨0xa004c, 31, 0⟩
def TIL_TFAIL3.FAIL : Fld := ⟨0xa004c, 31, 0⟩
def TIL_TFAIL4.w : Fld := ⟨0xa0050, 31, 0⟩
def TIL_TFAIL4.FAIL : Fld := ⟨0xa0050, 31, 0⟩
def TIL_TFAIL5.w : Fld := ⟨0xa0054, 31, 0⟩
def TIL_TFAIL5.FAIL : Fld := ⟨0xa0054, 31, 0⟩
def TIL_TFAIL6.w : Fld := ⟨0xa0058, 31, 0⟩
def TIL_TFAIL6.FAIL : Fld := ⟨0xa0058, 31, 0⟩
def TIL_TFAIL7.w : Fld := ⟨0xa005c, 31, 0⟩
def TIL_TFAIL7.FAIL : Fld := ⟨0xa005c, 31, 0⟩
def TIL_CNT_ECCC.w : Fld := ⟨0xa0060, 31, 0⟩
def TIL_CNT_ECCC.ECCC : Fld := ⟨0xa0060, 31, 0⟩
def TIL_CNT_ECCU.w : Fld := ⟨0xa0064, 31, 0⟩
def TIL_CNT_ECCU.ECCU : Fld := ⟨0xa0064, 31, 0⟩
def TIL_CNT_HALT.w : Fld := ⟨0xa0068, 31, 0⟩
def TIL_CNT_HALT.HALT : Fld := ⟨0xa0068, 31, 0⟩
def TIL_CNT_SUPPR.w : Fld := ⟨0xa006c, 31, 0⟩
def TIL_CNT_SUPPR.SUPPR : Fld := ⟨0xa006c, 31, 0⟩
def TIL_CNTOVF.w : Fld := ⟨0xa0070, 31, 0⟩
def TIL_CNTOVF.OVF : Fld := ⟨0xa0070, 3, 0⟩
def MEM_CFG.w : Fld := ⟨0xb0000, 31, 0⟩
def MEM_CFG.SIZE : Fld := ⟨0xb0000, 1, 0⟩
def MEM_DCTL.w : Fld := ⟨0xb0004, 31, 0⟩
def MEM_DCTL.SR_EN : Fld := ⟨0xb0004, 0, 0⟩
def MEM_DCTL.SR_IDLE : Fld := ⟨0xb0004, 15, 8⟩
def MEM_DCTL.RT_STEP : Fld := ⟨0xb0004, 20, 16⟩
def MEM_DCTL.TRAIN : Fld := ⟨0xb0004, 24, 24⟩
def MEM_DCTL.REFUSED : Fld := ⟨0xb0004, 25, 25⟩
def MEM_DSTAT.w : Fld := ⟨0xb0008, 31, 0⟩
def MEM_DSTAT.STATE : Fld := ⟨0xb0008, 2, 0⟩
def MEM_DSTAT.RETRAIN : Fld := ⟨0xb0008, 3, 3⟩
def MEM_DSTAT.HOT : Fld := ⟨0xb0008, 4, 4⟩
def MEM_DSTAT.HOT_SEEN : Fld := ⟨0xb0008, 5, 5⟩
def MEM_DSTAT.RATE : Fld := ⟨0xb0008, 7, 6⟩
def MEM_DSTAT.LANE_FAIL : Fld := ⟨0xb0008, 15, 8⟩
def MEM_GECC_ADDR.w : Fld := ⟨0xb0010, 31, 0⟩
def MEM_GECC_ADDR.ADDR : Fld := ⟨0xb0010, 26, 0⟩
def MEM_LVF_ADDR.w : Fld := ⟨0xb0014, 31, 0⟩
def MEM_LVF_ADDR.ADDR : Fld := ⟨0xb0014, 21, 0⟩
def MEM_CNT_GECCC.w : Fld := ⟨0xb0020, 31, 0⟩
def MEM_CNT_GECCC.GECCC : Fld := ⟨0xb0020, 31, 0⟩
def MEM_CNT_GECCU.w : Fld := ⟨0xb0024, 31, 0⟩
def MEM_CNT_GECCU.GECCU : Fld := ⟨0xb0024, 31, 0⟩
def MEM_CNT_LECCC.w : Fld := ⟨0xb0028, 31, 0⟩
def MEM_CNT_LECCC.LECCC : Fld := ⟨0xb0028, 31, 0⟩
def MEM_CNT_LVFAIL.w : Fld := ⟨0xb002c, 31, 0⟩
def MEM_CNT_LVFAIL.LVFAIL : Fld := ⟨0xb002c, 31, 0⟩
def MEM_CNT_LDENY.w : Fld := ⟨0xb0030, 31, 0⟩
def MEM_CNT_LDENY.LDENY : Fld := ⟨0xb0030, 31, 0⟩
def MEM_CNT_DERR.w : Fld := ⟨0xb0034, 31, 0⟩
def MEM_CNT_DERR.DERR : Fld := ⟨0xb0034, 31, 0⟩
def MEM_CNT_SRWAIT.w : Fld := ⟨0xb0038, 31, 0⟩
def MEM_CNT_SRWAIT.SRWAIT : Fld := ⟨0xb0038, 31, 0⟩
def MEM_CNTOVF.w : Fld := ⟨0xb003c, 31, 0⟩
def MEM_CNTOVF.OVF : Fld := ⟨0xb003c, 6, 0⟩
def MEM_DQ_k.w (n : Nat) : Fld := ⟨0xb1000 + n * 0x100, 31, 0⟩
def MEM_DQ_k.RD_DLY (n : Nat) : Fld := ⟨0xb1000 + n * 0x100, 6, 0⟩
def MEM_DQ_k.WR_DLY (n : Nat) : Fld := ⟨0xb1000 + n * 0x100, 14, 8⟩
def MEM_DQ_k.RD_EYE (n : Nat) : Fld := ⟨0xb1000 + n * 0x100, 21, 16⟩
def MEM_DQ_k.WR_EYE (n : Nat) : Fld := ⟨0xb1000 + n * 0x100, 29, 24⟩
def MEM_DQ_k.MARGINAL (n : Nat) : Fld := ⟨0xb1000 + n * 0x100, 30, 30⟩
def MEM_DQ_k.FAILED (n : Nat) : Fld := ⟨0xb1000 + n * 0x100, 31, 31⟩
def MEM_DQTEMP_k.w (n : Nat) : Fld := ⟨0xb1004 + n * 0x100, 31, 0⟩
def MEM_DQTEMP_k.TEMP (n : Nat) : Fld := ⟨0xb1004 + n * 0x100, 7, 0⟩
def MEM_CNT_DECCC_k.w (n : Nat) : Fld := ⟨0xb1008 + n * 0x100, 31, 0⟩
def MEM_CNT_DECCC_k.DECCC (n : Nat) : Fld := ⟨0xb1008 + n * 0x100, 31, 0⟩
def MEM_CNT_DECCU_k.w (n : Nat) : Fld := ⟨0xb100c + n * 0x100, 31, 0⟩
def MEM_CNT_DECCU_k.DECCU (n : Nat) : Fld := ⟨0xb100c + n * 0x100, 31, 0⟩
def MEM_CNT_RETRAIN_k.w (n : Nat) : Fld := ⟨0xb1010 + n * 0x100, 31, 0⟩
def MEM_CNT_RETRAIN_k.RETRAIN (n : Nat) : Fld := ⟨0xb1010 + n * 0x100, 31, 0⟩
def MEM_CNTOVF_k.w (n : Nat) : Fld := ⟨0xb1014 + n * 0x100, 31, 0⟩
def MEM_CNTOVF_k.OVF (n : Nat) : Fld := ⟨0xb1014 + n * 0x100, 2, 0⟩
def DMA_CFG.w : Fld := ⟨0xc0000, 31, 0⟩
def DMA_CFG.RETRY : Fld := ⟨0xc0000, 2, 0⟩
def DMA_STAT.w : Fld := ⟨0xc0004, 31, 0⟩
def DMA_STAT.SCHED : Fld := ⟨0xc0004, 15, 0⟩
def DMA_STAT.DWIN_REFUSED : Fld := ⟨0xc0004, 16, 16⟩
def DMA_DWIN_SEL.w : Fld := ⟨0xc0008, 31, 0⟩
def DMA_DWIN_SEL.INDEX : Fld := ⟨0xc0008, 13, 0⟩
def DMA_DWIN_SEL.WORD : Fld := ⟨0xc0008, 15, 14⟩
def DMA_DWIN_LO.w : Fld := ⟨0xc000c, 31, 0⟩
def DMA_DWIN_LO.LO : Fld := ⟨0xc000c, 31, 0⟩
def DMA_DWIN_HI.w : Fld := ⟨0xc0010, 31, 0⟩
def DMA_DWIN_HI.HI : Fld := ⟨0xc0010, 31, 0⟩
def DMA_DWIN_RDLO.w : Fld := ⟨0xc0014, 31, 0⟩
def DMA_DWIN_RDLO.LO : Fld := ⟨0xc0014, 31, 0⟩
def DMA_DWIN_RDHI.w : Fld := ⟨0xc0018, 31, 0⟩
def DMA_DWIN_RDHI.HI : Fld := ⟨0xc0018, 31, 0⟩
def DMA_CNT_RETRY.w : Fld := ⟨0xc0020, 31, 0⟩
def DMA_CNT_RETRY.RETRY : Fld := ⟨0xc0020, 31, 0⟩
def DMA_CNT_HALT.w : Fld := ⟨0xc0024, 31, 0⟩
def DMA_CNT_HALT.HALT : Fld := ⟨0xc0024, 31, 0⟩
def DMA_CNT_CUT.w : Fld := ⟨0xc0028, 31, 0⟩
def DMA_CNT_CUT.CUT : Fld := ⟨0xc0028, 31, 0⟩
def DMA_CNTOVF.w : Fld := ⟨0xc002c, 31, 0⟩
def DMA_CNTOVF.OVF : Fld := ⟨0xc002c, 2, 0⟩
def DMA_CHCTL_n.w (n : Nat) : Fld := ⟨0xc1000 + n * 0x100, 31, 0⟩
def DMA_CHCTL_n.HEAD (n : Nat) : Fld := ⟨0xc1000 + n * 0x100, 13, 0⟩
def DMA_CHCTL_n.PRIO (n : Nat) : Fld := ⟨0xc1000 + n * 0x100, 17, 16⟩
def DMA_CHCTL_n.GO (n : Nat) : Fld := ⟨0xc1000 + n * 0x100, 24, 24⟩
def DMA_CHCTL_n.CLEAR (n : Nat) : Fld := ⟨0xc1000 + n * 0x100, 25, 25⟩
def DMA_CHCTL_n.REFUSED (n : Nat) : Fld := ⟨0xc1000 + n * 0x100, 26, 26⟩
def DMA_CHSTAT_n.w (n : Nat) : Fld := ⟨0xc1004 + n * 0x100, 31, 0⟩
def DMA_CHSTAT_n.STATE (n : Nat) : Fld := ⟨0xc1004 + n * 0x100, 2, 0⟩
def DMA_CHSTAT_n.CUT (n : Nat) : Fld := ⟨0xc1004 + n * 0x100, 3, 3⟩
def DMA_CHSTAT_n.RING_OVR (n : Nat) : Fld := ⟨0xc1004 + n * 0x100, 4, 4⟩
def DMA_CHSTAT_n.DISC (n : Nat) : Fld := ⟨0xc1004 + n * 0x100, 5, 5⟩
def DMA_CHSTAT_n.LAST (n : Nat) : Fld := ⟨0xc1004 + n * 0x100, 21, 8⟩
def DMA_CHSTAT_n.LAST_VALID (n : Nat) : Fld := ⟨0xc1004 + n * 0x100, 22, 22⟩
def DMA_CHERR_n.w (n : Nat) : Fld := ⟨0xc1008 + n * 0x100, 31, 0⟩
def DMA_CHERR_n.CODE (n : Nat) : Fld := ⟨0xc1008 + n * 0x100, 3, 0⟩
def DMA_CHERR_n.DESC (n : Nat) : Fld := ⟨0xc1008 + n * 0x100, 17, 4⟩
def DMA_CHEOFS_n.w (n : Nat) : Fld := ⟨0xc100c + n * 0x100, 31, 0⟩
def DMA_CHEOFS_n.OFFSET (n : Nat) : Fld := ⟨0xc100c + n * 0x100, 31, 0⟩
def DMA_RLEN_n.w (n : Nat) : Fld := ⟨0xc1010 + n * 0x100, 31, 0⟩
def DMA_RLEN_n.LEN (n : Nat) : Fld := ⟨0xc1010 + n * 0x100, 29, 0⟩
def DMA_RLEN_n.PEND (n : Nat) : Fld := ⟨0xc1010 + n * 0x100, 31, 31⟩
def DMA_RCUR_n.w (n : Nat) : Fld := ⟨0xc1014 + n * 0x100, 31, 0⟩
def DMA_RCUR_n.LEN (n : Nat) : Fld := ⟨0xc1014 + n * 0x100, 29, 0⟩
def DMA_WPTR_n.w (n : Nat) : Fld := ⟨0xc1018 + n * 0x100, 31, 0⟩
def DMA_WPTR_n.WPTR (n : Nat) : Fld := ⟨0xc1018 + n * 0x100, 29, 0⟩
def DMA_RPTR_n.w (n : Nat) : Fld := ⟨0xc101c + n * 0x100, 31, 0⟩
def DMA_RPTR_n.RPTR (n : Nat) : Fld := ⟨0xc101c + n * 0x100, 29, 0⟩
def DMA_RACK_n.w (n : Nat) : Fld := ⟨0xc1020 + n * 0x100, 31, 0⟩
def DMA_RACK_n.BYTES (n : Nat) : Fld := ⟨0xc1020 + n * 0x100, 29, 0⟩
def DMA_RPEND_n.w (n : Nat) : Fld := ⟨0xc1024 + n * 0x100, 31, 0⟩
def DMA_RPEND_n.END (n : Nat) : Fld := ⟨0xc1024 + n * 0x100, 29, 0⟩
def DMA_RDISC_n.w (n : Nat) : Fld := ⟨0xc1028 + n * 0x100, 31, 0⟩
def DMA_RDISC_n.DISC (n : Nat) : Fld := ⟨0xc1028 + n * 0x100, 31, 0⟩
def DMA_RDROP_n.w (n : Nat) : Fld := ⟨0xc102c + n * 0x100, 31, 0⟩
def DMA_RDROP_n.DROP (n : Nat) : Fld := ⟨0xc102c + n * 0x100, 31, 0⟩
def DMA_CNT_DESC_n.w (n : Nat) : Fld := ⟨0xc1030 + n * 0x100, 31, 0⟩
def DMA_CNT_DESC_n.DESC (n : Nat) : Fld := ⟨0xc1030 + n * 0x100, 31, 0⟩
def DMA_CNTOVF_n.w (n : Nat) : Fld := ⟨0xc1034 + n * 0x100, 31, 0⟩
def DMA_CNTOVF_n.OVF (n : Nat) : Fld := ⟨0xc1034 + n * 0x100, 1, 0⟩
def MON_CTRL.w : Fld := ⟨0xd0000, 31, 0⟩
def MON_CTRL.SCAN_EN : Fld := ⟨0xd0000, 0, 0⟩
def MON_CTRL.CAL : Fld := ⟨0xd0000, 1, 1⟩
def MON_CTRL.SCAN_GAP : Fld := ⟨0xd0000, 15, 8⟩
def MON_CTRL.CAL_STEP : Fld := ⟨0xd0000, 20, 16⟩
def MON_STAT.w : Fld := ⟨0xd0004, 31, 0⟩
def MON_STAT.CAL_PEND : Fld := ⟨0xd0004, 0, 0⟩
def MON_STAT.CAL_RUN : Fld := ⟨0xd0004, 1, 1⟩
def MON_STAT.CALSTEP : Fld := ⟨0xd0004, 6, 2⟩
def MON_STAT.CALVALID : Fld := ⟨0xd0004, 7, 7⟩
def MON_STAT.CUR : Fld := ⟨0xd0004, 14, 8⟩
def MON_STAT.CURSRC : Fld := ⟨0xd0004, 18, 16⟩
def MON_SCAN0.w : Fld := ⟨0xd0008, 31, 0⟩
def MON_SCAN0.MASK : Fld := ⟨0xd0008, 31, 0⟩
def MON_SCAN1.w : Fld := ⟨0xd000c, 31, 0⟩
def MON_SCAN1.MASK : Fld := ⟨0xd000c, 31, 0⟩
def MON_SCAN2.w : Fld := ⟨0xd0010, 31, 0⟩
def MON_SCAN2.TEMP : Fld := ⟨0xd0010, 15, 0⟩
def MON_SCAN2.MASK : Fld := ⟨0xd0010, 31, 16⟩
def MON_URG.w : Fld := ⟨0xd0014, 31, 0⟩
def MON_URG.CH : Fld := ⟨0xd0014, 6, 0⟩
def MON_URG.GO : Fld := ⟨0xd0014, 8, 8⟩
def MON_URG.BUSY : Fld := ⟨0xd0014, 9, 9⟩
def MON_URG.REFUSED : Fld := ⟨0xd0014, 10, 10⟩
def MON_URGRES.w : Fld := ⟨0xd0018, 31, 0⟩
def MON_URGRES.CODE : Fld := ⟨0xd0018, 11, 0⟩
def MON_URGRES.DONE : Fld := ⟨0xd0018, 15, 15⟩
def MON_URGRES.VALUE : Fld := ⟨0xd0018, 31, 16⟩
def MON_ALM0.w : Fld := ⟨0xd0020, 31, 0⟩
def MON_ALM0.ALM : Fld := ⟨0xd0020, 31, 0⟩
def MON_ALM1.w : Fld := ⟨0xd0024, 31, 0⟩
def MON_ALM1.ALM : Fld := ⟨0xd0024, 31, 0⟩
def MON_ALM2.w : Fld := ⟨0xd0028, 31, 0⟩
def MON_ALM2.ALM : Fld := ⟨0xd0028, 31, 0⟩
def MON_CNT_ABORT.w : Fld := ⟨0xd0030, 31, 0⟩
def MON_CNT_ABORT.ABORT : Fld := ⟨0xd0030, 31, 0⟩
def MON_CNT_CAL.w : Fld := ⟨0xd0034, 31, 0⟩
def MON_CNT_CAL.CAL : Fld := ⟨0xd0034, 31, 0⟩
def MON_CNT_LIMIT.w : Fld := ⟨0xd0038, 31, 0⟩
def MON_CNT_LIMIT.LIMIT : Fld := ⟨0xd0038, 31, 0⟩
def MON_CNTOVF.w : Fld := ⟨0xd003c, 31, 0⟩
def MON_CNTOVF.OVF : Fld := ⟨0xd003c, 2, 0⟩
def MON_CALCOEF.w : Fld := ⟨0xd0040, 31, 0⟩
def MON_CALCOEF.OFFSET : Fld := ⟨0xd0040, 15, 0⟩
def MON_CALCOEF.GAIN : Fld := ⟨0xd0040, 31, 16⟩
def MON_RES_n.w (n : Nat) : Fld := ⟨0xd1000 + n * 0x100, 31, 0⟩
def MON_RES_n.CODE (n : Nat) : Fld := ⟨0xd1000 + n * 0x100, 11, 0⟩
def MON_RES_n.SRC (n : Nat) : Fld := ⟨0xd1000 + n * 0x100, 13, 12⟩
def MON_RES_n.NEW (n : Nat) : Fld := ⟨0xd1000 + n * 0x100, 15, 15⟩
def MON_RES_n.VALUE (n : Nat) : Fld := ⟨0xd1000 + n * 0x100, 31, 16⟩
def MON_LIM_n.w (n : Nat) : Fld := ⟨0xd1004 + n * 0x100, 31, 0⟩
def MON_LIM_n.LOW (n : Nat) : Fld := ⟨0xd1004 + n * 0x100, 15, 0⟩
def MON_LIM_n.HIGH (n : Nat) : Fld := ⟨0xd1004 + n * 0x100, 31, 16⟩
def MON_LCTL_n.w (n : Nat) : Fld := ⟨0xd1008 + n * 0x100, 31, 0⟩
def MON_LCTL_n.EN (n : Nat) : Fld := ⟨0xd1008 + n * 0x100, 0, 0⟩
def MON_LCTL_n.ALERT (n : Nat) : Fld := ⟨0xd1008 + n * 0x100, 1, 1⟩
def MON_LCTL_n.COUNT (n : Nat) : Fld := ⟨0xd1008 + n * 0x100, 7, 4⟩
def MON_LCTL_n.OUT (n : Nat) : Fld := ⟨0xd1008 + n * 0x100, 8, 8⟩
def MON_SRES_k.w (n : Nat) : Fld := ⟨0xd8000 + n * 0x100, 31, 0⟩
def MON_SRES_k.CODE (n : Nat) : Fld := ⟨0xd8000 + n * 0x100, 11, 0⟩
def MON_SRES_k.VALUE (n : Nat) : Fld := ⟨0xd8000 + n * 0x100, 31, 16⟩
def MON_STIME_k.w (n : Nat) : Fld := ⟨0xd8004 + n * 0x100, 31, 0⟩
def MON_STIME_k.FRAME (n : Nat) : Fld := ⟨0xd8004 + n * 0x100, 9, 0⟩
def MON_STIME_k.SUBFRAME (n : Nat) : Fld := ⟨0xd8004 + n * 0x100, 13, 10⟩
def MON_STIME_k.CH (n : Nat) : Fld := ⟨0xd8004 + n * 0x100, 20, 14⟩
def MON_STIME_k.VALID (n : Nat) : Fld := ⟨0xd8004 + n * 0x100, 21, 21⟩
def SEC_STAT.w : Fld := ⟨0xe0000, 31, 0⟩
def SEC_STAT.LIFECYCLE : Fld := ⟨0xe0000, 1, 0⟩
def SEC_STAT.LOCK_A : Fld := ⟨0xe0000, 2, 2⟩
def SEC_STAT.LOCK_B : Fld := ⟨0xe0000, 3, 3⟩
def SEC_STAT.INUSE : Fld := ⟨0xe0000, 4, 4⟩
def SEC_STAT.CTR_MAX : Fld := ⟨0xe0000, 5, 5⟩
def SEC_STAT.ATTEST_READY : Fld := ⟨0xe0000, 6, 6⟩
def SEC_STAT.ATTEST_EXH : Fld := ⟨0xe0000, 7, 7⟩
def SEC_STAT.BUSY : Fld := ⟨0xe0000, 8, 8⟩
def SEC_STAT.ROOT_ABSENT : Fld := ⟨0xe0000, 9, 9⟩
def SEC_KEYS.w : Fld := ⟨0xe0004, 31, 0⟩
def SEC_KEYS.STATE : Fld := ⟨0xe0004, 7, 0⟩
def SEC_KEYS.RIGHTS : Fld := ⟨0xe0004, 23, 8⟩
def SEC_POLICY.w : Fld := ⟨0xe0008, 31, 0⟩
def SEC_POLICY.POLICY : Fld := ⟨0xe0008, 1, 0⟩
def SEC_SERIAL_LO.w : Fld := ⟨0xe0010, 31, 0⟩
def SEC_SERIAL_LO.SERIAL : Fld := ⟨0xe0010, 31, 0⟩
def SEC_SERIAL_HI.w : Fld := ⟨0xe0014, 31, 0⟩
def SEC_SERIAL_HI.SERIAL : Fld := ⟨0xe0014, 31, 0⟩
def SEC_CTR_LO.w : Fld := ⟨0xe0018, 31, 0⟩
def SEC_CTR_LO.LAST : Fld := ⟨0xe0018, 31, 0⟩
def SEC_CTR_HI.w : Fld := ⟨0xe001c, 31, 0⟩
def SEC_CTR_HI.LAST : Fld := ⟨0xe001c, 31, 0⟩
def SEC_MINVER.w : Fld := ⟨0xe0020, 31, 0⟩
def SEC_MINVER.MINVER : Fld := ⟨0xe0020, 31, 0⟩
def SEC_FWVER.w : Fld := ⟨0xe0024, 31, 0⟩
def SEC_FWVER.VERSION : Fld := ⟨0xe0024, 31, 0⟩
def SEC_ENVVER.w : Fld := ⟨0xe0028, 31, 0⟩
def SEC_ENVVER.ENV_VERSION : Fld := ⟨0xe0028, 31, 0⟩
def SEC_KEYSEQ.w : Fld := ⟨0xe002c, 31, 0⟩
def SEC_KEYSEQ.KEY_SEQ : Fld := ⟨0xe002c, 31, 0⟩
def SEC_SIGIDX.w : Fld := ⟨0xe0030, 31, 0⟩
def SEC_SIGIDX.NEXT : Fld := ⟨0xe0030, 25, 0⟩
def SEC_SIGRES.w : Fld := ⟨0xe0034, 31, 0⟩
def SEC_SIGRES.LIMIT : Fld := ⟨0xe0034, 25, 0⟩
def SEC_LASTCMD.w : Fld := ⟨0xe0038, 31, 0⟩
def SEC_LASTCMD.CMD : Fld := ⟨0xe0038, 15, 0⟩
def SEC_LASTCMD.REASON : Fld := ⟨0xe0038, 23, 16⟩
def SEC_ROOTHASH0.w : Fld := ⟨0xe0040, 31, 0⟩
def SEC_ROOTHASH0.HASH : Fld := ⟨0xe0040, 31, 0⟩
def SEC_ROOTHASH1.w : Fld := ⟨0xe0044, 31, 0⟩
def SEC_ROOTHASH1.HASH : Fld := ⟨0xe0044, 31, 0⟩
def SEC_ROOTHASH2.w : Fld := ⟨0xe0048, 31, 0⟩
def SEC_ROOTHASH2.HASH : Fld := ⟨0xe0048, 31, 0⟩
def SEC_ROOTHASH3.w : Fld := ⟨0xe004c, 31, 0⟩
def SEC_ROOTHASH3.HASH : Fld := ⟨0xe004c, 31, 0⟩
def SEC_ROOTHASH4.w : Fld := ⟨0xe0050, 31, 0⟩
def SEC_ROOTHASH4.HASH : Fld := ⟨0xe0050, 31, 0⟩
def SEC_ROOTHASH5.w : Fld := ⟨0xe0054, 31, 0⟩
def SEC_ROOTHASH5.HASH : Fld := ⟨0xe0054, 31, 0⟩
def SEC_ROOTHASH6.w : Fld := ⟨0xe0058, 31, 0⟩
def SEC_ROOTHASH6.HASH : Fld := ⟨0xe0058, 31, 0⟩
def SEC_ROOTHASH7.w : Fld := ⟨0xe005c, 31, 0⟩
def SEC_ROOTHASH7.HASH : Fld := ⟨0xe005c, 31, 0⟩
def SEC_CNT_ACCEPT.w : Fld := ⟨0xe0060, 31, 0⟩
def SEC_CNT_ACCEPT.ACCEPT : Fld := ⟨0xe0060, 31, 0⟩
def SEC_CNT_TAGFAIL.w : Fld := ⟨0xe0064, 31, 0⟩
def SEC_CNT_TAGFAIL.TAGFAIL : Fld := ⟨0xe0064, 31, 0⟩
def SEC_CNT_REPLAY.w : Fld := ⟨0xe0068, 31, 0⟩
def SEC_CNT_REPLAY.REPLAY : Fld := ⟨0xe0068, 31, 0⟩
def SEC_CNT_ATTEST.w : Fld := ⟨0xe006c, 31, 0⟩
def SEC_CNT_ATTEST.ATTEST : Fld := ⟨0xe006c, 31, 0⟩
def SEC_CNTOVF.w : Fld := ⟨0xe0070, 31, 0⟩
def SEC_CNTOVF.OVF : Fld := ⟨0xe0070, 3, 0⟩
def TAL_STAT.w : Fld := ⟨0xf0000, 31, 0⟩
def TAL_STAT.STATE : Fld := ⟨0xf0000, 1, 0⟩
def TAL_STAT.FROZEN : Fld := ⟨0xf0000, 2, 2⟩
def TAL_STAT.MEDIA : Fld := ⟨0xf0000, 3, 3⟩
def TAL_STAT.TORN : Fld := ⟨0xf0000, 4, 4⟩
def TAL_STAT.MFA_FAIL : Fld := ⟨0xf0000, 5, 5⟩
def TAL_STAT.SPARES : Fld := ⟨0xf0000, 10, 8⟩
def TAL_STAT.QUEUE : Fld := ⟨0xf0000, 22, 16⟩
def TAL_HEAD.w : Fld := ⟨0xf0004, 31, 0⟩
def TAL_HEAD.SLOT : Fld := ⟨0xf0004, 12, 0⟩
def TAL_HEADSEQ.w : Fld := ⟨0xf0008, 31, 0⟩
def TAL_HEADSEQ.SEQ : Fld := ⟨0xf0008, 31, 0⟩
def TAL_PCC.w : Fld := ⟨0xf000c, 31, 0⟩
def TAL_PCC.PCC : Fld := ⟨0xf000c, 31, 0⟩
def TAL_OPTIME.w : Fld := ⟨0xf0010, 31, 0⟩
def TAL_OPTIME.OPTIME : Fld := ⟨0xf0010, 31, 0⟩
def TAL_CUR.w : Fld := ⟨0xf0014, 31, 0⟩
def TAL_CUR.SLOT : Fld := ⟨0xf0014, 12, 0⟩
def TAL_CUR.SRC : Fld := ⟨0xf0014, 14, 13⟩
def TAL_CNT_REC.w : Fld := ⟨0xf0020, 31, 0⟩
def TAL_CNT_REC.REC : Fld := ⟨0xf0020, 31, 0⟩
def TAL_CNT_SUPPR.w : Fld := ⟨0xf0024, 31, 0⟩
def TAL_CNT_SUPPR.SUPPR : Fld := ⟨0xf0024, 31, 0⟩
def TAL_CNT_DROP.w : Fld := ⟨0xf0028, 31, 0⟩
def TAL_CNT_DROP.DROP : Fld := ⟨0xf0028, 31, 0⟩
def TAL_CNT_VFAIL.w : Fld := ⟨0xf002c, 31, 0⟩
def TAL_CNT_VFAIL.VFAIL : Fld := ⟨0xf002c, 31, 0⟩
def TAL_CNTOVF.w : Fld := ⟨0xf0030, 31, 0⟩
def TAL_CNTOVF.OVF : Fld := ⟨0xf0030, 3, 0⟩
def TAL_WIN0.w : Fld := ⟨0xf0040, 31, 0⟩
def TAL_WIN0.WORD : Fld := ⟨0xf0040, 31, 0⟩
def TAL_WIN1.w : Fld := ⟨0xf0044, 31, 0⟩
def TAL_WIN1.WORD : Fld := ⟨0xf0044, 31, 0⟩
def TAL_WIN2.w : Fld := ⟨0xf0048, 31, 0⟩
def TAL_WIN2.WORD : Fld := ⟨0xf0048, 31, 0⟩
def TAL_WIN3.w : Fld := ⟨0xf004c, 31, 0⟩
def TAL_WIN3.WORD : Fld := ⟨0xf004c, 31, 0⟩
def TAL_WIN4.w : Fld := ⟨0xf0050, 31, 0⟩
def TAL_WIN4.WORD : Fld := ⟨0xf0050, 31, 0⟩
def TAL_WIN5.w : Fld := ⟨0xf0054, 31, 0⟩
def TAL_WIN5.WORD : Fld := ⟨0xf0054, 31, 0⟩
def TAL_WIN6.w : Fld := ⟨0xf0058, 31, 0⟩
def TAL_WIN6.WORD : Fld := ⟨0xf0058, 31, 0⟩
def TAL_WIN7.w : Fld := ⟨0xf005c, 31, 0⟩
def TAL_WIN7.WORD : Fld := ⟨0xf005c, 31, 0⟩
def TAL_WIN8.w : Fld := ⟨0xf0060, 31, 0⟩
def TAL_WIN8.WORD : Fld := ⟨0xf0060, 31, 0⟩
def TAL_WIN9.w : Fld := ⟨0xf0064, 31, 0⟩
def TAL_WIN9.WORD : Fld := ⟨0xf0064, 31, 0⟩
def TAL_WIN10.w : Fld := ⟨0xf0068, 31, 0⟩
def TAL_WIN10.WORD : Fld := ⟨0xf0068, 31, 0⟩
def TAL_WIN11.w : Fld := ⟨0xf006c, 31, 0⟩
def TAL_WIN11.WORD : Fld := ⟨0xf006c, 31, 0⟩
def TAL_WIN12.w : Fld := ⟨0xf0070, 31, 0⟩
def TAL_WIN12.WORD : Fld := ⟨0xf0070, 31, 0⟩
def TAL_WIN13.w : Fld := ⟨0xf0074, 31, 0⟩
def TAL_WIN13.WORD : Fld := ⟨0xf0074, 31, 0⟩
def TAL_WIN14.w : Fld := ⟨0xf0078, 31, 0⟩
def TAL_WIN14.WORD : Fld := ⟨0xf0078, 31, 0⟩
def TAL_WIN15.w : Fld := ⟨0xf007c, 31, 0⟩
def TAL_WIN15.WORD : Fld := ⟨0xf007c, 31, 0⟩

end R

end Sys2Proof.Machine
end

