-- ==== Sys2Proof/Machine/State.lean ====
section
/-! DEFINITION. The state of the block: every register, memory, queue, counter, mode and pin the spec gives it, and the
queue of the commands that wait. A register is the home of whatever it fully shows; a field here holds what no register
shows, or shows only in part. -/

namespace Sys2Proof.Machine

/-- Key and value pairs in one canonical form: keys strictly rising, no pair equal to what an unlisted key reads as. -/
abbrev Sparse (β : Type) := List (Nat × β)

-- Part: what bonding and fuses fix (R35, R38, R447)

/-- The grade of the ordering code (00_scope.md, Ordering codes). -/
inductive Grade where
  | b | e | x
  deriving DecidableEq, Repr

/-- Bonding straps and fuse copies (R36, R38, R447). `none` is a fuse copy that cannot be read. -/
structure Part where
  paths64 : Bool := true
  bandFuse : List (Option Bool) := List.replicate 3 (some true)
  gradeFuse : List (Option Grade) := List.replicate 3 (some .x)
  serialFuse : List (BitVec 64) := List.replicate 3 0
  rootHash : List (List Byte) := List.replicate 3 (List.replicate 32 0)
  lifecycle : List (BitVec 2) := List.replicate 3 1
  factLock : List Bool := List.replicate 3 true
  idSeed : List Byte := List.replicate 32 0       -- the key store's device identity seed (R448)
  wrapKey : List Byte := List.replicate 32 0      -- the key store's 256-bit device wrapping key (R448)
  deriving DecidableEq, Repr

-- VAON: the always-on domain (03_power_reset_startup.md)

/-- Where the rail sequencer stands (R57, R58). -/
inductive Sequencer where
  | off            -- rails off, VIN not yet qualified
  | group (g : Nat) -- group g (1 to 6) is being brought up
  | retryWait      -- the 100 ms before the next attempt
  | done           -- all rails good
  | latched        -- three failed attempts, or a second thermal trip
  deriving DecidableEq, Repr

/-- One entry of the duty history (R254): start of its frame by R20, oscillator count at its frame, transmit time in tenths of a tick, and
whether a time step or a reset has broken its stamp. -/
structure DutyFrame where
  frame : Nat
  osc : Nat
  sent : Nat
  broken : Bool
  deriving DecidableEq, Repr

/-- What lives in VAON beside SYS_RESETCAUSE and PWR_FAULT, which are registers. -/
structure Vaon where
  seq : Sequencer := .done
  attempts : Nat := 0          -- failed attempts of the present sequencing (R58)
  thermalOff : Bool := false       -- the 10 s off time of R59 runs
  thermalRestart : Bool := false   -- the last start followed a thermal trip
  vinValid : Bool := true         -- VIN has qualified since the last power-fail sequence (R53, R54)
  resetN : Bool := true           -- accepted level of RESET_N
  coldPending : Bool := true      -- a reset that R481 counts has happened since the last reset release
  recordPending : Bool := false    -- a pin, software or sideband reset owes its RESET record (R60)
  duty : Sparse (List DutyFrame) := []  -- path to its frames of the last 100, newest first (R254)
  osc : Nat := 0                    -- count of the always-on oscillator, as last read
  dutyLost : Bool := true           -- VAON has lost power: the next START opens a new history (R254)
  deriving DecidableEq, Repr

-- Boot (03_power_reset_startup.md, Boot slot selection, Recovery)

/-- The boot control word: active slot and pending slot, `false` for slot A (R70). -/
structure BootWord where
  active : Bool := false
  pending : Option Bool := none
  deriving DecidableEq, Repr

/-- The running firmware image (R474, R466). -/
structure Image where
  version : BitVec 32
  bodyHash : List Byte
  keyId : Nat
  deriving DecidableEq, Repr

/-- What the boot ROM and the management firmware hold outside registers. -/
structure Boot where
  inReset : Bool := true                -- the logic outside VAON is held in reset
  sbRecovery : Bool := false             -- start-up goes to STAGE 7 under R73
  attempt : List (Bool × Bool) := []  -- slots still to try: slot, and whether it is tried as pending (R70)
  refclkMs : Nat := 0                    -- milliseconds from reset release to the lock of the tick PLL (R63)
  recovering : Bool := false             -- the QSPI image of R71 is being read
  image : Option Image := none
  restarting : Bool := false             -- the firmware restarts after a watchdog reset (R62)
  heldMsgs : List Instr := []         -- M-plane messages held during that restart, oldest first (R62)
  sbOut : List Byte := []              -- bytes the sideband last returned (R74, R489)
  alerts : List Nat := []             -- causes that hold ALERT_N low: 0 sequencer, 1 REFCLK, 2 lock block, 3 DRAM, 4 STAGE 7, 5 upstream DOWN, 6 monitor
  deriving DecidableEq, Repr

-- Network time (04_network_time.md)

/-- The time counter (R9): seconds, nanoseconds and units of 2^-16 ns. -/
structure NetTime where
  sec : Nat := 0
  ns : Nat := 0
  frac : Nat := 0
  deriving DecidableEq, Repr

/-- A PTP exchange in progress (R81): sequenceId and sourcePortIdentity of its Sync, sequenceId of its Delay_Req, and its times in
units of 2^-16 ns / 4,324,320, in which every quantity of R81 is whole. -/
structure Exchange where
  seqId : Nat
  port : List Byte
  reqId : Nat
  asym : Int                         -- TIM_ASYM_UP as of its Sync (R102)
  t1 : Option Int
  c : Int
  t2 : Int
  t3 : Int
  resp : Option (Int × Int)   -- t4 and c_resp once the Delay_Resp is in
  deriving DecidableEq, Repr

/-- A residence held for the Follow_Up of a two-step Sync (R104), in units of 2^-16 ns, and the cycle of the Sync. -/
structure Residence where
  seqId : Nat
  port : List Byte
  res : Int
  at_ : Nat
  deriving DecidableEq, Repr

/-- The network-time unit outside its registers. -/
structure Tim where
  now : NetTime := {}
  residue : Nat := 0                 -- below one unit of 2^-16 ns, in 1/(768 * 10^9) of it (R84)
  running : Bool := false                -- the tick clock runs (R543)
  cycles : Nat := 0                  -- tick-clock cycles since reset release
  cfg : Sparse Word := []            -- the TIM configuration in force: the registers as of the last Sync (R109)
  clears : Sparse Word := []         -- bits of W1C registers that writes have named since the last Sync (R109)
  reqs : Nat := 0                    -- Delay_Req messages sent
  exch : List Exchange := []
  mpdHist : List Int := []            -- mpd_n of up to 16 exchanges, newest first, in the units of an exchange
  lockCnt : Nat := 0                 -- consecutive offsets within TIM_LOCKTHR
  unlockCnt : Nat := 0               -- consecutive offsets beyond 4 * TIM_LOCKTHR
  run : List Int := []                -- the run of offsets above TIM_STEPTHR (R87)
  pathCnt : Nat := 0                 -- consecutive exchanges of R101
  remeasure : Nat := 0               -- exchanges still to measure in REMEASURE
  yHist : List (Nat × Int) := []      -- (cycle, y) of the updates of the last 16 s, newest first (R89)
  slews : List (Nat × Nat) := []      -- (cycle, |change|) of the slews of the last second, newest first (R86)
  freqRef : Option (Int × Int) := none  -- t2, and t1 + c_sync, of the Sync that began a frequency measurement (R86)
  freqDone : Bool := false            -- y has been set from a frequency measurement since ACQUIRE was entered
  gm : Option (List Byte) := none       -- grandmasterIdentity
  annLog : Option Int := none           -- logMessageInterval of the latest Announce; none: no supervision (R77)
  everLocked : Bool := false             -- LOCKED reached since reset (NTV of R478)
  ppsReady : Bool := false               -- PPS_OUT has started (R106)
  ppsOut : Bool := false                 -- level of PPS_OUT
  ppsRise : Option Nat := none          -- cycle of the previous rising edge
  ppsEnd : Option Nat := none           -- cycle of the end of the previous pulse
  fctl : Option Int := none             -- y of the FCTL frame in progress
  fctlNext : Option Int := none         -- the newest y that waits (R98)
  fctlNaks : Nat := 0                -- consecutive NACKed frames (R99)
  fctlOut : List (List Byte) := []    -- frames started on FCTL, oldest first
  highWater : Option Nat := none        -- R93
  residences : List Residence := []   -- oldest first, at most 16
  deriving DecidableEq, Repr

-- Links: what was sent, and the answers that wait (07_link_protocol.md)

/-- A message the device sends; HCRC follows from the rest (R170); `crc` is the trailer as it goes out. -/
structure Sent where
  port : Port
  plane : Nat
  typ : Nat
  rev : Nat
  ackReq : Bool
  replay : Bool
  hop : Nat
  dest : Nat
  src : Nat
  seq : Nat
  air : BitVec 32
  body : List Byte
  crc : BitVec 32
  fwd : Bool := false  -- forwarded (R207), not the device's own
  deriving DecidableEq, Repr

/-- One alarm code's 100 ms hold (R202). -/
structure AlarmSlot where
  last : Nat               -- cycle of the last ALARM of the code
  held : Nat               -- occurrences held since
  latest : List Byte       -- body of the latest of them, COUNT aside
  air : BitVec 32
  deriving DecidableEq, Repr

/-- A received stream (R176): the last SEQ values that passed check 6, newest first, at most 1,024. -/
structure Stream where
  port : Port
  plane : Nat
  src : Nat
  dest : Nat
  seqs : List Nat
  deriving DecidableEq, Repr

-- Tally (18_event_recorder.md)

/-- A tally event between its trigger and its writing (R478, R481, R483). -/
structure TalEvent where
  seq : Nat
  pcc : Nat
  optime : Nat
  code : Nat
  mandatory : Bool
  ntv : Bool
  airv : Bool
  nt : NetTime
  epoch : Nat
  airref : BitVec 32
  suppr : Nat
  detail : List Byte
  snap : List (List Byte)
  deriving DecidableEq, Repr

/-- The tally outside its registers. -/
structure Tal where
  queue : List TalEvent := []
  seq : Nat := 0                      -- SEQ of the next event
  lastRec : Sparse Nat := []           -- code to cycle of its last recorded event
  suppr : Sparse Nat := []             -- code to triggers suppressed since
  wpos : Nat := 0                     -- slot the next record goes to
  ctlSeq : Nat := 0                   -- SEQ of the control-block copy in force (R493)
  ctlB : Bool := false                    -- copy B is in force
  map : List Nat := List.replicate 4 0xFFFFFFFF                 -- MAP of the copy in force
  ring : List (List Byte) := []        -- the volatile ring of R494, oldest first, at most 16 records
  session : Bool := false                 -- a sideband session is open (R489)
  cmdAt : Nat := 0                   -- cycle of its last window command (R489)
  cursor : Nat × Nat := (0, 0)             -- its source and slot
  clearFrom : Nat := 0               -- first slot that CLEARING leaves (R491)
  optCycles : Nat := 0                -- cycles of the running second of OPTIME
  lastSeq : Nat := 0                  -- SEQ of the last event written to the log
  mediaRaise : Bool := false              -- TALLY_MEDIA waits for the upstream port (R495)
  deriving DecidableEq, Repr

-- Loft: what survives power loss (14_memory_and_dram.md, 17_security.md)

/-- The tally control block as each part leaves manufacture, copies A and B: SEQ 0, SPARES 0, every MAP entry unused (R493). (Log: 11 PRESUMED) -/
def factoryControl : Sparse Byte :=
  [(0x386000, 0x54), (0x386001, 0x43), (0x386002, 0x42), (0x386003, 0x4b), (0x386010, 0xff), (0x386011, 0xff),
   (0x386012, 0xff), (0x386013, 0xff), (0x386014, 0xff), (0x386015, 0xff), (0x386016, 0xff), (0x386017, 0xff),
   (0x386018, 0xff), (0x386019, 0xff), (0x38601a, 0xff), (0x38601b, 0xff), (0x38601c, 0xff), (0x38601d, 0xff),
   (0x38601e, 0xff), (0x38601f, 0xff), (0x38603c, 0x46), (0x38603d, 0x0d), (0x38603e, 0x2c), (0x38603f, 0x2f),
   (0x387000, 0x54), (0x387001, 0x43), (0x387002, 0x42), (0x387003, 0x4b), (0x387010, 0xff), (0x387011, 0xff),
   (0x387012, 0xff), (0x387013, 0xff), (0x387014, 0xff), (0x387015, 0xff), (0x387016, 0xff), (0x387017, 0xff),
   (0x387018, 0xff), (0x387019, 0xff), (0x38701a, 0xff), (0x38701b, 0xff), (0x38701c, 0xff), (0x38701d, 0xff),
   (0x38701e, 0xff), (0x38701f, 0xff), (0x38703c, 0x46), (0x38703d, 0x0d), (0x38703e, 0x2c), (0x38703f, 0x2f)]

/-- The envelope as each part leaves manufacture (R461): no valid range, both plans, every power limit 0x8000, every bias
output at safe pair code 0 on range 0 with RANGE_MASK 1. Its duty limits, which R461 does not state, are 1,000 each. (Log: 11 PRESUMED) -/
def factoryEnvelope : List Byte :=
  List.replicate 256 0 ++ [3, 0, 0x00, 0x80, 0xE8, 0x03, 0xE8, 0x03] ++ List.replicate 8 0
    ++ (List.replicate 128 [(0x00 : Byte), 0x80]).flatten
    ++ (List.replicate 128 [(0x00 : Byte), 0, 0, 1, 0, 0, 0, 0]).flatten

/-- HASH of a lock-block copy as each part leaves manufacture: SHA-256 of its bytes 64 to 16,383 (R458, R461). (Log: 11 PRESUMED) -/
def factoryLockHash : List Byte := 
  [0x02, 0x3a, 0x34, 0x2f, 0xec, 0x87, 0xe1, 0x99, 0x21, 0xfc, 0x58, 0x33, 0xec, 0x9e, 0xe1, 0x19,
  0xd3, 0x1b, 0x85, 0x4e, 0xd3, 0xc9, 0x27, 0xd8, 0x8a, 0x92, 0x0b, 0x95, 0xa4, 0x88, 0x44, 0xf8]

/-- The factory command key, 32 bytes of 0, encrypted under a wrapping key of zeros with an IV of zeros, and its tag (R450). -/
def factoryKeyCipher : List Byte := 
  [0xce, 0xa7, 0x40, 0x3d, 0x4d, 0x60, 0x6b, 0x6e, 0x07, 0x4e, 0xc5, 0xd3, 0xba, 0xf3, 0x9d, 0x18,
  0x72, 0x60, 0x03, 0xca, 0x37, 0xa6, 0x2a, 0x74, 0xd1, 0xa2, 0xf5, 0x8e, 0x75, 0x06, 0x35, 0x8e]
def factoryKeyTag : List Byte := 
  [0xd1, 0xd3, 0x08, 0x4c, 0x99, 0xaa, 0x8a, 0x9f, 0xda, 0xbb, 0x3e, 0x83, 0xeb, 0x28, 0xc1, 0x5d]

/-- An operator key slot (R458). -/
structure KeySlot where
  state : Nat := 0
  rights : Nat := 0
  hash : List Byte := List.replicate 32 0
  deriving DecidableEq, Repr

/-- One lock-block copy (R458). `good` is the verdict of its last check under R459, when it was written or by LOFT_CHECKS_DONE; `rest`
holds, by offset in the copy, the bytes beyond the fields that are not 0. (Log: 11 PRESUMED) -/
structure LockCopy where
  good : Bool := true
  magic : Nat := 0x4B434F4C
  seq : Nat := 0
  hash : List Byte := factoryLockHash
  keySeq : Nat := 0
  keys : List KeySlot := List.replicate 4 {}
  policy : Nat := 3
  envVersion : Nat := 1
  envKey : Nat := 0
  envHash : List Byte := List.replicate 32 0
  envelope : List Byte := factoryEnvelope
  rest : Sparse Byte := []
  deriving DecidableEq, Repr

/-- One copy of the command key record (R450): its sequence number, and the key encrypted with AES-256-GCM under the device wrapping key.
`good` and `key` are what its last decryption gave, when it was written or by LOFT_CHECKS_DONE. (Log: 9 DESIGN CHOICE) -/
structure KeyCopy where
  good : Bool := true
  seq : BitVec 32 := 0
  iv : List Byte := List.replicate 12 0
  cipher : List Byte := factoryKeyCipher
  tag : List Byte := factoryKeyTag
  key : List Byte := List.replicate 32 0
  deriving DecidableEq, Repr

/-- One of the two alternating copies of LAST (R464); `good` says that it can be read. (Log: 223 DESIGN CHOICE) -/
structure CtrCopy where
  good : Bool := true
  seq : Nat := 0
  last : Nat := 0
  deriving DecidableEq, Repr

/-- The certificate (R473): FORMAT is 1, and SIG_LEN the length of SIGNATURE. (Log: 11 PRESUMED) -/
structure Cert where
  caKey : Nat := 0
  serial : BitVec 64 := 0
  cap0 : Word := 0x4201F540
  cap1 : Word := 0xFFFF201F
  issued : Nat := 0
  idPubkey : List Byte := [0, 0, 0, 2, 0, 0, 0, 6, 0, 0, 0, 4] ++ List.replicate 48 0
  signature : List Byte := List.replicate 60 0
  deriving DecidableEq, Repr

/-- The loft (R394). `bytes` holds the tally's ranges; the ranges whose layout the spec does not give are typed. -/
structure Loft where
  bytes : Sparse Byte := factoryControl
  slotA : List Byte := []
  slotB : List Byte := []
  bootA : BootWord := {}
  bootB : BootWord := {}
  minVersion : Nat := 0
  lastCtr : Nat := 0                   -- LAST as the copy in force holds it (R464)
  ctrA : CtrCopy := {}                 -- its two alternating copies
  ctrB : CtrCopy := {}
  keyA : KeyCopy := {}                 -- the two copies of the command key record (R450)
  keyB : KeyCopy := {}
  pcc : Nat := 0
  optime : Nat := 0
  lockA : LockCopy := {}
  lockB : LockCopy := {}
  sigLimit : Nat := 0
  certificate : Cert := {}             -- R473, in the factory calibration range
  calResults : Sparse Byte := []       -- run-time calibration results
  readable : Bool := true                -- the lock block can be read (R67, R397)
  deriving DecidableEq, Repr

-- Security (17_security.md)

/-- A security operation in progress (R465): the command, what its completion does, and whom to answer. -/
inductive SecOp where
  | envelope (length : Nat)
  | enroll (length : Nat)
  | revoke (slot : Nat)
  | rekey (key : List Byte)
  | install (length : Nat)
  | confirm (raise : Bool)
  | lockWrite (policy : Nat)
  deriving DecidableEq, Repr

/-- Whom an answer goes to (R177). -/
structure Asker where
  port : Port
  src : Nat
  seq : Nat
  plane : Nat
  typ : Nat
  air : BitVec 32
  deriving DecidableEq, Repr

/-- The security block outside its registers. -/
structure Sec where
  op : Option (SecOp × Asker) := none
  attest : Option (Asker × Nat × List Byte) := none  -- KIND and NONCE of the request in progress
  treeBuilt : Option Nat := none                     -- bottom tree built: its top leaf (R471)
  last : Option Asker := none                     -- the last CRITICAL, whose final answer SEC_LASTCMD shows
  deriving DecidableEq, Repr

-- Lanes (06_link_lanes.md)

/-- What the device holds of one lane beside its registers. `prog` is how far the receive half has come through R152
(0 OFF to 6 ACTIVE), which LNK_LSTAT does not show while the half is EXCLUDED or HELD. -/
structure Lane where
  prog : Nat := 0
  trained : Bool := false        -- both ends have reported RX_READY
  readyGot : Bool := false       -- RX_READY = 1 received in a training control block
  ready : Bool := false          -- the receiver has converged: RX_READY of the blocks it sends (R153)
  req : Nat := 0                 -- what its receiver asks of the far transmitter's taps, byte 2 of those blocks (R153)
  farLimit : Nat := 0            -- LIMIT of the far end's last training control block (R153)
  manual : Bool := false         -- MANUAL as of the last bring-up or retrain (R156)
  woken : Bool := false          -- the half was woken and has not reached ALIGNED
  slips : Nat := 0               -- manual block boundary, modulo 66 (R156)
  excls : List Nat := []         -- cycles of its exclusions, newest first, at most 4
  mkErr : Bool := false          -- its last marker was a marker error
  mseq : Option Nat := none      -- MSEQ of its last marker
  txSleep : Bool := false        -- SLEEP = 1 was sent; electrical idle follows at the next marker (R166)
  deriving DecidableEq, Repr

/-- What the device holds of one port beside its registers. Masks are over logical lanes. -/
structure PortSt where
  waiting : Bool := false        -- the 100 ms wait after rate code 2 failed (R154)
  everActive : Bool := false
  minLanes : Nat := 1            -- MINLANES as of the last bring-up (R168)
  aligned : Nat := 0             -- receive halves ALIGNED when the port proceeded to capability exchange (R154)
  parts : Sparse (List Byte) := []  -- lane to the record bytes of the parts received on it (R155)
  farRec : Option (List Byte) := none  -- the far end's last valid capability record (R155)
  ackGot : Bool := false         -- a record with ACK = 1 has been received
  sentRec : List Byte := []      -- the capability record last sent
  mseqTx : Nat := 0              -- MSEQ of the next marker sent
  farGood : Nat := 0             -- RX_GOOD of the far end's last marker
  goodSince : Sparse Nat := []   -- lane to tick + 1 at which RX_GOOD first showed it again (R162)
  sleepReq : Nat := 0            -- transmit halves that LNK_SLEEP has put to sleep or will at a marker (R166)
  marks : List (Nat × List Byte) := []  -- the last markers sent: lane, and the eight bytes (R149)
  stored : List (Nat × Sent) := []  -- replay store: markers sent since the message began, and the message (R159)
  waitq : List (Nat × Sent) := []  -- background messages that wait for egress bytes (R208) or room in that store (R160), and markers sent since
  seen : Nat := 0                -- messages of the wire already in the replay store
  mark : Nat := 0                -- messages of the wire when the last marker was sent (R148)
  hunting : Bool := false        -- the receiver hunts for a header (R173)
  rest : List Byte := []         -- received bytes that the hunt has not yet settled (R173)
  deriving DecidableEq, Repr

structure Lnk where
  lanes : Sparse Lane := []
  up : PortSt := {}
  cas : PortSt := {}
  segAt : Option (Nat × Bool × Bool × Bool) := none  -- a frame boundary, and the boundary status and hop formats that take effect there (R210)
  degHist : List (Nat × Nat) := []  -- tick and UP_DL of its changes of the last two subframes, newest first (R164)
  deriving DecidableEq, Repr

-- The applied sheaf and the schedule (05_sheaf_and_schedule.md)

/-- A sheaf as the device holds it after apply: the 256-byte header of R111, the sections of R113 by TYPE, the digest. -/
structure Sheaf where
  hdr : List Byte
  sects : List (Nat × List Byte)
  digest : List Byte
  deriving DecidableEq, Repr

/-- What a SHEAF_LOAD waits for (R544). -/
structure Load where
  apply : Bool             -- mode 1: apply follows the verification
  asker : Asker
  rootSheaf : Bool := true -- ROOT_SHEAF as the verification began (R470)
  deriving DecidableEq, Repr

/-- The schedule engine outside its registers. Boundaries are absolute ticks of R20. -/
structure Shf where
  applied : Option Sheaf := none
  verifying : Option Load := none        -- a verification in progress
  applying : Option Asker := none        -- the load whose apply is in progress
  staged : Option Sheaf := none          -- the sheaf last verified
  stagedOk : Bool := false                -- a D-plane write to STAGING has completed (R117)
  startAt : Nat := 0                  -- tick 0 of the pending or last START's frame
  stopAt : Option Nat := none            -- tick 0 of the pending or last STOP's frame
  startAsker : Option Asker := none      -- who asked for the pending START (R133, R95)
  tail : Bool := false                    -- subframe 0 after a stop boundary is running (R137)
  stepStop : Bool := false                -- a STOP took effect at a time step: outputs to idle at the end of the subframe (R139)
  faultAt : Option Nat := none           -- end of the subframe after which a fault of R143 becomes FAULTED
  stopBound : Option Nat := none         -- boundary of the previous STOP for R134
  noFire : Option Nat := none             -- tick 0 of a subframe in which no action fires (R143)
  kovf : Sparse Nat := []              -- overflow count per kernel (R145)
  kovfOvf : List Nat := []             -- kernels whose count has saturated
  keepalive : Option Nat := none         -- tick of R20 at which the keep-alive timeout expires (R23, R33)
  kaExpired : Bool := false               -- the keep-alive has expired and no qualifying message has come
  kaLift : Option Nat := none            -- frame boundary at which the keep-alive mute lifts
  placed : Sparse Bool := []           -- receive buffers opened (true) or closed (false) by class 1 actions
  calPending : List Nat := []          -- chiplets whose full calibration of R135 runs
  lastCal : Option (List Nat) := none    -- plan at which each chiplet is calibrated, 0xFF where it is not; none before the first sheaf
  deriving DecidableEq, Repr

-- Granary and DRAM (14_memory_and_dram.md)

/-- The granary and DRAM outside their registers. A byte that nothing has written reads as 0, in DRAM until content is lost. -/
structure Mem where
  gran : Sparse Byte := []
  poison : List Nat := []        -- addresses of the poisoned words, each a multiple of 8 (R392)
  dram : Sparse Byte := []           -- DRAM that has never lost its content
  dramGen : Nat := 0             -- how often DRAM has lost its content (R406)
  dramNew : Sparse (Option Byte) := []  -- what has been written since the last loss
  postponed : Sparse Nat := []   -- bank pair to refreshes postponed (R401)
  rates : List Nat := []         -- MR4 multiplier of each device at the last poll, as the device codes it (R403)
  srAt : Option Nat := none       -- tick of the decision to enter self-refresh (R409)
  srReady : Nat := 0             -- tick at which the write clock runs after the last exit
  reqAt : Nat := 0               -- tick-clock cycle of the last DRAM request (R408)
  linkErrs : List (Nat × Nat) := []  -- lane and cycle of the uncorrectable link-ECC errors of the last second (R403)
  deriving DecidableEq, Repr

-- DMA (15_dma_engine.md)

/-- A DMA channel outside its registers. -/
structure Chan where
  slotOpen : Bool := false           -- its DMA slot is open (R427)
  next : Nat := 0                -- descriptor to fetch
  cur : Option (Nat × List Nat) := none  -- descriptor being served and its four words
  pos : Nat := 0                 -- bytes of it already moved
  tries : Nat := 0               -- retries of the present burst (R431)
  deriving DecidableEq, Repr

structure Dma where
  chans : Sparse Chan := []
  served : Nat := 15             -- background channel served last (R429)
  deriving DecidableEq, Repr

-- Converters (11_converters.md)

/-- A converter action that waits for its boundary (R317, R318); `fired` orders two of them. -/
structure CnvPend where
  path : Nat
  op : Nat
  at_ : Nat
  a : Nat
  b : Nat
  deriving DecidableEq, Repr

/-- A bias stage latched by a STROBE for its boundary (R330); outputs 0 to 63 are BG, 64 to 127 BA. -/
structure BiasLatch where
  out : Nat
  at_ : Nat
  code : Nat
  range : Nat
  deriving DecidableEq, Repr

structure Cnv where
  toZero : List (Nat × Nat × Nat) := []  -- outputs that a reset takes to code 0, still at their safe code and range (R55, R331)
  pend : List CnvPend := []       -- in firing order
  latched : List BiasLatch := []
  held : List Nat := []             -- chiplets kept quiet by a calibration, an overrun or a lock loss (R320, R335, R340)
  active : List Nat := []           -- paths whose DAC the run and its actions leave active (R320)
  deriving DecidableEq, Repr

-- Front end (12_front_end_control.md)

/-- A calibration that runs on a chiplet (R336). -/
structure CalRun where
  kind : Nat
  started : Nat
  overrun : Bool                  -- its window has closed (R340)
  forLock : Bool                  -- it is the SYN calibration of R335
  paths : List Nat                -- paths that a RETUNE covers
  deriving DecidableEq, Repr

/-- The calibration of a chiplet outside its registers. -/
structure CalChip where
  window : Option Nat := none        -- its window is open, until this CLOSE tick
  run : Option CalRun := none
  retune : List Nat := []            -- paths that await RETUNE (R339)
  overruns : Sparse Nat := []        -- kind to consecutive overruns (R341)
  held : List Nat := []              -- kinds held (R341)
  temps : Sparse (Option Int) := []  -- kind to the sum of the two sensors' VALUEs at its last completion (R338)
  unlocked : Bool := false           -- lock lost and not regained (R335)
  fullCal : Bool := false            -- the full calibration of R135 runs
  deriving DecidableEq, Repr

/-- An entry of a path that waits for its boundary: a power step (R343) or a FEM entry (R348). -/
structure StepPend where
  path : Nat
  at_ : Nat
  fem : Bool
  index : Nat
  deriving DecidableEq, Repr

/-- A FEM phase change that waits for its change instant (R347). -/
structure PhasePend where
  path : Nat
  at_ : Nat
  phase : Nat
  deriving DecidableEq, Repr

/-- An FSB bus (R349 to R352): the words of the running chain, the frame on the bus first, and the chains that wait.
Bit 31 marks a frame that RFE_FSBCMD sent. -/
structure FsbBus where
  run : List Nat := []
  wait : List (List Nat) := []
  send : List (Nat × List Nat) := []  -- FSB_SEND chains with the tick of their first clock, until it comes (R350)
  deriving DecidableEq, Repr

/-- A change into or out of protection that waits for its boundary (R355, R356). -/
structure ProtPend where
  path : Nat
  at_ : Nat
  on : Bool
  deriving DecidableEq, Repr

/-- Held TINE_WEIGHTS (R361): the chips from `chip` on, 16 words each. -/
structure TineHeld where
  chain : Nat
  at_ : Nat
  chip : Nat
  words : List Nat
  deriving DecidableEq, Repr

/-- A tine chain outside its registers. -/
structure Tine where
  onBus : List (List Bool) := []     -- frames sent and not yet compared, oldest first (R362)
  idle : Bool := false               -- an IDLE_ALL frame awaits its strobe (R363)
  loads : List Nat := []             -- load instants strobed, not yet reached
  deriving DecidableEq, Repr

structure Rfe where
  cal : Sparse CalChip := []
  steps : List StepPend := []        -- in order of acceptance
  phases : List PhasePend := []      -- in firing order
  fsb : Sparse FsbBus := []
  fsbSent : List (Nat × List (Option Bool)) := []   -- bus and bits of each frame sent, none where DAT is released, oldest first (R349)
  lowRl : List Nat := []             -- paths whose last estimate was below RL_TRIP (R355)
  prot : List ProtPend := []
  protOn : List Nat := []            -- paths whose entry in force is PROT_STEP
  alertLow : List Nat := []          -- trips (0 to 63) and latches (64 + k) that hold ALERT_N low
  tineHeld : List TineHeld := []     -- in arrival order
  tine : Sparse Tine := []
  tuned : List Nat := []            -- paths whose TUNER_MSG has been asked for, oldest first
  deriving DecidableEq, Repr

-- Transmit chain (08_transmit_chain.md)

/-- A mute cause (R34): it holds from a path's muting boundary after `since` (R249) and not at or after `lift`. -/
structure Mute where
  since : Nat
  lift : Option Nat := none
  deriving DecidableEq, Repr

/-- An engine symbol in the run-ahead ring (R237, R240, R242), by the air tick A(e) of its first sample. `tails` and `hist` are
its opening checkpoint: per path the CFR pulse tail and the DPD memory, and per carrier and path (64 * carrier + path) the samples
that the interpolator had last; `x` and `out` are the CFR and DPD output of its last
pass. Symbols that have played stay until no capture can ask for them. -/
structure EngSym where
  done : Bool := false               -- a pass has completed on it and it has not been voided since
  ckpt : Bool := false               -- its opening checkpoint is valid
  busy : Nat := 0                    -- window (1 or 2) of the pass in progress on it; 0 none
  stale : Bool := false              -- it was voided while that pass ran
  poisoned : List Nat := []          -- paths whose pass read a poisoned word (R392)
  played : Bool := false             -- its ring read has begun
  muted : List Nat := []             -- paths that a mute cause held zero at its ring read
  late : List Nat := []              -- paths that went out as zeros under R248
  sent : List Nat := []              -- paths that send it other than as zeros (R254)
  energy : Sparse Nat := []          -- path to the sum of I^2 + Q^2 of its output (R252)
  x : Sparse (List (Int × Int)) := []
  tails : Sparse (List (Int × Int)) := []
  hist : Sparse (List (Int × Int)) := []
  inter : Sparse (List (Int × Int)) := []
  out : Sparse (List (Int × Int)) := []
  deriving DecidableEq, Repr

/-- What the device holds of a carrier symbol, by 4 * tick + carrier. -/
structure SymRec where
  begun : Bool := false              -- its first precoding has begun (R243)
  fetched : Bool := false            -- its FETCH has run (R226)
  ready : Bool := false              -- precoding and inverse FFT are complete (R237)
  marked : Bool := false             -- marked for recomputation (R243)
  await : Bool := false              -- it awaits recomputation (R237)
  closed : Bool := false             -- its horizon has passed (R236)
  recomputed : Bool := false
  filled : Bool := false             -- a receive buffer of it was filled (R32)
  defbeam : Bool := false
  late : Bool := false
  muted : Bool := false
  amended : Bool := false
  shed : Bool := false
  absent : List Nat := []            -- beam IDs absent for the precoding whose output goes to air
  freq : List (List (Int × Int)) := []  -- by path its antenna-domain samples, one a subcarrier (R16, R222); empty: zeros
  deriving DecidableEq, Repr

structure Txc where
  muteKa : Option Mute := none
  muteStop : Option Mute := none
  muteStep : Option Mute := none
  eng : Sparse EngSym := []
  syms : Sparse SymRec := []
  tags : Sparse Nat := []            -- beam-cache entry to the beam ID it holds + 1 (R223)
  pinned : Option Nat := none        -- the default beam's ID
  rbuf : Sparse (List Nat) := []     -- carrier to the beam IDs of its recompute beam buffer, in order (R246)
  sel : List (Nat × Nat × Nat) := [] -- CFR selections in firing order: path, engine symbol, set (R233)
  spent : Sparse Nat := []           -- slot key to amendment budget used (R243)
  zeroed : List (Nat × Nat) := []    -- carrier and tick of the symbols whose contribution a kernel breach zeroes (R387)
  restart : Bool := true             -- the next pass starts from zero checkpoints (R250)
  gap : Bool := false                 -- that restart waits for the first symbol past what a forward step skipped (R250)
  zeroUntil : Sparse Nat := []       -- chiplet to the air tick before which its paths go out as zeros (R335, R340)
  dac : Sparse (List (Int × Int)) := []  -- path to the samples of the engine symbol last read from the ring
  deriving DecidableEq, Repr

-- Content: sections and samples (07_link_protocol.md)

/-- Samples placed for PRBs of a section, as they came. -/
structure Piece where
  start : Nat
  num : Nat
  data : List Byte
  deriving DecidableEq, Repr

/-- A section on one symbol (R188). `beam` is none for the default beam. -/
structure Sect where
  dl : Bool
  car : Nat
  slotT : Nat                        -- tick 0 of its slot
  sym : Nat
  id : Nat
  start : Nat
  num : Nat
  layer : Nat
  fmt : Nat
  beam : Option Nat
  gain : Int
  mute : Bool
  gen : Nat
  revoked : Bool
  pieces : List Piece
  deriving DecidableEq, Repr

/-- A DL_DATA held until its section or generation is known (R183); `ackReq` is its ACK_REQ. -/
structure HeldData where
  asker : Asker
  ackReq : Bool
  car : Nat
  slotT : Nat
  sym : Nat
  id : Nat
  gen : Nat
  layer : Nat
  fmt : Nat
  piece : Piece
  deriving DecidableEq, Repr

/-- A cache write held until the FETCH of its symbol (R226). -/
structure HeldBeam where
  at_ : Nat
  id : Nat
  weights : List Byte
  car : Nat := 0  -- carrier of the symbol (R226)
  deriving DecidableEq, Repr

/-- A D-plane transfer in progress (R206): a READ with the next offset to send, or a series of WRITEs. -/
structure Xfer where
  read : Bool
  id : Nat
  region : Nat
  off : Nat
  len : Nat
  next : Nat
  asker : Asker
  deriving DecidableEq, Repr

structure Con where
  sects : List Sect := []
  data : List HeldData := []
  beams : List HeldBeam := []
  gens : Sparse Nat := []            -- slot key to AMENDs accepted (R197)
  xfers : List Xfer := []
  deriving DecidableEq, Repr

-- Receive chain (10_receive_chain.md)

/-- A receive setting that waits for its boundary (R290): an attenuation (`car` 7) or a carrier's filter set. -/
structure RxPend where
  path : Nat
  car : Nat
  at_ : Nat
  val : Nat
  deriving DecidableEq, Repr

/-- Invalid samples at the RX balls (R294): of one carrier or of all (`car` 7), until a tick, or without end yet; `whole` marks every
sample of each symbol that the span meets, as a forward step does. -/
structure Inval where
  path : Nat
  car : Nat
  from_ : Nat
  to_ : Option Nat
  step : Bool
  whole : Bool := false
  deriving DecidableEq, Repr

/-- A PARTIAL received for a section and symbol (R299). -/
structure PartialSum where
  car : Nat
  slotT : Nat
  sym : Nat
  id : Nat
  status : Nat
  validFrom : Nat
  contrib : Nat
  fmt : Nat
  num : Nat
  data : List Byte
  deriving DecidableEq, Repr

/-- A sounding computation (R304 to R308): its request or scheduled descriptor, the frequency samples that COVAR took, by
subcarrier and path, and the beams that SOLVE found, by group and vector, each with its POWER. -/
structure Sounding where
  desc : Nat
  car : Nat
  symT : Nat
  req : Option Asker
  groupPrb : Nat
  numVec : Nat
  iter : Nat
  place : Bool
  base : Nat
  y : List (List (Int × Int)) := []
  beams : List (List (Int × List (Int × Int))) := []
  invalid : Bool := false
  placed : Bool := false
  skipped : List Nat := []
  sent : Nat := 0
  deriving DecidableEq, Repr

/-- An extraction (R309, R310): the air tick of its first sample, how many samples, the ADC codes of the path, whether it goes to
the capture partition, and how many samples have been sent. -/
structure Extraction where
  k : Nat
  path : Nat
  car : Nat
  first : Nat
  num : Nat
  adc : List Int
  mem : Bool
  sent : Nat
  deriving DecidableEq, Repr

structure Rxc where
  pend : List RxPend := []
  inval : List Inval := []
  agcPrev : Sparse Nat := []          -- path to the tick of its last AGC_STEP, or the START boundary (R292)
  attnLast : Sparse Nat := []         -- path to the air time of its last attenuation boundary
  partials : List PartialSum := []
  closed : List (Nat × Nat × List Nat) := []  -- CLOSEs of the last 10 subframes: carrier, tick of the symbol, and the SECT_IDs whose PARTIAL was in (R301)
  sounds : List Sounding := []
  cacheHeld : List (Nat × List Byte) := []  -- what sounding kernels have written to the beam cache, address and bytes, until a PLACE tick (R383)
  extracts : List Extraction := []
  taken : List RxPend := []           -- attenuations, filter sets and receive retunes (`car` 8) that have taken effect since the START, in order (R286, R289, R293, R319)
  comp : Sparse Nat := []             -- path to the calibration that its gain compensation comes from (R289)
  newPlan : List Nat := []            -- chiplets calibrated for a plan new to them since the last START (R294)
  deriving DecidableEq, Repr

-- Monitor ADC (16_monitor_adc.md)

/-- A conversion in progress: channel (none for a calibration step), source (CURSRC), slot and start tick. -/
structure MonConv where
  ch : Option Nat
  src : Nat
  slot : Nat
  start : Nat
  deriving DecidableEq, Repr

structure Mon where
  on : Bool := false                 -- start-up step 5 has come (R437)
  cur : Option MonConv := none
  wait : Option MonConv := none       -- a scheduled conversion that starts when the scheduled one in progress ends
  codes : List Nat := []             -- raw codes of the running calibration, in step order (R443)
  initial : Bool := false            -- the initial calibration has not completed (R437)
  urg : Option Nat := none            -- channel of the urgent request (R441)
  stamps : Sparse Nat := []          -- slot to its live stamp, which MON_STIME_k takes when MON_SRES_k is read (R446)
  pass : List Nat := []              -- channels the present scan pass has still to convert
  consec : Sparse Nat := []          -- channel to consecutive out-of-limit results (R445)
  alerting : List Nat := []          -- latched channels that drive ALERT_N, by ALERT as of their last result (R445)
  ts15 : Option Int := none          -- VALUE of TS15 at the last completed calibration (R444)
  deriving DecidableEq, Repr

-- Predistortion (09_linearisation.md)

/-- The three bank stores of an operating point (R263, R264): coefficients in term order; the empty list is the identity bank. The
current bank is in force from the boundary `at_` on, the previous one before it. -/
structure BankSet where
  cur : List (Int × Int) := []
  prev : List (Int × Int) := []
  shadow : List (Int × Int) := []
  ver : Nat := 0
  at_ : Nat := 0
  changed : Bool := false          -- an adapt step has written the shadow since the last commit or winnow (R270)
  fail : Nat := 0                  -- failmask of that step
  deriving DecidableEq, Repr

/-- A capture interval in progress on a gleaner (R274, R278). -/
structure CapRun where
  gleaner : Nat
  path : Nat
  buf : Nat
  len : Nat
  dir : Bool
  start : Nat
  step : Bool                      -- a time step has occurred in it
  cal : Bool                       -- a calibration window of the chiplet overlaps it
  nco : Nat := 0                   -- transmit NCO frequency of the path, kHz, to which the gleaner tunes (R319)
  deriving DecidableEq, Repr

/-- An adaptation step in progress (R280), with the void reason decided at its ADAPT. -/
structure AdaptRun where
  gleaner : Nat
  buf : Nat
  void : Nat
  at_ : Nat                        -- tick at which its GL window started
  deriving DecidableEq, Repr

structure Dpd where
  banks : Sparse BankSet := []       -- 4 * path + operating point
  sel : List (Nat × Nat × Nat) := [] -- SELECTs in firing order: path, boundary, operating point (R267)
  caps : List CapRun := []
  shape : Sparse (List Byte × List Nat) := []  -- path to the term descriptors and neighbours of its banks (R265)
  attn : Sparse Nat := []            -- path to the gleaner attenuation of its last capture (R284)
  written : Sparse Nat := []         -- capture slot written since START, 16 * gleaner + slot, to 1 + the tick of its GL window
  adapts : List AdaptRun := []
  loops : Sparse (Option (Int × Int × Nat)) := []  -- path to its last forward loop gain, in 2^-32, and the tick of its capture (R283)
  deriving DecidableEq, Repr

-- Tiles (13_processing_tiles.md)

/-- A register write on its way (R370). `accv` is the accumulator as ACCRD and ACCST read it. -/
inductive TWrite where
  | v (r : Nat) (x : List (Int × Int))
  | accv (r : Nat) (x : List (Int × Int))
  | s (r : Nat) (x : Nat)
  deriving DecidableEq, Repr

/-- A queued stream transfer (R380): direction, local address, granary address, words, and the cycle at which it completes. -/
structure StreamXfer where
  inbound : Bool
  local_ : Nat
  shared : Nat
  words : Nat
  doneAt : Nat
  moved : Nat := 0                   -- words that have had their access cycle
  deriving DecidableEq, Repr

/-- A tile outside its local memory, which is its part of the granary (R368, R389). Vectors and accumulators are 16 lanes. -/
structure Tile where
  st : Nat := 0                      -- STATE of TIL_TSTAT
  ovf : Bool := false
  winfault : Bool := false
  protfault : Bool := false
  eccu : Bool := false
  kernel : Nat := 0
  cycles : Nat := 0                  -- of the last completed kernel
  failed : Bool := false             -- an error in the protected region leaves it FAILED (R388)
  startSub : Nat := 0                -- tick 0 of the subframe of its last START
  c0 : Nat := 0                      -- first cycle of the kernel, from there
  cyc : Nat := 0                     -- next cycle, from c0
  ended : Bool := false              -- END has executed
  kovf : Nat := 0                    -- overflow count (R372)
  v : Sparse (List (Int × Int)) := []
  acc : Sparse (List (Int × Int)) := []
  accv : Sparse (List (Int × Int)) := []
  s : Sparse Nat := []
  k : Sparse Nat := []
  ad : Sparse Nat := []
  of_ : Sparse Int := []
  cb : Sparse Nat := []
  cl : Sparse Nat := []
  pend : List (Nat × TWrite) := []   -- cycle from which readable, and the write, in order of issue
  searchMax : Bool := true
  keys : List (Option Int) := List.replicate 16 (some 0)  -- by lane; none is the least favourable value, which SCLR puts there (R379)
  idxs : List Nat := List.replicate 16 0
  issue : Nat := 0                   -- issue count i of R379
  queue : List StreamXfer := []
  waiting : Bool := false            -- XWAIT has issued and the queue is not empty
  bundle : List TOp := []            -- the bundle being assembled
  code : List (List TOp) := []       -- bundles of an open LOOP or REPEAT, its own first
  need : Nat := 0                    -- bundles it still lacks
  todo : List (List TOp) := []       -- bundles issued and stalled behind XWAIT or a full queue
  missed : Bool := false             -- its last START was suppressed, and the check that belongs to it has not fired (R387)
  deriving DecidableEq, Repr

/-- The boundary scan of the test access port (R449): the instruction in force and the registers it selects. -/
structure Jtag where
  ir : Nat := 0                      -- 0 BYPASS, 1 SAMPLE/PRELOAD, 2 EXTEST
  cells : List Bool := []            -- the scan register: what EXTEST drives after the next update
  driven : List Bool := []           -- the levels that EXTEST drives on the output pins
  bypass : Bool := false
  tdo : List Bool := []              -- the bits last shifted out
  deriving DecidableEq, Repr

/-- Why the block stops. No command of the spec ends so: every row is given an effect. -/
inductive Fault where
  /-- Raised by no meaning; kept so that a later reading of the spec that names a stop has a place for it. Safe. -/
  | unusedStop
  deriving DecidableEq, Repr

/-- Why a command has no meaning. -/
inductive Refusal where
  /-- Raised by an arm of `exec` whose row has no meaning yet; `mnemonic` is the row's. Safe. -/
  | notModelled (mnemonic : String)
  deriving DecidableEq, Repr

/-- The state. -/
structure State where
  pending : List Instr := []
  part : Part := {}
  regs : Sparse Word := []
  free : Nat := 0
  vaon : Vaon := {}
  boot : Boot := {}
  tim : Tim := {}
  wire : List Sent := []
  answers : List Sent := []
  lost : Nat := 0                    -- answers discarded and not yet reported (R178)
  txSeq : Sparse Nat := []            -- next SEQ of each stream sent (R176)
  streams : List Stream := []
  alarms : Sparse AlarmSlot := []
  loft : Loft := {}
  sec : Sec := {}
  tal : Tal := {}
  shf : Shf := {}
  lnk : Lnk := {}
  mem : Mem := {}
  dma : Dma := {}
  cnv : Cnv := {}
  rfe : Rfe := {}
  txc : Txc := {}
  con : Con := {}
  rxc : Rxc := {}
  mon : Mon := {}
  dpd : Dpd := {}
  tiles : Sparse Tile := []
  jtag : Jtag := {}
  deriving DecidableEq, Repr

/-- The state right after power-on reset, at the reset release that follows (R60, R500): every register reads its reset
value, SYS_RESETCAUSE shows POR, nothing has been received or sent, and the loft is as the part left manufacture. (Log: 8 DESIGN CHOICE, 9 DESIGN CHOICE, 11 PRESUMED) -/
def State.reset : State := { regs := [(0x20, 1)] }

end Sys2Proof.Machine
end

