-- ==== Sys2Proof/Machine/Ops.lean ====
section
/-! DEFINITION. The named operations over the state: sparse maps, the register file, the statistic counters, and time. -/

namespace Sys2Proof.Machine

abbrev Out := Host.Outcome State Fault Refusal

-- Sparse maps

/-- What a key reads as; `d` is what an unlisted key reads as. -/
def sparseGet {β : Type} (d : β) : Sparse β → Nat → β
  | [], _ => d
  | (a, v) :: r, k => if k = a then v else sparseGet d r k

/-- Put a pair before the first key above its own. -/
def sparseInsert {β : Type} : Sparse β → Nat → β → Sparse β
  | [], k, v => [(k, v)]
  | (a, w) :: r, k, v => if k < a then (k, v) :: (a, w) :: r else (a, w) :: sparseInsert r k v

/-- Write a key; a value equal to what an unlisted key reads as removes the pair. -/
def sparseSet {β : Type} [DecidableEq β] (d : β) (m : Sparse β) (k : Nat) (v : β) : Sparse β :=
  let r := m.filter (fun e => e.1 != k)
  if v = d then r else sparseInsert r k v

/-- Write consecutive keys. -/
def sparseSetList {β : Type} [DecidableEq β] (d : β) (m : Sparse β) (k : Nat) : List β → Sparse β
  | [] => m
  | v :: r => sparseSetList d (sparseSet d m k v) (k + 1) r

/-- Read `n` consecutive keys. -/
def sparseList {β : Type} (d : β) (m : Sparse β) (k n : Nat) : List β := (List.range n).map (fun i => sparseGet d m (k + i))

/-- The canonical form: keys strictly rising from `lo`, no pair equal to what its key reads as unlisted. -/
def sparseWf {β : Type} [DecidableEq β] (d : Nat → β) : Nat → Sparse β → Bool
  | _, [] => true
  | lo, (a, v) :: r => decide (lo ≤ a) && decide (v ≠ d a) && sparseWf d (a + 1) r

-- The part

/-- Majority of fuse copies: a value at least two copies hold (R38). (Log: 216 DEDUCED) -/
def majority {α : Type} [DecidableEq α] (l : List (Option α)) : Option α :=
  l.findSome? (fun c => match c with
    | some v => if 2 ≤ l.count (some v) then some v else none
    | none => none)

/-- R38: no two copies of the grade or of the band fuse agree. (Log: 216 DEDUCED) -/
def Part.fuseFault (p : Part) : Bool := (majority p.gradeFuse).isNone || (majority p.bandFuse).isNone

/-- The grade as read (R38: B on a fuse fault). (Log: 9 DESIGN CHOICE, 216 DEDUCED) -/
def Part.grade (p : Part) : Grade := if p.fuseFault then .b else (majority p.gradeFuse).getD .b

/-- H band, as read (R38: L on a fuse fault). -/
def Part.hBand (p : Part) : Bool := if p.fuseFault then false else (majority p.bandFuse).getD false

/-- E or X grade: the cascade, coupled DPD, transparent clock and sounding are present (R35, R36). -/
def Part.ex (p : Part) : Bool := p.grade != .b

/-- X grade: the tine bus is present. -/
def Part.tine (p : Part) : Bool := p.grade == .x

/-- (Log: 9 DESIGN CHOICE) -/
def Part.paths (p : Part) : Nat := if p.paths64 then 64 else 32
def Part.chiplets (p : Part) : Nat := if p.paths64 then 4 else 2
def Part.gleaners (p : Part) : Nat := if p.paths64 then 8 else 4
def Part.layers (p : Part) : Nat := if p.ex then 32 else 16
def Part.ulanes (p : Part) : Nat := if p.paths64 then 16 else 8

/-- A lane of R168 exists on the part: 0 to 15 upstream, 16 to 23 cascade. -/
def Part.hasLane (p : Part) (n : Nat) : Bool := decide (n < p.ulanes) || (decide (16 ≤ n ∧ n < 24) && p.ex)

/-- A channel of the monitor ADC exists on the part (R436). -/
def Part.monHas (p : Part) (n : Nat) : Bool :=
  decide (n < 96) && (p.paths64 || !(decide (68 ≤ n ∧ n ≤ 71) || decide (92 ≤ n ∧ n ≤ 93)))

/-- Eight bits as a byte, bit 0 first. -/
def byteOfBits (l : List Bool) : Byte := BitVec.ofNat 8 (l.foldr (fun b n => 2 * n + b.toNat) 0)

/-- ROOT_HASH by majority of its copies, bit by bit; none when a bit has no two agreeing copies (R447). A copy too short to hold a byte
has no value there. (Log: 9 DESIGN CHOICE, 216 DEDUCED) -/
def Part.root (p : Part) : Option (List Byte) :=
  (List.range 32).mapM (fun i => ((List.range 8).mapM (fun j =>
    majority (p.rootHash.map (fun c => (c.drop i).head?.map (fun (b : Byte) => b.getLsbD j))))).map byteOfBits)

/-- LIFECYCLE by majority of its copies, bit by bit (R447). (Log: 9 DESIGN CHOICE) -/
def Part.lifecycleRead (p : Part) : Nat :=
  (List.range 2).foldl (fun m j => if majority (p.lifecycle.map (fun c => some (c.getLsbD j))) = some true then m + 2 ^ j else m) 0

/-- FACT_LOCK by majority of its copies (R447). -/
def Part.factLocked (p : Part) : Bool := majority (p.factLock.map some) == some true

/-- SERIAL by majority of its copies, bit by bit (R447). -/
def Part.serial (p : Part) : BitVec 64 :=
  BitVec.ofNat 64 ((List.range 64).foldl (fun m i =>
    if majority (p.serialFuse.map (fun c => some (c.getLsbD i))) = some true then m + 2 ^ i else m) 0)

-- The register file

def Fld.width (f : Fld) : Nat := f.hi - f.lo + 1

/-- The field's value in a register word. -/
def Fld.read (f : Fld) (w : Word) : Nat := w.toNat / 2 ^ f.lo % 2 ^ f.width

/-- The mask of the field's bits. -/
def Fld.mask (f : Fld) : Word := BitVec.ofNat 32 ((2 ^ f.width - 1) * 2 ^ f.lo)

/-- The register word with the field replaced. -/
def Fld.insert (f : Fld) (w : Word) (x : Nat) : Word :=
  (w &&& ~~~ f.mask) ||| (BitVec.ofNat 32 (x % 2 ^ f.width * 2 ^ f.lo) &&& f.mask)

/-- An instance of a register exists on the part (R498, R37, R436). -/
def Inst.has (p : Part) (i : Inst) (n : Nat) : Bool :=
  match i with
  | .one => n == 0
  | .only64 => n == 0 && p.paths64
  | .path => decide (n < p.paths)
  | .lane => p.hasLane n
  | .channel => decide (n < 16)
  | .monCh => p.monHas n
  | .monSlot => decide (n < 32)
  | .byteLane => decide (n < 8)
  | .chain => decide (n < 16) && p.tine

/-- The descriptor that an address names, if its register exists on the part. -/
def RegDesc.names (p : Part) (addr : Nat) (d : RegDesc) : Bool :=
  if d.addr ≤ addr ∧ (addr - d.addr) % 0x100 = 0 then
    (match d.inst with
     | .one | .only64 => decide (addr = d.addr)
     | .path | .lane | .channel | .monCh | .byteLane => decide (addr % 0x10000 < 0x8000)
     | _ => true) && d.inst.has p ((addr - d.addr) / 0x100)
  else false

/-- The register an address names (R497, R498); none for an unmapped address. -/
def regDesc (p : Part) (addr : Nat) : Option RegDesc := (RegMap.block addr).find? (RegDesc.names p addr)

/-- The registers that fuses and bonding fix (R36, R447, R518, R519). (Log: 10 DEDUCED) -/
def partWord (p : Part) (addr : Nat) : Option Word :=
  let ex := if p.ex then 1 else 0
  match addr with
  | 0x0 => some (BitVec.ofNat 32 (p.paths + (if p.hBand then 0x100 else 0)
      + (match p.grade with | .b => 0 | .e => 0x200 | .x => 0x400)
      + (if p.fuseFault then 0x800 else 0) + (2 ^ p.chiplets - 1) * 0x1000 + 0x42010000))
  | 0x4 => some (BitVec.ofNat 32 (ex * 0xF + (if p.tine then 0x10 else 0) + p.layers * 0x100 + (2 ^ p.ulanes - 1) * 0x10000))
  | 0x8 => some (BitVec.ofNat 32 (0x100 + 0x60 * 0x200 + 4 * 0x10000 + p.gleaners * 0x100000 + (if p.tine then 16 * 0x1000000 else 0)))
  | 0xc => some (BitVec.ofNat 32 ((if p.hBand then 15400 else 7200) + 0x190 * 0x10000))
  | 0xe0010 => some (p.serial.setWidth 32)
  | 0xe0014 => some ((p.serial >>> 32).setWidth 32)
  | _ => if 0xe0040 ≤ addr ∧ addr < 0xe0060 ∧ addr % 4 = 0 then
           some (BitVec.ofNat 32 (leAt (p.root.getD []) (addr - 0xe0040) 4))
         else none

/-- What a register that nothing has written since reset reads as; MINLANES_C reads 0 on B-grade parts, and SEC_STAT.LIFECYCLE shows the
fuse (R447, R477). (Log: 10 DEDUCED, 62 DEDUCED) -/
def resetWord (p : Part) (addr : Nat) : Word :=
  match partWord p addr with
  | some w => w
  | none =>
    match regDesc p addr with
    | some d =>
      let w := BitVec.ofNat 32 (if addr = R.LNK_CFG.w.addr ∧ !p.ex then 0x10 else if p.paths64 then d.reset64 else d.reset32)
      if addr = R.SEC_STAT.w.addr then R.SEC_STAT.LIFECYCLE.insert w p.lifecycleRead else w
    | none => 0

/-- The register word at an address. (Log: 10 DEDUCED) -/
def State.word (s : State) (addr : Nat) : Word := sparseGet (resetWord s.part addr) s.regs addr

/-- Write a whole register word. -/
def State.setWord (s : State) (addr : Nat) (w : Word) : State :=
  { s with regs := sparseSet (resetWord s.part addr) s.regs addr w }

/-- A field's value. -/
def State.get (s : State) (f : Fld) : Nat := f.read (s.word f.addr)

/-- Write a field. -/
def State.put (s : State) (f : Fld) (x : Nat) : State := s.setWord f.addr (f.insert (s.word f.addr) x)

/-- A one-bit field as a truth value. -/
def State.flag (s : State) (f : Fld) : Bool := s.get f != 0

/-- Set or clear a one-bit field. -/
def State.putFlag (s : State) (f : Fld) (b : Bool) : State := s.put f (if b then 1 else 0)

/-- Write a signed value to a field, two's complement. -/
def State.putInt (s : State) (f : Fld) (x : Int) : State := s.put f (unsigned f.width x)

/-- A field read as two's complement. -/
def State.getInt (s : State) (f : Fld) : Int := signed f.width (s.get f)

/-- Set bit `i` of a field. -/
def State.setBit (s : State) (f : Fld) (i : Nat) : State :=
  if bit (s.get f) i then s else s.put f (s.get f + 2 ^ i)

/-- Clear bit `i` of a field. -/
def State.clrBit (s : State) (f : Fld) (i : Nat) : State :=
  if bit (s.get f) i then s.put f (s.get f - 2 ^ i) else s

/-- Add `k` to a statistic counter: it stays at its largest value, and an increment attempted there sets bit `i` of the
overflow field (R520). -/
def State.countBy (s : State) (c ovf : Fld) (i k : Nat) : State :=
  if s.get c + k < 2 ^ c.width then s.put c (s.get c + k)
  else (s.put c (2 ^ c.width - 1)).setBit ovf i

/-- Add 1 to a statistic counter. -/
def State.count (s : State) (c ovf : Fld) (i : Nat) : State := s.countBy c ovf i 1

/-- Fold an operation over a list of indices. -/
def State.each {α : Type} (s : State) (l : List α) (f : α → State → State) : State := l.foldl (fun s a => f a s) s

-- Free values

/-- A fresh index for a free value. (Log: 7 DESIGN CHOICE) -/
def State.fresh (s : State) : State := { s with free := s.free + 1 }

-- DRAM (R398, R406)

/-- A byte of DRAM: what was last written, else, once content has been lost, a free value. (Log: 95 DESIGN CHOICE) -/
def State.dramByte (s : State) (a : Nat) : Byte :=
  if s.mem.dramGen = 0 then sparseGet 0 s.mem.dram a
  else (sparseGet none s.mem.dramNew a).getD (BitVec.ofNat 8 (Config.dramLost s.mem.dramGen a))

/-- Bytes of DRAM. (Log: 12 DESIGN CHOICE) -/
def State.dramBytes (s : State) (a n : Nat) : List Byte := (List.range n).map (fun i => s.dramByte (a + i))

/-- The DRAM's content is no longer guaranteed, after a failure or a reset of R60 other than a watchdog reset (R406). (Log: 95 DESIGN CHOICE) -/
def Mem.lose (m : Mem) : Mem := { m with dram := [], dramNew := [], dramGen := m.dramGen + 1 }

-- Time (R20 to R22, R84)

/-- R20: the absolute tick count of a network time. (Log: 222 DESIGN CHOICE) -/
def NetTime.tick (t : NetTime) : Nat := t.sec * 491520000 + (t.ns * 65536 + t.frac) * 49152 / (65536 * 100000)

/-- A network time in units of 2^-16 ns. -/
def NetTime.units (t : NetTime) : Int := (((t.sec * 1000000000 + t.ns) * 65536 + t.frac : Nat) : Int)

/-- The network time of a count of units of 2^-16 ns; a count below 0 is taken as 0, and seconds wrap at 48 bits (R9). -/
def NetTime.ofUnits (u : Int) : NetTime :=
  let n := u.toNat
  ⟨n / 65536 / 1000000000 % 2 ^ 48, n / 65536 % 1000000000, n % 65536⟩

/-- The present absolute tick. (Log: 222 DESIGN CHOICE) -/
def State.tick (s : State) : Nat := s.tim.now.tick

/-- Ticks of the frame-number cycle, of a frame and of a subframe (00_scope.md, Air time). -/
def cycleTicks : Nat := 5033164800
def frameTicks : Nat := 4915200
def subTicks : Nat := 491520

/-- The symbol is long: the first of its half-subframe (00_scope.md, the table of symbol lengths). -/
def longSym (scs slot sym : Nat) : Bool :=
  match scs with
  | 0 => sym == 0 || sym == 7
  | 1 => sym == 0
  | 2 => sym == 0 && slot % 2 == 0
  | _ => sym == 0 && slot % 4 == 0

/-- Length of the normal symbol. -/
def normalLen (scs : Nat) : Nat := 35072 / 2 ^ scs

/-- Length of a symbol in ticks. -/
def symLen (scs slot sym : Nat) : Nat := normalLen scs + (if longSym scs slot sym then 256 else 0)

/-- Ticks from the start of the subframe to a symbol. -/
def symStart (scs slot sym : Nat) : Nat :=
  ((List.range slot).map (fun k => ((List.range 14).map (symLen scs k)).sum)).sum + ((List.range sym).map (symLen scs slot)).sum

/-- Slots per subframe of a spacing (00_scope.md, Air time). -/
def slotsOf (scs : Nat) : Nat := 2 ^ scs

/-- Length of a slot in ticks: its 14 symbols (R22). At 60 and 120 kHz the slots that hold a long symbol are 256 ticks longer. -/
def slotLen (scs slot : Nat) : Nat := ((List.range 14).map (symLen scs slot)).sum

/-- The slot in which an offset from the start of the subframe lies (R22). -/
def slotAt (scs off : Nat) : Nat :=
  ((List.range (slotsOf scs)).filter (fun k => decide (0 < k ∧ symStart scs k 0 ≤ off))).length

/-- The symbol of a slot in which an offset from the slot's start lies. -/
def symAt (scs slot off : Nat) : Nat :=
  ((List.range 13).filter (fun k => ((List.range (k + 1)).map (symLen scs slot)).sum ≤ off)).length

/-- Slot, symbol and tick offset of an offset from the start of the subframe (R22). -/
def airPlace (scs off : Nat) : Nat × Nat × Nat :=
  let slot := slotAt scs off
  let sym := symAt scs slot (off - symStart scs slot 0)
  (slot, sym, off - symStart scs slot sym)

/-- Header field of the applied sheaf (R111); 0 while no sheaf is applied. -/
def State.hdr (s : State) (o n : Nat) : Nat :=
  match s.shf.applied with
  | some sh => leAt sh.hdr o n
  | none => 0

/-- The air-time offset O of R21; 0 while no sheaf is applied. -/
def State.airOffset (s : State) : Nat := s.hdr 24 8

/-- R21: the cycle position of an absolute tick. -/
def State.cyclePos (s : State) (a : Nat) : Nat := (a + cycleTicks - s.airOffset % cycleTicks) % cycleTicks

/-- Frame and subframe of an absolute tick (R21). -/
def State.frameOf (s : State) (a : Nat) : Nat := s.cyclePos a / frameTicks
def State.subOf (s : State) (a : Nat) : Nat := s.cyclePos a % frameTicks / subTicks

/-- Absolute tick of the start of the frame, and of the subframe, that a tick lies in. -/
def State.frameStart (s : State) (a : Nat) : Nat := a - s.cyclePos a % frameTicks
def State.subStart (s : State) (a : Nat) : Nat := a - s.cyclePos a % subTicks

/-- The first frame boundary at or after a tick. -/
def State.frameBoundary (s : State) (a : Nat) : Nat :=
  if s.cyclePos a % frameTicks = 0 then a else s.frameStart a + frameTicks

/-- The absolute tick of a cycle position, the instance nearest to the present within half a cycle (R8). (Log: 222 DESIGN CHOICE) -/
def State.absOf (s : State) (pos : Nat) : Nat :=
  let d := (pos % cycleTicks + cycleTicks - s.cyclePos s.tick) % cycleTicks
  if d < cycleTicks / 2 then s.tick + d else s.tick + d - cycleTicks

end Sys2Proof.Machine
end

