-- ==== Sys2Proof/Machine/Sheaf.lean ====
section
/-! DEFINITION. Reading a sheaf: header fields (R111), sections (R113), STRUCT records (R218 to R221), windows (R129),
furrow index (R125); and the air times that follow from it. -/

namespace Sys2Proof.Machine

/-- A section of the sheaf by TYPE; empty where the sheaf lacks it. -/
def Sheaf.sect (sh : Sheaf) (typ : Nat) : List Byte := ((sh.sects.find? (·.1 == typ)).map (·.2)).getD []

/-- The records of a STRUCT-like section (R218): TYPE and body, without gaps. -/
def structRecs : Nat → List Byte → List (Nat × List Byte)
  | 0, _ => []
  | n + 1, bs => if bs.length < 4 then [] else
      (leAt bs 0 2, (bs.drop 4).take (leAt bs 2 2)) :: structRecs n (bs.drop (4 + leAt bs 2 2))

/-- The STRUCT records of a sheaf. -/
def Sheaf.recs (sh : Sheaf) : List (Nat × List Byte) := structRecs (sh.sect 1).length (sh.sect 1)

/-- The bodies of the records of one type. -/
def Sheaf.recsOf (sh : Sheaf) (typ : Nat) : List (List Byte) := (sh.recs.filter (·.1 == typ)).map (·.2)

/-- The body of the one record of a type; empty where the sheaf lacks it. -/
def Sheaf.record (sh : Sheaf) (typ : Nat) : List Byte := (sh.recsOf typ).head?.getD []

/-- Records of the applied sheaf. -/
def State.recsOf (s : State) (typ : Nat) : List (List Byte) := (s.shf.applied.map (·.recsOf typ)).getD []
def State.record (s : State) (typ : Nat) : List Byte := (s.recsOf typ).head?.getD []
def State.sect (s : State) (typ : Nat) : List Byte := (s.shf.applied.map (·.sect typ)).getD []

/-- R111 FLAGS of the applied sheaf. -/
def State.dramOptional (s : State) : Bool := bit (s.hdr 32 4) 0
def State.cascadeSheaf (s : State) : Bool := bit (s.hdr 32 4) 1
def State.txPresent (s : State) : Bool := bit (s.hdr 32 4) 2

/-- COMPAT_CLASS of the applied sheaf. -/
def State.sheafClass (s : State) : Nat := s.hdr 6 2

/-- The CARRIER record of a carrier of the applied sheaf (R219). -/
def State.carrier? (s : State) (car : Nat) : Option (List Byte) := (s.recsOf 1).find? (fun b => leAt b 0 1 == car)

/-- Fields of a CARRIER record (R219). -/
def State.scs (s : State) (car : Nat) : Nat := ((s.carrier? car).map (fun b => leAt b 1 1)).getD 0
def State.rateK (s : State) (car : Nat) : Nat := ((s.carrier? car).map (fun b => leAt b 2 1)).getD 0
def State.dlLayers (s : State) (car : Nat) : Nat := ((s.carrier? car).map (fun b => leAt b 3 1)).getD 0
def State.nPrb (s : State) (car : Nat) : Nat := ((s.carrier? car).map (fun b => leAt b 4 2)).getD 0
def State.preShift (s : State) (car : Nat) : Nat := ((s.carrier? car).map (fun b => leAt b 6 1)).getD 0
def State.ifftShift (s : State) (car : Nat) : Nat := ((s.carrier? car).map (fun b => leAt b 7 1)).getD 0
def State.budget (s : State) (car : Nat) : Nat := ((s.carrier? car).map (fun b => leAt b 12 1)).getD 0

/-- The carriers of the applied sheaf, ascending. -/
def State.carriers (s : State) : List Nat := (List.range 4).filter (fun c => (s.carrier? c).isSome)

/-- OPEN and CLOSE of a window kind of a carrier (R129); kind 0 downlink C-plane, 1 downlink U-plane, 2 uplink C-plane,
3 beam write, 4 cascade partial sum. -/
def State.window (s : State) (car kind : Nat) : Int × Int :=
  let b := (s.sect 6).drop (car * 40 + kind * 8)
  (signed 32 (leAt b 0 4), signed 32 (leAt b 4 4))

/-- The furrow selected for a subframe (R125). -/
def State.findex (s : State) (f sub : Nat) : Nat :=
  let per := s.hdr 40 2
  leAt (s.sect 3) ((f * 10 + sub) % 10240 % per) 1

/-- A word of the PARAM section (R121: ARG may index it); PARAM words are 32 bits wide (R304). -/
def State.param (s : State) (i : Nat) : Nat := leAt (s.sect 5) (4 * i) 4

/-- AIRREF of R171 for an absolute tick, on the grid of a carrier. -/
def State.airRefOn (s : State) (a car : Nat) : BitVec 32 :=
  let p := airPlace (s.scs car) (s.cyclePos a % subTicks)
  BitVec.ofNat 32 (s.frameOf a + s.subOf a * 2 ^ 10 + p.1 * 2 ^ 14 + p.2.1 * 2 ^ 17 + car * 2 ^ 21)

/-- AIRREF of an event that concerns no single carrier (R202): the lowest-numbered carrier; 0 when no sheaf is applied. -/
def State.airRef (s : State) : BitVec 32 :=
  match s.shf.applied with
  | none => 0
  | some _ => s.airRefOn s.tick (s.carriers.head?.getD 0)

/-- Fields of an AIRREF (R171). -/
def airFrame (a : BitVec 32) : Nat := bits a.toNat 9 0
def airSub (a : BitVec 32) : Nat := bits a.toNat 13 10
def airSlot (a : BitVec 32) : Nat := bits a.toNat 16 14
def airSym (a : BitVec 32) : Nat := bits a.toNat 20 17
def airCar (a : BitVec 32) : Nat := bits a.toNat 22 21

/-- Absolute tick of a symbol, from its frame, subframe, slot and symbol on a carrier's grid (R22), nearest to the present (R8). -/
def State.symTick (s : State) (car f sub slot sym : Nat) : Nat :=
  s.absOf (f * frameTicks + sub * subTicks + symStart (s.scs car) slot sym)

/-- Run states of R132. -/
def runEmpty : Nat := 0
def runApplying : Nat := 1
def runReady : Nat := 2
def runStarting : Nat := 3
def runRunning : Nat := 4
def runStopping : Nat := 5
def runFaulted : Nat := 6

/-- The run state (SHF_STATE.RUN). -/
def State.run (s : State) : Nat := s.get R.SHF_STATE.RUN

/-- A sheaf runs: RUNNING or STOPPING. -/
def State.running (s : State) : Bool := s.run == runRunning || s.run == runStopping

end Sys2Proof.Machine
end

