-- ==== Sys2Proof/Machine/Events.lean ====
section
/-! DEFINITION. What the device says of itself: messages sent, ACK and NACK (R177, R178), alarms (R202), tally triggers
(R481 to R485), and the causes that drive ALERT_N. -/

namespace Sys2Proof.Machine

-- Ports and sending

/-- A port is ACTIVE or DEGRADED (LNK_PSTAT, R168). (Log: 46 DEDUCED) -/
def State.portUp (s : State) : Port → Bool
  | .up => s.get R.LNK_PSTAT.UP_STATE == 4 || s.get R.LNK_PSTAT.UP_STATE == 5
  | .cas => s.get R.LNK_PSTAT.CAS_STATE == 4 || s.get R.LNK_PSTAT.CAS_STATE == 5

/-- SRC of what the device originates: its position, or 0x0F while that is not valid (R171, R174). -/
def State.srcPos (s : State) : Nat := if s.flag R.LNK_PROTO.POS_VALID then s.get R.LNK_PROTO.POS else 0x0F

def portKey : Port → Nat
  | .up => 0
  | .cas => 1

/-- Key of a sent stream (R176): port, plane, source and destination. (Log: 221 DEDUCED) -/
def streamKey (p : Port) (plane src dest : Nat) : Nat := portKey p * 2 ^ 24 + plane * 2 ^ 16 + src * 2 ^ 8 + dest

/-- What the device holds of a port. -/
def State.port (s : State) : Port → PortSt
  | .up => s.lnk.up
  | .cas => s.lnk.cas

def State.setPort (s : State) (p : Port) (q : PortSt) : State :=
  match p with
  | .up => { s with lnk := { s.lnk with up := q } }
  | .cas => { s with lnk := { s.lnk with cas := q } }

/-- LEN_W of a message with a body of `b` bytes (R169). -/
def lenWords (b : Nat) : Nat := (16 + b + 4 + 7) / 8

/-- Body and padding, over which the trailer is taken (R169, R170). -/
def padBody (body : List Byte) : List Byte := body ++ List.replicate (8 * lenWords body.length - 20 - body.length) 0

/-- Planes whose messages the replay store keeps: M, C and S (R159). -/
def replayed (plane : Nat) : Bool := plane == 1 || plane == 2 || plane == 4

/-- Bytes of the messages of a list. -/
def sentBytes (l : List Sent) : Nat := (l.map (fun w => 8 * lenWords w.body.length)).sum

/-- Bytes of the replay store of a port direction (R159). -/
def replayBytes : Nat := 524288

/-- Protected bytes of a port that the replay store holds or takes at the next marker. -/
def State.storeLoad (s : State) (p : Port) : Nat :=
  sentBytes ((s.port p).stored.map (·.2)) + sentBytes ((s.wire.drop (s.port p).seen).filter (fun w => w.port == p && replayed w.plane))

/-- A message goes out, or waits: M- and S-plane messages while the replay store has no room for them, and behind those of their plane that
wait (R160). (Log: 220 DESIGN CHOICE, 239 DEDUCED) -/
def State.emit (s : State) (w : Sent) : State :=
  let q := s.port w.port
  if (w.plane == 1 || w.plane == 4) && (q.waitq.any (fun e => e.2.plane == w.plane)
      || decide (replayBytes < s.storeLoad w.port + 8 * lenWords w.body.length)) then
    s.setPort w.port { q with waitq := q.waitq ++ [(0, w)] }
  else { s with wire := s.wire ++ [w] }

/-- What LNK_CNT_FWD, LNK_CNT_NACK and LNK_NACKLAST say of a message that has left (R216). -/
def State.countOut (s : State) (w : Sent) : State :=
  if w.fwd then s.count R.LNK_CNT_FWD.FWD R.LNK_PCNTOVF.OVF 8
  else if w.plane == 1 && w.typ == 0x0F then
    (((s.count R.LNK_CNT_NACK.NACK R.LNK_PCNTOVF.OVF 2).put R.LNK_NACKLAST.REASON (leAt w.body 4 1)).put
      R.LNK_NACKLAST.PLANE (leAt w.body 2 1)).put R.LNK_NACKLAST.TYPE (leAt w.body 3 1)
  else s

/-- Of the waiting messages of a port, the one that takes the next egress bytes: S-plane before M-plane before D-plane (R208), where the
first two find room in the replay store (R160). (Log: 239 DEDUCED) -/
def State.nextOut (s : State) (p : Port) : Option (Nat × Sent) :=
  let q := (s.port p).waitq
  let d := (q.filter (fun e => e.2.plane == 5)).head?
  match (q.filter (fun e => e.2.plane == 4) ++ q.filter (fun e => e.2.plane == 1)).head? with
  | some e => if s.storeLoad p + 8 * lenWords e.2.body.length ≤ replayBytes then some e else d
  | none => d

/-- It leaves, where the port is up. (Log: 2 DESIGN CHOICE, 239 DEDUCED) -/
def State.outOne (s : State) (p : Port) : State :=
  if s.portUp p then
    match s.nextOut p with
    | none => s
    | some e =>
      let t := s.setPort p { s.port p with waitq := (s.port p).waitq.erase e }
      { t with wire := t.wire ++ [e.2] }.countOut e.2
  else s

/-- Nothing leaves a port that is not ACTIVE, and before POS is valid the device originates only NACKs, on the upstream port (R174). (Log: 46 DEDUCED) -/
def State.maySend (s : State) (p : Port) (plane typ : Nat) : Bool :=
  s.portUp p && (s.flag R.LNK_PROTO.POS_VALID || (plane == 1 && typ == 0x0F && p == .up))

/-- A message of the device's own whose trailer is the right one under a mask, with the next SEQ of its stream (R176). -/
def State.transmitMasked (s : State) (p : Port) (plane typ rev dest : Nat) (air : BitVec 32) (body : List Byte) (mask : BitVec 32) : State :=
  if s.maySend p plane typ then
    let k := streamKey p plane s.srcPos dest
    let q := sparseGet 0 s.txSeq k
    { s with txSeq := sparseSet 0 s.txSeq k ((q + 1) % 65536) }.emit
      ⟨p, plane, typ, rev, false, false, 0, dest, s.srcPos, q, air, body, crc32c (padBody body) ^^^ mask, false⟩
  else s

/-- Put a message of the device's own on a port (R170, R176). (Log: 44 DEDUCED, 46 DEDUCED, 220 DESIGN CHOICE, 221 DEDUCED) -/
def State.transmit (s : State) (p : Port) (plane typ rev dest : Nat) (air : BitVec 32) (body : List Byte) : State :=
  s.transmitMasked p plane typ rev dest air body 0

/-- The fewest layers that UP_DL has shown from a tick on (R164). (Log: 242 DESIGN CHOICE) -/
def State.layersSince (s : State) (a : Nat) : Nat :=
  (s.lnk.degHist.filter (fun e => decide (a < e.1))).foldl (fun m e => min m e.2) (s.get R.LNK_DEG.UP_DL)

-- Answers (R177, R178)

/-- The 24-byte body of an ACK or NACK (R177). -/
def answerBody (a : Asker) (reason off detail : Nat) : List Byte :=
  leBytes 2 a.seq ++ leBytes 1 a.plane ++ leBytes 1 a.typ ++ leBytes 1 reason ++ leBytes 3 0 ++ leBytes 4 off
    ++ leBytes 4 a.air.toNat ++ leBytes 8 detail

/-- FIELD_OFF where no single field failed (R177). -/
def noField : Nat := 0xFFFFFFFF

/-- Queue an answer, which takes SRC, SEQ and its trailer as it is sent; beyond 1,024 it is discarded and counted (R178). No ACK or NACK is ever answered. -/
def State.answer (s : State) (a : Asker) (typ reason off detail : Nat) : State :=
  if a.plane == 1 && (a.typ == 0x0E || a.typ == 0x0F) then s
  else if s.answers.length < 1024 then
    { s with answers := s.answers ++ [⟨a.port, 1, typ, 1, false, false, 0, a.src, 0, 0, 0, answerBody a reason off detail, 0, false⟩] }
  else { s with lost := s.lost + 1 }.count R.LNK_CNT_NACKLOST.LOST R.LNK_PCNTOVF.OVF 3

/-- An ACK with its DETAIL. -/
def State.ackWith (s : State) (a : Asker) (detail : Nat) : State := s.answer a 0x0E 0 noField detail

def State.ack (s : State) (a : Asker) : State := s.ackWith a 0

/-- A NACK of a reason code (R215) that names no single field. -/
def State.nack (s : State) (a : Asker) (reason : Nat) : State := s.answer a 0x0F reason noField 0

/-- A NACK that names the first failing field. -/
def State.nackAt (s : State) (a : Asker) (reason off : Nat) : State := s.answer a 0x0F reason off 0

/-- The final answer of a CRITICAL: SEC_LASTCMD shows its reason code while that command is the last (R477). (Log: 166 DEDUCED) -/
def State.critAnswer (s : State) (a : Asker) (typ reason off detail : Nat) : State :=
  let t := s.answer a typ reason off detail
  if s.sec.last = some a then t.put R.SEC_LASTCMD.REASON reason else t

def State.critAck (s : State) (a : Asker) : State := s.critAnswer a 0x0E 0 noField 0
def State.critNackAt (s : State) (a : Asker) (reason off : Nat) : State := s.critAnswer a 0x0F reason off 0
def State.critNack (s : State) (a : Asker) (reason : Nat) : State := s.critNackAt a reason noField

/-- The oldest unsent answer that may leave does; a NACK counts in LNK_CNT_NACK and shows in LNK_NACKLAST as it leaves. The others stay unsent,
those that wait for POS or their port among them (R174, R178, R216). (Log: 2 DESIGN CHOICE, 45 DEDUCED, 46 DEDUCED) -/
def State.drainAnswer (s : State) : State :=
  let free (m : Sent) : Bool := s.maySend m.port 1 m.typ
  match s.answers.find? free with
  | none => s
  | some m =>
    let t := { s with answers := s.answers.eraseP free }.transmit m.port 1 m.typ m.rev m.dest m.air m.body
    if s.wire.length < t.wire.length then t.countOut m else t

-- Reason codes (R215)

def rcPlane : Nat := 0x01
def rcType : Nat := 0x02
def rcRev : Nat := 0x03
def rcLength : Nat := 0x04
def rcDest : Nat := 0x05
def rcUnreach : Nat := 0x06
def rcCrc : Nat := 0x07
def rcRange : Nat := 0x11
def rcOverlap : Nat := 0x12
def rcDup : Nat := 0x13
def rcCarrier : Nat := 0x14
def rcLayer : Nat := 0x15
def rcLimit : Nat := 0x16
def rcFormat : Nat := 0x17
def rcRegion : Nat := 0x18
def rcDataCrc : Nat := 0x19
def rcFeature : Nat := 0x21
def rcSheafFormat : Nat := 0x22
def rcSheafHash : Nat := 0x23
def rcSheafSig : Nat := 0x24
def rcSheafClass : Nat := 0x25
def rcEnvelope : Nat := 0x26
def rcResource : Nat := 0x27
def rcState : Nat := 0x28
def rcPrecond : Nat := 0x29
def rcBoundary : Nat := 0x2A
def rcNotRunning : Nat := 0x2B
def rcSchedOwned : Nat := 0x2C
def rcStopCancelled : Nat := 0x2D
def rcBusy : Nat := 0x2E
def rcLate : Nat := 0x31
def rcEarly : Nat := 0x32
def rcHorizon : Nat := 0x33
def rcBudget : Nat := 0x34
def rcNoTarget : Nat := 0x35
def rcStepped : Nat := 0x3A
def rcTag : Nat := 0x41
def rcReplay : Nat := 0x42
def rcExhausted : Nat := 0x43
def rcUnwrap : Nat := 0x44
def rcAttestExh : Nat := 0x45
def rcRollback : Nat := 0x46
def rcImageSig : Nat := 0x47
def rcDram : Nat := 0x51
def rcLogBusy : Nat := 0x52
def rcInternal : Nat := 0xE0
def rcNackLost : Nat := 0xF0

-- Alarms (R202)

/-- 100 ms in tick-clock cycles. -/
def hundredMs : Nat := 49152000

/-- The 32-byte ALARM body (R202). -/
def alarmBody (code sev count : Nat) (nt : NetTime) (detail : Nat) : List Byte :=
  leBytes 2 code ++ leBytes 1 sev ++ leBytes 1 0 ++ leBytes 4 count ++ leBytes 6 nt.sec ++ leBytes 4 nt.ns
    ++ leBytes 2 nt.frac ++ leBytes 4 0 ++ leBytes 8 detail

/-- The latest held body with its COUNT. -/
def withCount (b : List Byte) (n : Nat) : List Byte := b.take 4 ++ leBytes 4 n ++ b.drop 8

/-- What an alarm code that has raised nothing holds. -/
def noAlarm : AlarmSlot := ⟨0, 0, [], 0⟩

/-- 100 ms have passed since the last ALARM of a code, or none has gone out (R202). -/
def State.alarmDue (s : State) (a : AlarmSlot) : Bool := a.last == 0 || decide (a.last + hundredMs ≤ s.tim.cycles + 1)

/-- An occurrence of an alarm code: sent at once when 100 ms have passed since the last ALARM of its code and nothing is
held, held otherwise, and held while no ALARM can leave (R202, R174). (Log: 43 DEDUCED, 67 DEDUCED) -/
def State.alarm (s : State) (code sev detail : Nat) : State :=
  let a := sparseGet noAlarm s.alarms code
  let body := alarmBody code sev 1 s.tim.now detail
  if a.held == 0 && s.alarmDue a && s.maySend .up 1 0x05 then
    { s with alarms := sparseSet noAlarm s.alarms code ⟨s.tim.cycles + 1, 0, [], 0⟩ }.transmit .up 1 0x05 1 0x80 s.airRef body
  else { s with alarms := sparseSet noAlarm s.alarms code ⟨a.last, a.held + 1, body, s.airRef⟩ }

-- Tally triggers (R481 to R485)

/-- Codes that are never suppressed (R482). -/
def talMandatory (code : Nat) : Bool := [0x0001, 0x0002, 0x0011, 0x0040, 0x00F0, 0x00F1].contains code

/-- Addresses of the snapshot words of a profile (R482, R483). -/
def talProfile (code : Nat) : List Nat :=
  if code = 0x0011 ∨ code = 0x0012 then
    [R.TIM_STATUS.w.addr, R.TIM_OFFSET.w.addr, R.TIM_MPD.w.addr, R.TIM_FREQ.w.addr, R.TIM_EPOCH.w.addr,
     R.TIM_CNT_SYNC.w.addr, R.TIM_CNT_DISC.w.addr, R.TIM_PPSPHASE.w.addr, R.TIM_FSYNCPOS.w.addr, R.SHF_STATE.w.addr, R.SHF_NOW.w.addr]
  else if [0x0003, 0x0010, 0x0020, 0x0021, 0x0022, 0x0023, 0x0024, 0x0030, 0x0031].contains code then
    [R.SHF_STATE.w.addr, R.SHF_NOW.w.addr, R.SHF_BOUNDS.w.addr, R.SHF_ID_LO.w.addr, R.SHF_ID_HI.w.addr, R.SHF_CNT_LATE.w.addr,
     R.SHF_CNT_FILL.w.addr, R.SHF_CNT_TILEBRK.w.addr, R.TXC_TOTPWR.w.addr, R.TIM_STATUS.w.addr, R.LNK_PSTAT.w.addr]
  else []

/-- SHF_NOW as it reads: the frame and subframe of the present tick (R21) beside the furrow that runs. -/
def State.shfNow (s : State) : Word :=
  R.SHF_NOW.SUBFRAME.insert (R.SHF_NOW.FRAME.insert (s.word R.SHF_NOW.w.addr) (s.frameOf s.tick)) (s.subOf s.tick)

/-- A register as a snapshot takes it: the sheaf ID whole, as applied, whatever a read has captured (R13). (Log: 234 DEDUCED) -/
def State.snapWord (s : State) (addr : Nat) : Nat :=
  if addr = R.SHF_NOW.w.addr then s.shfNow.toNat else if addr = R.SHF_ID_HI.w.addr then s.hdr 52 4 else (s.word addr).toNat

/-- The snapshot of an event, one list of 44 bytes per continuation (R483). -/
def State.snapshot (s : State) (code : Nat) : List (List Byte) :=
  if code = 0x0001 ∨ code = 0x0032 then
    let v := ((List.range 32).map (fun i => leBytes 2 (s.get (R.MON_RES_n.VALUE (64 + i))))).flatten ++ leBytes 24 0
    [v.take 44, v.drop 44]
  else
    match talProfile code with
    | [] => []
    | l => [(l.map (fun a => leBytes 4 (s.snapWord a))).flatten]

/-- DETAIL padded to its 24 bytes. -/
def pad (n : Nat) (l : List Byte) : List Byte := (l ++ List.replicate n 0).take n

/-- The event of a trigger, with SEQ, PCC, OPTIME and snapshot as of now (R478, R481, R483). -/
def State.talEvent (s : State) (code : Nat) (detail : List Byte) : TalEvent :=
  let ntv := s.tim.everLocked
  let airv := s.running
  ⟨s.tal.seq, s.get R.TAL_PCC.PCC, s.get R.TAL_OPTIME.OPTIME, code, talMandatory code, ntv, airv,
   if ntv then s.tim.now else ⟨0, 0, 0⟩, if ntv then s.get R.TIM_EPOCH.EPOCH else 0,
   if airv then BitVec.ofNat 32 (s.frameOf s.tick + s.subOf s.tick * 1024) else 0,
   sparseGet 0 s.tal.suppr code, pad 24 detail, s.snapshot code⟩

/-- Set the queue and its length in TAL_STAT. A freeze of R488 ends when the queue holds 48 events. -/
def State.setQueue (s : State) (q : List TalEvent) : State :=
  let t := { s with tal := { s.tal with queue := q } }.put R.TAL_STAT.QUEUE q.length
  if t.flag R.TAL_STAT.FROZEN && decide (48 ≤ q.length) then (t.put R.TAL_STAT.FROZEN 0).put R.TAL_STAT.TORN 1 else t

/-- Freeze the log (R488). A freeze that begins with 48 events in the queue ends at once. -/
def State.freeze (s : State) : State := (s.put R.TAL_STAT.FROZEN 1).setQueue s.tal.queue

/-- A trigger of a tally code: suppressed (R484), queued, or dropped (R485). -/
def State.tally (s : State) (code : Nat) (detail : List Byte) : State :=
  let last := sparseGet 0 s.tal.lastRec code
  if !talMandatory code && decide (last ≠ 0 ∧ s.tim.cycles + 1 < last + hundredMs) then
    { s with tal := { s.tal with suppr := sparseSet 0 s.tal.suppr code (sparseGet 0 s.tal.suppr code + 1) } }.count
      R.TAL_CNT_SUPPR.SUPPR R.TAL_CNTOVF.OVF 1
  else
    let e := s.talEvent code detail
    let t := { s with tal := { s.tal with seq := (s.tal.seq + 1) % 2 ^ 32 } }
    if s.tal.queue.length < (if talMandatory code then 64 else 56) then
      { t with tal := { t.tal with
          suppr := sparseSet 0 t.tal.suppr code 0
          lastRec := sparseSet 0 t.tal.lastRec code (s.tim.cycles + 1) } }.setQueue (s.tal.queue ++ [e])
    else t.count R.TAL_CNT_DROP.DROP R.TAL_CNTOVF.OVF 2

-- ALERT_N

/-- Hold or release ALERT_N for a cause of R69. -/
def State.alertN (s : State) (cause : Nat) (on : Bool) : State :=
  { s with boot := { s.boot with alerts := if on then (if s.boot.alerts.contains cause then s.boot.alerts else s.boot.alerts ++ [cause])
                                           else s.boot.alerts.filter (· != cause) } }

/-- ALERT_N is driven low: a boot or link cause holds, the tally's MEDIA mark (R494), or a trip or latch with ALERT (R355). -/
def State.alertLow (s : State) : Bool := !s.boot.alerts.isEmpty || s.flag R.TAL_STAT.MEDIA || !s.rfe.alertLow.isEmpty

/-- The SECURITY alarm of R476, with its tally record where the rule asks for one. (Log: 206 DEDUCED, 207 DEDUCED) -/
def State.security (s : State) (event cmd sev : Nat) : State :=
  (s.tally 0x0040 (leBytes 8 (event + cmd % 256 * 256))).alarm 0x0040 sev (event + cmd % 256 * 256)

end Sys2Proof.Machine
end

