-- ==== Sys2Proof/Machine/Flags.lean ====
section
/-! DEFINITION. The flag computations: bit masks, sticky event bits with the alarm they raise, and the mute causes of R34. -/

namespace Sys2Proof.Machine

/-- Set or clear bit `i` of a mask. -/
def maskSet (m i : Nat) : Nat := if bit m i then m else m + 2 ^ i
def maskClr (m i : Nat) : Nat := if bit m i then m - 2 ^ i else m

/-- Bits of a mask below `n`, as a list. -/
def maskList (m n : Nat) : List Nat := (List.range n).filter (bit m)

/-- Number of bits of a mask below `n` that are set. -/
def popcount (m n : Nat) : Nat := (maskList m n).length

/-- Bits of `a` that `b` does not have, below `n`. -/
def maskLess (a b n : Nat) : Nat := (maskList a n).foldl (fun r i => if bit b i then r else r + 2 ^ i) 0

/-- Bits that both masks have, below `n`. -/
def maskAnd (a b n : Nat) : Nat := (maskList a n).foldl (fun r i => if bit b i then r + 2 ^ i else r) 0

/-- Bits that either mask has, below `n`. -/
def maskOr (a b n : Nat) : Nat := ((List.range n).filter (fun i => bit a i || bit b i)).foldl (fun r i => r + 2 ^ i) 0

/-- The severity of an alarm whose SEV the spec does not state is a free value from 0 to 2 (R202). (Log: 42 DESIGN CHOICE) -/
def State.freeSev (code : Nat) : Nat := Config.alarmSev code % 3

/-- Set a sticky LNK_PEVENT bit; a bit newly set raises LINK_EVENT with the bits newly set in DETAIL [6:0] (R202). (Log: 42 DESIGN CHOICE) -/
def State.linkEvent (s : State) (i : Nat) : State :=
  if bit (s.get R.LNK_PEVENT.EVENTS) i then s
  else (s.setBit R.LNK_PEVENT.EVENTS i).alarm 0x0031 (State.freeSev 0x0031) (2 ^ i)

end Sys2Proof.Machine
end

