-- ==== Sys2Proof/Machine/Furrow.lean ====
section
/-! DEFINITION. The furrows of a sheaf (R121 to R125, R137): the 64-bit actions, the tables that FINDEX selects, and what a run
makes of them, subframe after subframe. -/

namespace Sys2Proof.Machine

/-- A furrow action (R121). -/
structure FAct where
  tick : Nat
  cls : Nat
  unit : Nat
  op : Nat
  serve : Nat
  car : Nat
  arg : Nat
  deriving DecidableEq, Repr

/-- The fields of an action's word (R121). -/
def actOf (w : Nat) : FAct :=
  { tick := bits w 63 45, cls := bits w 44 40, unit := bits w 39 32, op := bits w 31 28, serve := bits w 27 26, car := bits w 25 23,
    arg := bits w 22 0 }

/-- The tables of a FURROWS section. Each is a sequence of 64-bit words; where the tables begin, how many there are and how many words
each has, the spec does not say. (Log: 252 DESIGN CHOICE) -/
def furrowsOf (b : List Byte) : List (List FAct) :=
  (List.range (Config.furrowCount b)).map (fun i =>
    let t := Config.furrowTable b i
    (List.range t.2).map (fun j => actOf (leAt b (t.1 + 8 * j) 8)))

def State.furrows (s : State) : List (List FAct) := furrowsOf (s.sect 2)

/-- The furrow of a subframe, by its number in the cycle (R125). -/
def State.furrowOf (s : State) (k : Nat) : List FAct := (s.furrows.drop (leAt (s.sect 3) (k % 10240 % s.hdr 40 2) 1)).head?.getD []

/-- The subframe whose air time an action serves, counted so that its own is 1 (R121). -/
def FAct.served (a : FAct) : Nat := if a.serve = 1 then 2 else if a.serve = 2 then 0 else 1

/-- SYMBOL and SLOT of an action's ARG: where class 5 and class 6 hold them, else [3:0] and [6:4] (R224, R233, R239, R267, R290). -/
def FAct.sym (a : FAct) : Nat := match a.cls with | 5 => bits a.arg 6 3 | 6 => bits a.arg 5 2 | _ => bits a.arg 3 0
def FAct.slot (a : FAct) : Nat := match a.cls with | 5 => bits a.arg 9 7 | 6 => bits a.arg 8 6 | _ => bits a.arg 6 4

/-- The actions that serve the air time of a subframe of the cycle (R121, R137). -/
def State.serving (s : State) (k : Nat) : List FAct :=
  (s.furrowOf k).filter (fun a => a.serve == 0) ++ (s.furrowOf (k + 10239)).filter (fun a => a.serve == 1)
    ++ (s.furrowOf (k + 1)).filter (fun a => a.serve == 2)

/-- Some furrow of the sheaf holds a CAPTURE for a gleaner (R321). (Log: 124 DEDUCED) -/
def State.captures (s : State) (g : Nat) : Bool := s.furrows.any (fun f => f.any (fun a => a.cls == 9 && a.unit == g))

/-- MAXCHIPS of the SEND that serves a chain and a boundary, by its cycle position (R361); 0 where none does. -/
def State.maxChips (s : State) (chain pos : Nat) : Nat :=
  (((s.serving (pos / subTicks)).find? (fun a => a.cls == 12 && a.op == 0 && a.unit == chain
    && symStart (s.scs a.car) a.slot a.sym == pos % subTicks)).map (fun a => bits a.arg 16 7)).getD 0

/-- The COVAR of a MODE 0 descriptor that serves a carrier's symbol, by its cycle position (R304, R305). -/
def State.soundCovar (s : State) (car pos : Nat) : Option FAct :=
  (s.serving (pos / subTicks)).find? (fun a => a.cls == 19 && a.op == 0 && a.car == car && !bit (s.param a.arg) 7
    && symStart (s.scs car) (bits (s.param a.arg) 6 4) (bits (s.param a.arg) 3 0) == pos % subTicks)

/-- The descriptor it names: 1 + its PARAM index, or 0. -/
def State.soundSlotAt (s : State) (car pos : Nat) : Nat := ((s.soundCovar car pos).map (fun a => 1 + a.arg)).getD 0

-- The schedule laid out over consecutive subframes

/-- The actions of the first `n` subframes of the index, in firing order, each with the number of its subframe. -/
def State.planOf (s : State) (n : Nat) : List (Nat × FAct) := (List.range n).flatMap (fun k => (s.furrowOf k).map (fun a => (k, a)))

/-- One period of the index and four subframes more: every pair of actions whose effects meet lies in it, the wrap of the index included. -/
def State.plan (s : State) : List (Nat × FAct) := s.planOf (s.hdr 40 2 + 4)

/-- The actions of one whole period within it, two subframes from its beginning. -/
def State.midPlan (s : State) : List (Nat × FAct) := s.plan.filter (fun x => decide (2 ≤ x.1) && decide (x.1 < s.hdr 40 2 + 2))

/-- The tick at which an action fires; subframe 0 begins at tick 491,520 here. -/
def fireAt (x : Nat × FAct) : Nat := (x.1 + 1) * subTicks + x.2.tick

/-- The air tick of the symbol that an action names (R121, R22). -/
def State.boundOf (s : State) (x : Nat × FAct) : Nat := (x.1 + x.2.served) * subTicks + symStart (s.scs x.2.car) x.2.slot x.2.sym

/-- A relation holds between every element of a list and every later one. -/
def pairsAll (p : α → α → Bool) : List α → Bool
  | [] => true
  | x :: l => l.all (p x) && pairsAll p l

/-- The actions of a class and operation. -/
def ofOp (l : List (Nat × FAct)) (c o : Nat) : List (Nat × FAct) := l.filter (fun x => x.2.cls == c && x.2.op == o)

-- Engine windows and horizons of a sheaf (R235, R236, R238)

/-- T of R235 for the spacing of the GRID carrier. -/
def engWin (scs : Nat) : Nat := (2 * (normalLen scs + 256) + 4) / 5 + 128

/-- A(e) - H(e) of the sheaf (R236, R238). -/
def State.hlead (s : State) : Nat :=
  let b := s.record 2
  if leAt b 0 1 = 0 then 1472 else 352 + 2 * engWin (s.scs (leAt b 2 1)) + leAt b 4 4

end Sys2Proof.Machine
end

