-- ==== Sys2Proof/Machine/Operands.lean ====
section
/-! DEFINITION. The operand forms of the commands: a received message and the checks of R172 in their order, forwarding
(R207), acceptance (R174, R178, R33), a critical command as a message (R203), and a furrow action (R121, R137). -/

namespace Sys2Proof.Machine

-- Message types

/-- What a message type admits: body bytes from `lo` to `hi`, and the ports on which it is accepted (R545). -/
structure TypeDef where
  lo : Nat
  hi : Nat
  up : Bool
  cas : Bool
  deriving DecidableEq, Repr

/-- The largest body a message of 32,768 words holds. -/
def maxBody : Nat := 262124

/-- The types of R181, R187, R200, R204 and R205 at a revision; none where PLANE and TYPE define nothing (R212). -/
def typeDef (plane typ rev : Nat) : Option TypeDef :=
  match plane, typ with
  | 1, 0x01 => some ⟨0, 0, true, false⟩
  | 1, 0x02 => some ⟨8, 8, true, false⟩
  | 1, 0x03 => some ⟨12, 264, false, true⟩
  | 1, 0x04 => some ⟨12, 264, true, false⟩
  | 1, 0x05 => some ⟨32, 32, false, true⟩
  | 1, 0x06 => some ⟨40, 4128, true, false⟩
  | 1, 0x07 => some ⟨40, 40, true, false⟩
  | 1, 0x08 => some ⟨8, maxBody, false, true⟩
  | 1, 0x0E => some ⟨24, 24, true, true⟩
  | 1, 0x0F => some ⟨24, 24, true, true⟩
  | 2, 0x01 => some ⟨20, 1028, true, false⟩
  | 2, 0x02 => some ⟨20, 1028, true, false⟩
  | 2, 0x03 => some ⟨264, 4164, true, false⟩
  | 2, 0x04 => if 2 ≤ rev then some ⟨20, 1028, true, false⟩ else none
  | 2, 0x05 => if 2 ≤ rev then some ⟨4, 132, true, false⟩ else none
  | 2, 0x06 => some ⟨16, 16, true, false⟩
  | 2, 0x07 => some ⟨16, 16, true, false⟩
  | 2, 0x08 => some ⟨40, 16392, true, false⟩
  | 2, 0x09 => if 3 ≤ rev then some ⟨8, 8, true, false⟩ else none
  | 2, 0x0A => if 3 ≤ rev then some ⟨4, maxBody, false, true⟩ else none
  | 2, 0x0B => some ⟨16, 16, false, true⟩
  | 3, 0x01 => some ⟨44, maxBody, true, false⟩
  | 3, 0x02 => some ⟨44, maxBody, false, true⟩
  | 3, 0x03 => some ⟨20, maxBody, false, true⟩
  | 3, 0x04 => some ⟨65, maxBody, false, true⟩
  | 3, 0x05 => some ⟨65, maxBody, false, true⟩
  | 4, 0x01 => some ⟨52, 136, true, true⟩
  | 5, 0x01 => some ⟨24, maxBody, true, false⟩
  | 5, 0x02 => some ⟨24, 24, true, false⟩
  | 5, 0x03 => some ⟨24, maxBody, false, true⟩
  | 5, 0x04 => some ⟨28, 28, true, true⟩
  | _, _ => none

-- Header fields (R171)

def Msg.rev (m : Msg) : Nat := bits m.flags.toNat 1 0
def Msg.ackReq (m : Msg) : Bool := bit m.flags.toNat 2
def Msg.replay (m : Msg) : Bool := bit m.flags.toNat 3
def Msg.hop (m : Msg) : Nat := bits m.hops.toNat 1 0

/-- Header bytes 0 to 13, over which HCRC is taken (R170). (Log: 6 DESIGN CHOICE) -/
def Msg.hdrBytes (m : Msg) (plane typ : Nat) : List Byte :=
  [BitVec.ofNat 8 plane, BitVec.ofNat 8 typ, m.flags, m.hops, m.dest, m.src]
    ++ leBytes 2 m.seq.toNat ++ leBytes 4 m.air.toNat ++ leBytes 2 m.lenW.toNat

/-- The sender, as an answer addresses it (R177). -/
def Msg.asker (m : Msg) (plane typ : Nat) : Asker := ⟨m.port, m.src.toNat, m.seq.toNat, plane, typ, m.air⟩

/-- Check 2 of R172: the reason code and offset of the first failing header field. -/
def Msg.check2 (m : Msg) (plane typ : Nat) : Option (Nat × Nat) :=
  if plane < 1 ∨ 5 < plane then some (rcPlane, 0)
  else match typeDef plane typ m.rev with
  | none => some (rcType, 1)
  | some t =>
    if !(if m.port == .up then t.up else t.cas) then some (rcType, 1)
    else if m.rev = 0 ∨ bits m.flags.toNat 7 4 ≠ 0 then some (rcRange, 2)
    else if bits m.hops.toNat 7 2 ≠ 0 then some (rcRange, 3)
    else if ¬ (m.dest.toNat ≤ 3 ∨ m.dest.toNat = 0x0F ∨ m.dest.toNat = 0x80) then some (rcRange, 4)
    else if ¬ (m.src.toNat ≤ 3 ∨ m.src.toNat = 0x80 ∨ (m.src.toNat = 0x0F ∧ plane = 1 ∧ typ = 0x0F)) then some (rcRange, 5)
    else if 9 < airSub m.air ∨ 13 < airSym m.air ∨ bits m.air.toNat 31 23 ≠ 0 then some (rcRange, 8)
    else if (plane = 1 ∨ plane = 4 ∨ plane = 5) ∧ m.air ≠ 0 ∧ ¬ (plane = 1 ∧ typ = 0x05) then some (rcRange, 8)
    else if m.lenW.toNat < lenWords t.lo ∨ lenWords t.hi < m.lenW.toNat then some (rcLength, 12)
    else none

/-- The revision of the hop a message arrives on (R211). -/
def State.hopRev (s : State) : Port → Nat
  | .up => s.get R.LNK_PROTO.UP_REV
  | .cas => s.get R.LNK_PROTO.CAS_REV

-- Addressing (R207)

/-- What R207 does with a message. -/
inductive Route where
  | consume | both | forward (p : Port) | refuse (reason : Nat)
  deriving DecidableEq, Repr

/-- The position by which a message is routed: POS, or the HOP of a host-originated message while POS is not valid (R174); none else. (Log: 47 DEDUCED) -/
def State.posFor (s : State) (m : Msg) : Option Nat :=
  if s.flag R.LNK_PROTO.POS_VALID then some (s.get R.LNK_PROTO.POS)
  else if m.port == .up && m.src == 0x80 then some m.hop else none

/-- What a device consumes from its cascade port: PARTIAL, ACK and NACK (R207). -/
def cascadeType (plane typ : Nat) : Bool := (plane == 3 && typ == 0x04) || (plane == 1 && (typ == 0x0E || typ == 0x0F))

/-- R207. -/
def State.route (s : State) (plane typ : Nat) (m : Msg) : Route :=
  let pos := s.posFor m
  let d := m.dest.toNat
  match m.port with
  | .up =>
    if d = 0x80 then .refuse rcDest
    else if d = 0x0F then (if s.portUp .cas then .both else .consume)
    else if pos = some d then .consume
    else if d < pos.getD 4 then .refuse rcDest
    else if s.portUp .cas then .forward .cas else .refuse rcUnreach
  | .cas =>
    if d = 0x80 then (if s.portUp .up then .forward .up else .refuse rcUnreach)
    else if pos = some d ∧ cascadeType plane typ then .consume
    else .refuse rcDest

/-- A received message as it goes on: HOP incremented, its trailer as given (R170, R207). (Log: 269 DESIGN CHOICE) -/
def Msg.onward (m : Msg) (p : Port) (plane typ : Nat) (body : List Byte) (crc : BitVec 32) : Sent :=
  ⟨p, plane, typ, m.rev, m.ackReq, m.replay, (m.hop + 1) % 4, m.dest.toNat, m.src.toNat, m.seq.toNat, m.air, body, crc, true⟩

/-- Send a received message on. C- and U-plane messages go at once; S-, M- and D-plane messages take the next egress bytes that are
free (R208). (Log: 220 DESIGN CHOICE, 239 DEDUCED, 269 DESIGN CHOICE) -/
def State.sendOn (s : State) (p : Port) (plane typ : Nat) (m : Msg) (body : List Byte) (crc : BitVec 32) : State :=
  let w := m.onward p plane typ body crc
  if plane = 2 ∨ plane = 3 then (s.emit w).countOut w
  else s.setPort p { s.port p with waitq := (s.port p).waitq ++ [(0, w)] }

/-- A U-plane message carries a layer that its egress hop does not carry (R164). (Log: 242 DESIGN CHOICE) -/
def State.shedOn (s : State) (p : Port) (plane typ : Nat) (m : Msg) : Bool :=
  s.shf.applied.isSome && plane == 3 &&
    (match p, typ with
     | .cas, 0x01 => decide (s.get R.LNK_DEG.CAS_DL ≤ leAt m.body 6 1)
     | .up, 0x02 => decide (s.get R.LNK_DEG.UP_UL ≤ leAt m.body 6 1)
     | .up, 0x05 => decide (s.get R.LNK_DEG.UP_UL ≤ leAt m.body 6 1)
     | _, _ => false)

/-- Forward a message as it is, its trailer untouched, where its egress hop carries its layer. -/
def State.forwardMsg (s : State) (p : Port) (plane typ : Nat) (m : Msg) : State :=
  if s.shedOn p plane typ m then s else s.sendOn p plane typ m m.body m.crc

/-- Forward a message whose body the device has changed (R104): the trailer changes by what the change of the body makes of it, so that a
right trailer stays right and a wrong one wrong. (Log: 240 DEDUCED) -/
def State.sendChanged (s : State) (p : Port) (plane typ : Nat) (m : Msg) (body : List Byte) : State :=
  s.sendOn p plane typ m body (crc32c body ^^^ crc32c m.body ^^^ m.crc)

-- Sequence (R176)

def Stream.is (t : Stream) (m : Msg) (plane : Nat) : Bool :=
  t.port == m.port && t.plane == plane && t.src == m.src.toNat && t.dest == m.dest.toNat

/-- The SEQ values remembered for the stream of a message, newest first. -/
def State.seqs (s : State) (m : Msg) (plane : Nat) : List Nat := ((s.streams.find? (·.is m plane)).map (·.seqs)).getD []

/-- The latest of some SEQ values by serial-number arithmetic. -/
def latestSeq : List Nat → Option Nat
  | [] => none
  | q :: r => match latestSeq r with
    | none => some q
    | some p => some (if (q + 65536 - p) % 65536 < 32768 then q else p)

/-- Enter a SEQ into its stream's memory of 1,024, and count the values it skips beyond the latest in LNK_CNT_SEQGAP; an older one, as a
replay may bring, skips none. -/
def State.remember (s : State) (m : Msg) (plane : Nat) : State :=
  let l := s.seqs m plane
  let q := m.seq.toNat
  let d := match latestSeq l with
    | some p => (q + 65536 - p) % 65536
    | none => 0
  let t : State := { s with streams := s.streams.filter (fun (t : Stream) => !t.is m plane) ++ [⟨m.port, plane, m.src.toNat, m.dest.toNat, (q :: l).take 1024⟩] }
  if 2 ≤ d ∧ d < 32768 then t.countBy R.LNK_CNT_SEQGAP.GAP R.LNK_PCNTOVF.OVF 5 (d - 1) else t

-- Checks 1 to 6 of R172

/-- What becomes of a message at checks 1 to 6: dealt with whole, or consumed. -/
inductive Rx where
  | done (s : State)
  | take (s : State)
  deriving DecidableEq, Repr

/-- Hold an M-plane message while the firmware restarts: up to 256, then discard and count (R62). (Log: 16 DESIGN CHOICE) -/
def State.holdMsg (s : State) (i : Instr) : State :=
  if s.boot.heldMsgs.length < 256 then { s with boot := { s.boot with heldMsgs := s.boot.heldMsgs ++ [i] } }
  else s.count R.LNK_CNT_MDROP.MDROP R.LNK_PCNTOVF.OVF 7

/-- An M-plane message that this device would consume waits while the firmware restarts; any other command takes its effect. -/
def State.mplane (s : State) (i : Instr) (typ : Nat) (m : Msg) (f : State) : Out :=
  if s.boot.restarting && s.portUp m.port && (s.route 1 typ m == .consume || s.route 1 typ m == .both) then .next (s.holdMsg i) else .next f

/-- Checks 5 and 6 of R172, on a message that this device consumes. (Log: 204 DEDUCED) -/
def State.consume (s : State) (plane typ : Nat) (m : Msg) : Rx :=
  if crc32c m.body ≠ m.crc then
    .done ((s.count R.LNK_CNT_CRC.CRC R.LNK_PCNTOVF.OVF 1).nackAt (m.asker plane typ) rcCrc (8 * m.lenW.toNat - 4))
  else if (s.seqs m plane).contains m.seq.toNat then .done (s.count R.LNK_CNT_DUP.DUP R.LNK_PCNTOVF.OVF 4)
  else .take (s.remember m plane)

-- The hunt (R173)

/-- The header fields of 16 bytes after PLANE and TYPE (R171). -/
def headerOf (p : Port) (h : List Byte) : Msg :=
  ⟨p, BitVec.ofNat 8 (leAt h 2 1), BitVec.ofNat 8 (leAt h 3 1), BitVec.ofNat 8 (leAt h 4 1), BitVec.ofNat 8 (leAt h 5 1),
    BitVec.ofNat 16 (leAt h 6 2), BitVec.ofNat 32 (leAt h 8 4), BitVec.ofNat 16 (leAt h 12 2), BitVec.ofNat 16 (leAt h 14 2), [], 0⟩

/-- 16 bytes pass HCRC and check 2 as a header. -/
def huntHeaderOk (p : Port) (h : List Byte) : Bool :=
  let m := headerOf p h
  decide (16 ≤ h.length) && crc16 (h.take 14) == m.hcrc && (m.check2 (leAt h 0 1) (leAt h 1 1)).isNone

/-- A message as its bytes. -/
def Msg.bytes (m : Msg) (plane typ : Nat) : List Byte :=
  m.hdrBytes plane typ ++ leBytes 2 m.hcrc.toNat ++ m.body ++ leBytes 4 m.crc.toNat

/-- The message that `h`, a header and what follows it, holds. -/
def msgOf (p : Port) (h : List Byte) : Msg :=
  let n := 8 * leAt h 12 2
  { headerOf p h with body := (h.drop 16).take (n - 20), crc := BitVec.ofNat 32 (leAt h (n - 4) 4) }

/-- A CRITICAL message by its fields; the TAG stays within `tail`, and the loft write of LAST passes. -/
def Msg.crit (m : Msg) (disc : Nat) : Crit :=
  ⟨m.port, m.flags, m.hops, m.dest, m.src, m.seq, m.air, m.lenW, m.hcrc, BitVec.ofNat 16 (leAt m.body 2 2), BitVec.ofNat 32 (leAt m.body 4 4),
    BitVec.ofNat 64 (leAt m.body 8 8), m.body.drop (16 + disc), [], m.crc, false⟩

/-- The command of a CRITICAL message (R203, R117, R465). -/
def critInstr (m : Msg) : Instr :=
  match leAt m.body 0 2, leAt m.body 16 1 with
  | 1, 0 => .sheafLoadVerify (m.crit 1)
  | 1, 1 => .sheafLoadVerifyApply (m.crit 1)
  | 1, 2 => .sheafLoadApply (m.crit 1)
  | 1, 3 => .sheafLoadDiscard (m.crit 1)
  | 2, _ => .start (m.crit 0)
  | 3, _ => .stop (m.crit 0)
  | 4, _ => .envelopeChange (m.crit 0)
  | 5, 0 => .keyEnroll (m.crit 1)
  | 5, 1 => .keyRevoke (m.crit 1)
  | 6, _ => .rekey (m.crit 0)
  | 7, _ => .logClear (m.crit 0) ⟨[], [], (none, none), none⟩
  | 8, 0 => .fwInstall (m.crit 1)
  | 8, 1 => .fwConfirm (m.crit 1)
  | 9, _ => .lockWrite (m.crit 0)
  | _, _ => .unknownType 1 6 m

/-- The command of an S-plane message, by the messageType of the PTP message it encloses (R76, R78). -/
def ptpInstr (m : Msg) : Instr :=
  match leAt m.body 8 1 % 16 with
  | 0 => .sync m 0 0 0
  | 8 => .followUp m
  | 9 => .delayResp m
  | 11 => .announce m
  | 1 => .forward 4 1 m 0
  | _ => .ptpMessageDiscarded m

/-- The command of a message (R181, R187, R200, R204, R205). (Log: 270 DESIGN CHOICE) -/
def instrOf (plane typ : Nat) (m : Msg) : Instr :=
  match plane, typ with
  | 1, 0x01 => .keepalive m
  | 1, 0x02 => .regRead m
  | 1, 0x04 => .regWrite m
  | 1, 0x06 => critInstr m
  | 1, 0x07 => .attestReq m
  | 1, 0x0E => .ackOrNackReceived false m
  | 1, 0x0F => .ackOrNackReceived true m
  | 2, 0x01 => .dlSections m
  | 2, 0x02 => .ulSections m
  | 2, 0x03 => .beamWrite m
  | 2, 0x04 => .amend m
  | 2, 0x05 => .revoke m
  | 2, 0x06 => .powerStep m
  | 2, 0x07 => .femState m
  | 2, 0x08 => .tineWeights m
  | 2, 0x09 => .soundReq m
  | 3, 0x01 => .dlData m
  | 3, 0x04 => .partialSum m
  | 4, 0x01 => ptpInstr m
  | 5, 0x01 => .dWrite m
  | 5, 0x02 => .dRead m
  | 5, 0x04 => .dEnd m
  | _, _ => .forward (BitVec.ofNat 8 plane) (BitVec.ofNat 8 typ) m 0

/-- What the receiver makes of a run of payload bytes: the positions that start no message, the messages, whether it still hunts, and the
bytes that settle nothing yet. (Log: 66 DEDUCED) -/
structure Hunt where
  count : Nat
  found : List Instr
  hunting : Bool
  rest : List Byte
  deriving DecidableEq, Repr

/-- R173, over `n` steps of the receiver: a position whose 16 bytes pass HCRC and check 2 starts a message of LEN_W words, which waits until
it is whole; any other counts one, and the next 8-byte position is tried. (Log: 66 DEDUCED) -/
def huntRun (p : Port) : Nat → Bool → List Byte → Hunt
  | 0, h, b => ⟨0, [], h, b⟩
  | n + 1, h, b =>
    if b.length < 16 then ⟨0, [], h, b⟩
    else if huntHeaderOk p (b.take 16) then
      let len := 8 * leAt b 12 2
      if b.length < len then ⟨0, [], h, b⟩
      else
        let r := huntRun p n false (b.drop len)
        { r with found := instrOf (leAt b 0 1) (leAt b 1 1) (msgOf p b) :: r.found }
    else
      let r := huntRun p n true (b.drop 8)
      { r with count := r.count + 1 }

/-- The receiver of a port takes payload bytes; the messages that it finds there are the next commands. (Log: 66 DEDUCED, 270 DESIGN CHOICE) -/
def State.feed (s : State) (p : Port) (b : List Byte) : State :=
  let r := huntRun p (b.length / 8 + 1) (s.port p).hunting b
  let t := (s.countBy R.LNK_CNT_HCRC.HCRC R.LNK_PCNTOVF.OVF 0 r.count).setPort p { s.port p with hunting := r.hunting, rest := r.rest }
  { t with pending := r.found ++ t.pending }

/-- The bytes that the hunt still holds, with what follows them, start a message. (Log: 66 DEDUCED) -/
def State.huntHolds (s : State) (p : Port) (b : List Byte) : Bool :=
  let r := (s.port p).rest
  decide (r ≠ []) && (decide (16 ≤ r.length) || huntHeaderOk p ((r ++ b).take 16))

/-- The receiver is in step again at the header that follows: the bytes that the hunt still held start no message. (Log: 66 DEDUCED) -/
def State.synced (s : State) (p : Port) : State :=
  if (s.port p).hunting ∨ (s.port p).rest ≠ [] then
    (s.countBy R.LNK_CNT_HCRC.HCRC R.LNK_PCNTOVF.OVF 0 (if (s.port p).rest = [] then 0 else 1)).setPort p { s.port p with hunting := false, rest := [] }
  else s

/-- Checks 1 to 3 of R172 and the hunt: the state after a failure; none where they pass. A header that follows a hunt passes over check 2
without an answer (R173). (Log: 46 DEDUCED, 66 DEDUCED) -/
def State.rxHead (s : State) (plane typ : Nat) (m : Msg) : Option State :=
  let p := m.port
  if !s.portUp p then some s
  else if s.huntHolds p (m.bytes plane typ) || crc16 (m.hdrBytes plane typ) != m.hcrc
      || (((s.port p).hunting || (s.port p).rest != []) && (m.check2 plane typ).isSome) then
    some (s.feed p ((s.port p).rest ++ m.bytes plane typ))
  else match m.check2 plane typ with
  | some (r, o) => some (s.nackAt (m.asker plane typ) r o)
  | none => if s.hopRev p < m.rev then some ((s.synced p).nackAt (m.asker plane typ) rcRev 2) else none

/-- Checks 1 to 6 of R172 in their order; `fwd` is how the message goes on where R207 forwards it, and `bcast` says that its type may be
broadcast (R201, R203). (Log: 53 DEDUCED) -/
def State.rxVia (s : State) (plane typ : Nat) (m : Msg) (bcast : Bool) (fwd : Port → State → State) : Rx :=
  match s.rxHead plane typ m with
  | some t => .done t
  | none =>
    let s := s.synced m.port
    if !bcast && m.dest == 0x0F then .done (s.nackAt (m.asker plane typ) rcDest 4)
    else match s.route plane typ m with
    | .refuse r => .done (s.nackAt (m.asker plane typ) r 4)
    | .forward p => .done (fwd p s)
    | .both => (fwd .cas s).consume plane typ m
    | .consume => s.consume plane typ m

/-- Checks 1 to 6 of R172 with the forwarding of R207. -/
def State.rx (s : State) (plane typ : Nat) (m : Msg) : Rx := s.rxVia plane typ m true (fun p s => s.forwardMsg p plane typ m)

-- Acceptance

/-- The keep-alive timeout in ticks of R20 (KEEPALIVE_DS, R111, R23). -/
def State.keepaliveTicks (s : State) : Nat := s.hdr 42 2 * hundredMs

/-- The first frame boundary whose first engine symbol has its ring read begin after a tick (R33, R249). -/
def State.liftBoundary (s : State) (a : Nat) : Nat := s.frameBoundary (a + 321)

/-- Restart the keep-alive timeout where it runs; after an expiry, fix the boundary at which the mute lifts, in every run state (R33). -/
def State.keepaliveSeen (s : State) : State :=
  { s with shf := { s.shf with
      keepalive := if 2 ≤ s.run then some (s.tick + s.keepaliveTicks) else s.shf.keepalive
      kaLift := if s.shf.kaExpired ∧ s.shf.kaLift = none then some (s.liftBoundary s.tick) else s.shf.kaLift } }

/-- Learn POS from the first host-originated message accepted (R174). (Log: 47 DEDUCED) -/
def State.learnPos (s : State) (m : Msg) : State :=
  if !s.flag R.LNK_PROTO.POS_VALID && m.src == 0x80 && m.port == .up then
    (s.put R.LNK_PROTO.POS m.hop).put R.LNK_PROTO.POS_VALID 1
  else s

/-- What passing R172 does beside the message's own effect: POS (R174) and, for a host M-plane message, the keep-alive (R200). -/
def State.passed (s : State) (plane : Nat) (m : Msg) : State :=
  let t := s.learnPos m
  if plane = 1 ∧ m.src = 0x80 then t.keepaliveSeen else t

/-- The ACK of an accepted message: where ACK_REQ asks for it, or always (R178). -/
def State.ackIf (s : State) (plane typ : Nat) (m : Msg) (always : Bool) (detail : Nat) : State :=
  if always || m.ackReq then s.ackWith (m.asker plane typ) detail else s

-- Later checks

/-- The first failure of a list of checks. -/
def firstFail (l : List (Option (Nat × Nat))) : Option (Nat × Nat) := l.findSome? id

/-- A check: passes, or fails with a reason code and the offset of the failing field. -/
def chk (ok : Bool) (reason off : Nat) : Option (Nat × Nat) := if ok then none else some (reason, off)

/-- LEN_W equals the length that the body's own fields imply (check 7). (Log: 63 DEDUCED) -/
def Msg.lenIs (m : Msg) (body : Nat) : Option (Nat × Nat) := chk (m.lenW.toNat == lenWords body) rcLength 12

/-- The carrier and slot of AIRREF are the applied sheaf's (check 9). -/
def State.airOk (s : State) (a : BitVec 32) : Bool := (s.carrier? (airCar a)).isSome && decide (airSlot a < slotsOf (s.scs (airCar a)))

/-- The air time of a message as check 8 takes it. -/
def State.airTick (s : State) (a : BitVec 32) : Nat :=
  if s.airOk a then s.symTick (airCar a) (airFrame a) (airSub a) (airSlot a) (airSym a)
  else s.absOf (airFrame a * frameTicks + airSub a * subTicks)

/-- A run covers an air time (R131). (Log: 94 DEDUCED) -/
def State.covers (s : State) (a : Nat) : Bool :=
  if s.run = runStarting then decide (s.shf.startAt ≤ a)
  else if s.run = runRunning then decide (s.shf.startAt ≤ a)
  else if s.run = runStopping then decide (s.shf.startAt ≤ a ∧ a < s.shf.stopAt.getD 0)
  else false

/-- Checks 8 and 9 of R172 on AIRREF. -/
def State.airChecks (s : State) (a : BitVec 32) : List (Option (Nat × Nat)) :=
  [chk (s.covers (s.airTick a)) rcNotRunning 8,
   chk (s.carrier? (airCar a)).isSome rcCarrier 8,
   chk (decide (airSlot a < slotsOf (s.scs (airCar a)))) rcRange 8]

/-- Check 10: the acceptance window of R128 at the symbol's tick. -/
def State.windowCheck (s : State) (car kind asym : Nat) : Option (Nat × Nat) :=
  let w := s.window car kind
  if (s.tick : Int) < (asym : Int) - w.1 then some (rcEarly, noField)
  else if (asym : Int) - w.2 < (s.tick : Int) then some (rcLate, noField)
  else none

/-- Count what R130 and R131 count: early or uncovered content, and late content or content past the horizon. (Log: 75 DEDUCED) -/
def State.countTiming (s : State) (reason : Nat) : State :=
  if reason = rcEarly ∨ reason = rcNotRunning then s.count R.SHF_CNT_EARLY.EARLY R.SHF_CNTOVF.OVF 0
  else if reason = rcLate ∨ reason = rcHorizon then s.count R.SHF_CNT_LATE.LATE R.SHF_CNTOVF.OVF 1
  else s

/-- Refuse a C-plane message. -/
def State.refuseC (s : State) (a : Asker) (r : Nat × Nat) : State := (s.countTiming r.1).nackAt a r.1 r.2

/-- Refuse a U-plane message: no answer to one early, late or uncovered (R130, R131). -/
def State.refuseU (s : State) (a : Asker) (r : Nat × Nat) : State :=
  if r.1 = rcEarly ∨ r.1 = rcLate ∨ r.1 = rcNotRunning ∨ r.1 = rcHorizon then s.countTiming r.1 else s.nackAt a r.1 r.2

-- Critical commands as messages (R203)

/-- The CRITICAL body: CMD, PLEN, reserved, CTR, PARAMS with the byte or bytes that the row implies in front, TAG. (Log: 6 DESIGN CHOICE) -/
def Crit.body (m : Crit) (cmd : Nat) (disc : List Byte) : List Byte :=
  leBytes 2 cmd ++ leBytes 2 m.plen.toNat ++ leBytes 4 m.resv.toNat ++ leBytes 8 m.ctr.toNat ++ disc ++ m.tail ++ m.tag

/-- The CRITICAL message. (Log: 6 DESIGN CHOICE) -/
def Crit.msg (m : Crit) (cmd : Nat) (disc : List Byte) : Msg :=
  ⟨m.port, m.flags, m.hops, m.dest, m.src, m.seq, m.air, m.lenW, m.hcrc, m.body cmd disc ++ List.replicate (m.lenW.toNat * 8 - 20 - (m.body cmd disc).length) 0, m.crc⟩

-- Furrow actions (R121, R137)

/-- An action of the running schedule fires under R137 by its SERVE field and the present subframe. -/
def State.fires (s : State) (a : Act) : Bool :=
  let t := s.tick
  let serve := a.serve.toNat
  if s.shf.noFire = some (s.subStart t) then false
  else if s.run = runStarting then
    serve == 1 && decide (s.shf.startAt ≤ t + subTicks ∧ t < s.shf.startAt)
  else if s.run = runRunning ∨ s.run = runStopping ∨ s.shf.tail then
    match s.shf.stopAt with
    | some f =>
      if f ≤ t then serve == 2
      else if f ≤ t + subTicks then serve == 0 || serve == 2
      else if t < s.shf.startAt + subTicks then serve == 0 || serve == 1 else serve ≤ 2
    | none => if t < s.shf.startAt + subTicks then serve == 0 || serve == 1 else serve ≤ 2
  else false

/-- The absolute tick at which the subframe that an action serves begins (R121 SERVE). -/
def State.served (s : State) (a : Act) : Nat :=
  let b := s.subStart s.tick
  match a.serve.toNat with
  | 1 => b + subTicks
  | 2 => b - subTicks
  | _ => b

/-- Tick of a symbol of the subframe an action serves, on a carrier's grid. -/
def State.actSym (s : State) (a : Act) (car slot sym : Nat) : Nat := s.served a + symStart (s.scs car) slot sym

end Sys2Proof.Machine
end

