-- ==== Sys2Proof/Machine/Sched.lean ====
section
/-! DEFINITION. What several blocks do to the schedule: mute causes (R34, R249), winnowing, faults of R143, and the loss of the
applied sheaf. -/

namespace Sys2Proof.Machine

/-- Paths that a UNIT of classes 7 and 11 names (R317, R347). -/
def unitPaths (p : Part) (u : Nat) : List Nat :=
  (List.range p.paths).filter (fun n =>
    u == 0xFF || (decide (u < 64) && n == u) || (decide (0x80 ≤ u ∧ u < 0x88) && n / 8 == u - 0x80)
      || (decide (0xC0 ≤ u ∧ u < 0xC4) && n / 16 == u - 0xC0))

/-- Paths of a chiplet. -/
def chipPaths (p : Part) (k : Nat) : List Nat := (List.range p.paths).filter (fun n => n / 16 == k)

/-- The sheaf transmits on a path. -/
def State.used (s : State) (n : Nat) : Bool := s.flag (R.TXC_PATHCTL_n.USED n)

-- Transmitting carriers and the engine grid (R221, R234, R249)

/-- The GRID carrier. -/
def State.grid (s : State) : Nat := s.get R.TXC_RUNAHEAD.GRID

/-- Ticks between the ring read of an engine symbol and its air time (R217, R234). (Log: 112 DEDUCED) -/
def ringLead : Nat := 320

/-- The carrier of smallest spacing among those with a downlink, whose symbols hold every other's boundaries (R249). -/
def State.coarse (s : State) : Nat :=
  (s.carriers.filter (fun c => decide (0 < s.dlLayers c))).foldl (fun b c => if s.scs c < s.scs b then c else b)
    ((s.carriers.filter (fun c => decide (0 < s.dlLayers c))).head?.getD 0)

/-- Air tick at which the symbol of a carrier that holds a tick begins. -/
def State.symBegin (s : State) (car a : Nat) : Nat :=
  a - (airPlace (s.scs car) (s.cyclePos a % subTicks)).2.2

/-- Air tick at which the next symbol of a carrier after the one that holds a tick begins. -/
def State.symNext (s : State) (car a : Nat) : Nat :=
  let p := airPlace (s.scs car) (s.cyclePos a % subTicks)
  s.symBegin car a + symLen (s.scs car) p.1 p.2.1

/-- The first boundary of the paths' coarsest transmitting carrier whose first sample is at or after a tick. -/
def State.boundaryFrom (s : State) (a : Nat) : Nat :=
  if s.symBegin s.coarse a = a then a else s.symNext s.coarse a

-- Mute causes

/-- A mute cause holds for the engine symbol that begins at an air tick: its muting boundary lies at or before it, and its lift
after it (R249). (Log: 112 DEDUCED) -/
def State.muteHolds (s : State) (m : Option Mute) (a : Nat) : Bool :=
  match m with
  | none => false
  | some x => decide (x.since + ringLead ≤ s.symBegin s.coarse a) && (match x.lift with | none => true | some l => decide (a < l))

/-- The STOP cause lifts at the START boundary, unless a furrow-store fault holds it (R138, R143). -/
def State.stopMute (s : State) : Option Mute :=
  if s.run = runStarting ∧ s.shf.faultAt.isNone then s.txc.muteStop.map (fun m => { m with lift := some s.shf.startAt }) else s.txc.muteStop

/-- The mute causes that hold for the engine symbol at an air tick, in the bits of TXC_PATHSTAT_n.MUTE; regulatory aside. -/
def State.mutesAt (s : State) (a : Nat) : Nat :=
  (if s.muteHolds (s.txc.muteKa.map (fun m => { m with lift := s.shf.kaLift })) a then 1 else 0) + (if s.muteHolds s.stopMute a then 2 else 0)
    + (if s.muteHolds s.txc.muteStep a then 4 else 0)

/-- The STOP mute cause from a tick on; an earlier one stands. (Log: 112 DEDUCED) -/
def State.muteStopFrom (s : State) (a : Nat) : State :=
  { s with txc := { s.txc with muteStop := match s.txc.muteStop with
    | none => some ⟨a, none⟩
    | some m => some ⟨min m.since a, none⟩ } }

/-- Key of a carrier symbol in txc.syms. -/
def symKey (car t : Nat) : Nat := 4 * t + car

/-- Change the record of a carrier symbol. -/
def State.symRec (s : State) (car t : Nat) : SymRec := sparseGet {} s.txc.syms (symKey car t)
def State.setSym (s : State) (car t : Nat) (f : SymRec → SymRec) : State :=
  { s with txc := { s.txc with syms := sparseSet {} s.txc.syms (symKey car t) (f (s.symRec car t)) } }

-- What a chiplet keeps from its DACs (R248, R335, R340)

/-- Take a symbol's length back from the transmit time of its frame. -/
def dutyBack (l : List DutyFrame) (frame len : Nat) : List DutyFrame :=
  l.map (fun d => if d.frame = frame ∧ !d.broken then { d with sent := d.sent - 10 * len } else d)

/-- The engine symbols that the ring has read and that have not reached the balls go out as zeros on a chiplet's paths, flagged LATE:
they send nothing for R254 either. (Log: 248 DEDUCED) -/
def State.chipZeroes (s : State) (k : Nat) : State :=
  let ps := (chipPaths s.part k).filter s.used
  s.each (s.txc.eng.filter (fun e => e.2.played && decide (s.tick ≤ e.1))) (fun e t =>
    let cut := ps.filter (fun p => e.2.sent.contains p)
    let len := t.symNext t.grid e.1 - e.1
    let cars := t.carriers.filter (fun c => decide (0 < t.dlLayers c))
    let u : State := { t with
      txc := { t.txc with
        eng := sparseSet {} t.txc.eng e.1 { e.2 with late := e.2.late ++ ps.filter (fun p => !e.2.late.contains p), sent := e.2.sent.filter (fun p => !ps.contains p) }
        dac := t.txc.dac.filter (fun d => !ps.contains d.1) }
      vaon := { t.vaon with duty := cut.foldl (fun m p => sparseSet [] m p (dutyBack (sparseGet [] m p) (t.frameStart e.1) len)) t.vaon.duty } }
    if ps.isEmpty then u else u.each cars (fun c u => u.setSym c (u.symBegin c e.1) (fun r => { r with late := true })))

-- Winnowing (R138, R139, R245)

/-- Void an engine symbol; its opening checkpoint goes with it unless it is kept. -/
def EngSym.void (e : EngSym) (keep : Bool) : EngSym := if e.played then e else { e with done := false, ckpt := e.ckpt && keep, stale := e.stale || e.busy != 0 }

/-- Void every engine symbol whose air time is at or after a tick; the opening checkpoint of the one at `keep` stays. -/
def State.winnowFrom (s : State) (a : Nat) (keep : Option Nat) : State :=
  let n := (s.txc.eng.filter (fun e => decide (a ≤ e.1) && e.2.done && !e.2.played)).length
  let l := s.txc.eng.map (fun e => if a ≤ e.1 then (e.1, e.2.void (keep == some e.1)) else e)
  { s with txc := { s.txc with eng := l.filter (fun e => decide (e.2 ≠ ({} : EngSym))) } }.countBy R.TXC_CNT_WINNOW.WINNOW R.TXC_CNTOVF.OVF 2 n

/-- The slot of a carrier that an absolute tick lies in (R22). -/
def State.slotOf (s : State) (car a : Nat) : Nat := slotAt (s.scs car) (s.cyclePos a % subTicks)

/-- Absolute tick at which that slot begins. -/
def State.slotStart (s : State) (car a : Nat) : Nat := s.subStart a + symStart (s.scs car) (s.slotOf car a) 0

/-- Absolute tick of a symbol of a slot that begins at tick `slotT`. -/
def State.symOfSlot (s : State) (car slotT sym : Nat) : Nat :=
  slotT + ((List.range sym).map (symLen (s.scs car) (s.slotOf car slotT))).sum

/-- Discard the transmit content for air time at or after a tick: sections, held samples and held cache writes. -/
def State.dropContent (s : State) (a : Nat) : State :=
  let c : Con := { s.con with
    sects := s.con.sects.filter (fun x => decide (s.symOfSlot x.car x.slotT x.sym < a) || !x.dl),
    data := s.con.data.filter (fun x => decide (s.symOfSlot x.car x.slotT x.sym < a)),
    beams := s.con.beams.filter (fun x => decide (x.at_ < a)) }
  { s with con := c, txc := { s.txc with syms := s.txc.syms.filter (fun x => decide (x.1 / 4 < a)) } }

-- Fields that mirror the sheaf

/-- Clear the named fields. -/
def State.clear (s : State) (l : List Fld) : State := l.foldl (fun s f => s.put f 0) s

/-- The fields that mirror the applied sheaf read 0 while no sheaf is applied (R145, R255, R333, R364, R389, R433), its layer counts
among them (R163), and the tiles, without an image, are OFF (R382). (Log: 104 DEDUCED) -/
def State.clearMirrors (s : State) : State :=
  let t := s.clear ([R.SHF_STATE.DRAM_OPT, R.SHF_STATE.CAL_DONE, R.SHF_ID_LO.ID, R.TXC_RUNAHEAD.w, R.TXC_TSLOT.T, R.TXC_HLEAD.HLEAD,
    R.TXC_BUDGET.BUDGET, R.CNV_CFG.w, R.RFE_CALCFG.POLICY, R.DMA_STAT.SCHED, R.DPD_CFG.w, R.RXC_CFG.w, R.LNK_SEG.RESERVE,
    R.LNK_DEG.w, R.TIL_CFG.w]
    ++ (List.range 4).map (fun k => ⟨R.RFE_CALSTAT0.w.addr + 4 * k, 28, 24⟩)
    ++ (List.range 8).map (fun i => ⟨R.SHF_DIGEST0.w.addr + 4 * i, 31, 0⟩)
    ++ (List.range 4).map (fun k => ⟨R.CNV_QSTAT0.w.addr + 4 * k, 2, 1⟩)
    ++ (List.range 8).map (fun i => ⟨R.TIL_TUSED0.w.addr + 4 * i, 31, 0⟩)
    ++ (List.range 8).map (fun i => ⟨R.TIL_TFAIL0.w.addr + 4 * i, 31, 0⟩))
  let t : State := { t with tiles := t.tiles.foldl (fun (m : Sparse Tile) (e : Nat × Tile) => sparseSet {} m e.1 { e.2 with st := 0 }) [] }
  let u := t.each (List.range t.part.paths) (fun n t => ((t.clear [R.TXC_PATHCTL_n.USED n, R.DPD_PATHSTAT_n.MODEL n, R.CNV_PATHSTAT_n.MIXMODE n,
    R.CNV_PATHSTAT_n.RX_ON n, R.CNV_TXNCO_n.FC n, R.CNV_RXNCO_n.FC n]).put (R.DPD_PATHSTAT_n.BYPASS n) 1).put (R.CNV_BG_n.GROUP n) 0x1F |>.put
    ⟨(R.CNV_BA_n.w n).addr, 20, 16⟩ 0x1F)
  if u.part.tine then u.each (List.range 16) (fun k t => t.clear [R.RFE_TINE_k.LEN k, R.RFE_TINE_k.DIV k]) else u

-- Actions

/-- An action has its effect only if it fires (R137). -/
def State.onFire (s : State) (a : Act) (f : State → State) : Out := .next (if s.fires a then f s else s)

/-- The boundary of an action whose ARG holds SYMBOL in [3:0] and SLOT in [6:4]. -/
def State.actBound (s : State) (a : Act) : Nat := s.actSym a a.car.toNat (bits a.arg.toNat 6 4) (bits a.arg.toNat 3 0)

-- Faults (R133, R143)

/-- With the run every DMA slot ends (R413). -/
def State.slotsEnd (s : State) : State :=
  { s with dma := { s.dma with chans := (s.dma.chans.map (fun c => (c.1, { c.2 with slotOpen := false }))).filter (fun c => decide (c.2 ≠ {})) } }

/-- Enter FAULTED. -/
def State.toFaulted (s : State) : State := s.slotsEnd.put R.SHF_STATE.RUN runFaulted

/-- RUN_FAULT: the cause and its tally record. (Log: 265 DESIGN CHOICE) -/
def State.runFault (s : State) (cause : Nat) : State :=
  (s.put R.SHF_STATE.FAULT_CAUSE cause).tally 0x0020 (leBytes 1 cause)

-- Trips, latches and protection (R355, R356)

def State.hasProtect (s : State) : Bool := s.record 0x0C != []
def State.alertPaths (s : State) (k : Nat) : Nat := leAt (s.record 0x0C) (16 * k) 8
def State.alertResp (s : State) (k : Nat) : Nat := leAt (s.record 0x0C) (16 * k + 8) 1
def State.rlWarn (s : State) (p : Nat) : Nat := leAt (s.record 0x0C) (128 + 8 * p) 2
def State.rlTrip (s : State) (p : Nat) : Nat := leAt (s.record 0x0C) (130 + 8 * p) 2
def State.pathResp (s : State) (p : Nat) : Nat := leAt (s.record 0x0C) (132 + 8 * p) 1
def State.protStep (s : State) (p : Nat) : Nat := leAt (s.record 0x0C) (133 + 8 * p) 1
def State.tunerMsg (s : State) (p : Nat) : Nat := leAt (s.record 0x0C) (134 + 8 * p) 2

def tripFld (p : Nat) : Fld := if p < 32 then R.RFE_TRIP_LO.TRIP else R.RFE_TRIP_HI.TRIP
def protFld (p : Nat) : Fld := if p < 32 then R.RFE_PROT_LO.PROT else R.RFE_PROT_HI.PROT
def State.tripped (s : State) (p : Nat) : Bool := bit (s.get (tripFld p)) (p % 32)

/-- A trip or latch that protects the path holds (R356). -/
def State.protWanted (s : State) (p : Nat) : Bool :=
  (s.tripped p && bit (s.pathResp p) 1)
    || (List.range 8).any (fun k => bit (s.get R.RFE_ALERT.LATCH) k && bit (s.alertResp k) 1 && bit (s.alertPaths k) p)

/-- The first boundary of R355: a symbol boundary of every carrier the path transmits, at least 1,024 ticks away. -/
def State.protBound (s : State) : Nat := s.boundaryFrom (s.tick + 1024)

/-- Bring the protection marks and ALERT_N to the trips and latches that hold; a path newly protected or newly free changes its
entry at the boundary of R355. -/
def State.renewProt (s : State) : State :=
  let t := s.each (List.range s.part.paths) (fun p t =>
    let on := t.protWanted p
    if on == t.flag (R.RFE_PATH_n.PROT p) then t
    else
      let u := (if on then t.setBit (protFld p) (p % 32) else t.clrBit (protFld p) (p % 32)).putFlag (R.RFE_PATH_n.PROT p) on
      { u with rfe := { u.rfe with prot := u.rfe.prot ++ [⟨p, t.protBound, on⟩] } })
  { t with rfe := { t.rfe with alertLow := ((List.range t.part.paths).filter (fun p => t.tripped p && bit (t.pathResp p) 2))
      ++ ((List.range 8).filter (fun k => bit (t.get R.RFE_ALERT.LATCH) k && bit (t.alertResp k) 2)).map (· + 64) } }

/-- An apply fails: EMPTY with FAULT_CAUSE 4, the stage none, the load answered (R133, R118, R544). (Log: 48 DEDUCED, 104 DEDUCED) -/
def State.failApply (s : State) (reason detail : Nat) : State :=
  let t := { s with shf := { s.shf with applied := none, applying := none, keepalive := none, staged := none } }
  let u := (((t.put R.SHF_STATE.RUN runEmpty).put R.SHF_STATE.STAGE 0).put R.SHF_STATE.LAST_REASON reason).runFault 4
  let v := match s.shf.applying with
    | some a => u.critAnswer a 0x0F reason noField detail
    | none => u
  v.clearMirrors.renewProt

/-- A verification that a DRAM failure cuts short (R544). (Log: 48 DEDUCED) -/
def State.cutVerify (s : State) : State :=
  match s.shf.verifying with
  | none => s
  | some l => (({ s with shf := { s.shf with verifying := none } }.put R.SHF_STATE.STAGE 0).put R.SHF_STATE.LAST_REASON rcDram).critNack l.asker rcDram

/-- What a DRAM failure does to the run while the applied sheaf has DRAM_OPTIONAL clear (R143, R133). (Log: 103 DEDUCED) -/
def State.dramRunFault (s : State) : State :=
  if s.run = runRunning ∨ s.run = runStopping then
    let f := s.frameBoundary (s.tick + 1)
    ({ s with shf := { s.shf with faultAt := some (min (f + subTicks) (s.shf.faultAt.getD (f + subTicks))) } }.muteStopFrom (f - ringLead)).runFault 2
  else if s.run = runStarting then
    ({ s with shf := { s.shf with startAsker := none, faultAt := none, noFire := none } }.winnowFrom 0 none).toFaulted.runFault 2
  else s

end Sys2Proof.Machine
end

