-- ==== Sys2Proof/Machine/Analog.lean ====
section
/-! DEFINITION. What converters, front end and receive chain share: the lock block in force and its envelope (R456, R458, R459),
the quiet state (R320), invalid receive samples (R294), the safe state of a bias output (R331). -/

namespace Sys2Proof.Machine

-- The lock block (R458, R459) and the envelope (R456)

/-- The lock-block copy in force: the valid copy of higher SEQ, A among equals; none when neither is valid or the loft cannot be read. (Log: 190 DEDUCED, 191 DEDUCED) -/
def State.lock (s : State) : Option LockCopy :=
  if !s.loft.readable then none
  else match s.loft.lockA.good, s.loft.lockB.good with
    | true, true => some (if later 32 s.loft.lockB.seq s.loft.lockA.seq then s.loft.lockB else s.loft.lockA)
    | true, false => some s.loft.lockA
    | false, true => some s.loft.lockB
    | false, false => none

/-- The envelope body in force; empty without a lock block. -/
def State.envelope (s : State) : List Byte := (s.lock.map (·.envelope)).getD []

def envPTotal (e : List Byte) : Int := signed 16 (leAt e 258 2)
def envDuty10 (e : List Byte) : Nat := leAt e 260 2
def envDuty1s (e : List Byte) : Nat := leAt e 262 2
def envFsMax (e : List Byte) (p : Nat) : Int := signed 16 (leAt e (272 + 2 * p) 2)
def envPPath (e : List Byte) (p : Nat) : Int := signed 16 (leAt e (400 + 2 * p) 2)
def envSafeCode (e : List Byte) (o : Nat) : Nat := leAt e (528 + 8 * o) 2
def envSafeRange (e : List Byte) (o : Nat) : Nat := leAt e (530 + 8 * o) 1
def envRangeMask (e : List Byte) (o : Nat) : Nat := leAt e (531 + 8 * o) 1
def envVMin (e : List Byte) (o : Nat) : Int := signed 16 (leAt e (532 + 8 * o) 2)
def envVMax (e : List Byte) (o : Nat) : Int := signed 16 (leAt e (534 + 8 * o) 2)

/-- A bias output's voltage in 1/4096 mV (R326). -/
def biasVolt (code range : Nat) : Int :=
  match range with
  | 0 => (code * 2500 : Nat)
  | 1 => (code * 5000 : Nat)
  | _ => ((code * 5000 : Nat) : Int) - 2500 * 4096

/-- A code and range pair is permitted for an output (R327). -/
def biasPermitted (e : List Byte) (o code range : Nat) : Bool :=
  decide (range ≤ 2) && bit (envRangeMask e o) range && decide (envVMin e o * 4096 ≤ biasVolt code range)
    && decide (biasVolt code range ≤ envVMax e o * 4096)

/-- A frequency band in kHz lies in one valid range of the envelope with the flag (bit 0 TX, 1 RX) set (R344). -/
def envAllows (e : List Byte) (flag : Nat) (lo hi : Int) : Bool :=
  (List.range 16).any (fun i =>
    let f := leAt e (16 * i + 8) 1
    bit f 2 && bit f flag && decide ((leAt e (16 * i) 4 : Int) ≤ lo) && decide (hi ≤ (leAt e (16 * i + 4) 4 : Int)))

/-- Every bonded path's chiplet. -/
def chipOf (n : Nat) : Nat := n / 16

-- Quiet states (R320)

/-- Bring TX_QUIET of every path to what the run, its actions and the calibrations of its chiplet make it. -/
def State.renewQuiet (s : State) : State :=
  s.each (List.range s.part.paths) (fun n t =>
    t.putFlag (R.CNV_PATHSTAT_n.TX_QUIET n) (!(s.cnv.active.contains n && !s.cnv.held.contains (chipOf n))))

/-- Keep a chiplet's DACs quiet, or release them. -/
def State.holdQuiet (s : State) (k : Nat) (on : Bool) : State :=
  { s with cnv := { s.cnv with held := if on then (if s.cnv.held.contains k then s.cnv.held else s.cnv.held ++ [k])
                                       else s.cnv.held.filter (· != k) } }.renewQuiet

-- Engine-symbol boundaries

/-- The first engine-symbol boundary at or after a tick. -/
def State.engineFrom (s : State) (a : Nat) : Nat := if s.symBegin s.grid a = a then a else s.symNext s.grid a

-- Invalid samples (R294)

/-- The sheaf receives on a path: RX_USED of RXCFG (R287). -/
def State.rxUsed (s : State) (n : Nat) : Bool := bit (leAt (s.record 7) 24 8) n
def State.rxPaths (s : State) : List Nat := (List.range s.part.paths).filter s.rxUsed

/-- Mark samples of a path invalid: `count` samples of a carrier's rate from a tick. -/
def State.invalidate (s : State) (path car from_ count : Nat) : State :=
  { s with rxc := { s.rxc with inval := s.rxc.inval ++ [⟨path, car, from_, some (from_ + count * 2 ^ s.rateK car), false, false⟩] } }

/-- The same on every carrier of the path. -/
def State.invalidateAll (s : State) (path from_ count : Nat) : State :=
  s.each s.carriers (fun c t => t.invalidate path c from_ count)

/-- Every sample of a chiplet's paths is invalid from a tick on. -/
def State.invalidateChip (s : State) (k from_ : Nat) : State :=
  { s with rxc := { s.rxc with inval := s.rxc.inval ++ (chipPaths s.part k).map (fun n => ⟨n, 7, from_, none, false, false⟩) } }

/-- That ends at a tick. -/
def State.validChip (s : State) (k till : Nat) : State :=
  { s with rxc := { s.rxc with inval := s.rxc.inval.map (fun v =>
      if v.to_ = none ∧ v.car = 7 ∧ chipOf v.path = k ∧ !v.step then { v with to_ := some till } else v) } }

/-- The gain compensation of some paths comes from a new calibration (R289). (Log: 256 DESIGN CHOICE) -/
def State.renewComp (s : State) (paths : List Nat) : State :=
  { s with rxc := { s.rxc with comp := paths.foldl (fun m n => sparseSet 0 m n s.free) s.rxc.comp } }.fresh

-- Bias outputs (R326 to R332): 0 to 63 BG, 64 to 127 BA

def biasAddr (o : Nat) : Nat := if o < 64 then (R.CNV_BG_n.w o).addr else (R.CNV_BA_n.w (o - 64)).addr
def stageAddr (o : Nat) : Nat := if o < 64 then (R.CNV_BGSTAGE_n.w o).addr else (R.CNV_BASTAGE_n.w (o - 64)).addr
def bCode (o : Nat) : Fld := ⟨biasAddr o, 11, 0⟩
def bRange (o : Nat) : Fld := ⟨biasAddr o, 13, 12⟩
def bSwitching (o : Nat) : Fld := ⟨biasAddr o, 14, 14⟩
def bSafe (o : Nat) : Fld := ⟨biasAddr o, 15, 15⟩
def bGroup (o : Nat) : Fld := ⟨biasAddr o, 20, 16⟩
def sCode (o : Nat) : Fld := ⟨stageAddr o, 11, 0⟩
def sRange (o : Nat) : Fld := ⟨stageAddr o, 13, 12⟩
def sPending (o : Nat) : Fld := ⟨stageAddr o, 16, 16⟩

/-- The bias outputs that the part bonds (R47). -/
def biasOuts (p : Part) : List Nat := (List.range 128).filter (fun o => decide (o % 64 < p.paths))

/-- Take an output to its safe voltage, through the range switch where its range differs (R331). -/
def State.biasSafe (s : State) (o : Nat) : State :=
  let e := s.envelope
  let t := ((s.put (bCode o) (envSafeCode e o)).put (bSafe o) 1)
  if s.get (bRange o) = envSafeRange e o then t else (t.put (bRange o) (envSafeRange e o)).put (bSwitching o) 1

/-- Every output to its safe voltage; without a lock block they stay at code 0 on range 0 (R332). -/
def State.allBiasSafe (s : State) : State :=
  match s.lock with
  | none => s
  | some _ => s.each (biasOuts s.part) (fun o t => t.biasSafe o)

end Sys2Proof.Machine
end

