-- ==== Sys2Proof/Machine/Rfe.lean ====
section
/-! DEFINITION. Front-end control (12_front_end_control.md): synthesizers and calibrations, power steps, FEM lines and serial
buses, mismatch and alert responses, the tine bus. -/

namespace Sys2Proof.Machine

-- Calibration state

def csAddr (k : Nat) : Nat := R.RFE_CALSTAT0.w.addr + 4 * k
def csPending (k : Nat) : Fld := ⟨csAddr k, 4, 0⟩
def csRunKind (k : Nat) : Fld := ⟨csAddr k, 7, 5⟩
def csBusy (k : Nat) : Fld := ⟨csAddr k, 8, 8⟩
def csLock (k : Nat) : Fld := ⟨csAddr k, 9, 9⟩
def csOverrun (k : Nat) : Fld := ⟨csAddr k, 10, 10⟩
def csHeld (k : Nat) : Fld := ⟨csAddr k, 11, 11⟩
def csTemp (k : Nat) : Fld := ⟨csAddr k, 23, 16⟩
def csStep (k : Nat) : Fld := ⟨csAddr k, 28, 24⟩
def clkOk (k : Nat) : Fld := ⟨R.CNV_QSTAT0.w.addr + 4 * k, 0, 0⟩

def State.calChip (s : State) (k : Nat) : CalChip := sparseGet {} s.rfe.cal k
def State.setCalChip (s : State) (k : Nat) (c : CalChip) : State := { s with rfe := { s.rfe with cal := sparseSet {} s.rfe.cal k c } }

/-- Nominal duration of a calibration kind in ticks (R336). -/
def calNominal (kind : Nat) : Nat :=
  match kind with
  | 0 => 10240
  | 1 => 14336
  | 2 => 8192
  | 3 => 12288
  | _ => 6144

/-- Fields of a chiplet in CALCFG; without the record policy 1, step 5 and kinds 0 to 3 (R337). -/
def State.calPolicy (s : State) (k : Nat) : Nat := if s.record 0x0E = [] then 1 else leAt (s.record 0x0E) (4 * k) 1
def State.calStep (s : State) (k : Nat) : Nat := if s.record 0x0E = [] then 5 else leAt (s.record 0x0E) (4 * k + 1) 1
def State.calKinds (s : State) (k : Nat) : Nat := if s.record 0x0E = [] then 0xF else leAt (s.record 0x0E) (4 * k + 2) 1

/-- The chiplet is on the part and its PLAN is not 0xFF (R339). (Log: 114 DEDUCED) -/
def State.chipUsed (s : State) (k : Nat) : Bool := decide (k < s.part.chiplets) && bit (s.get R.CNV_CFG.USED) k

/-- Quiet while a kind runs, the full calibration runs or lock is lost (R335, R336, R340). -/
def State.renewHeld (s : State) (k : Nat) : State :=
  let c := s.calChip k
  s.holdQuiet k (c.run.isSome || c.fullCal || c.unlocked)

/-- VALUE of a monitor channel, as a signed number. -/
def State.monValue (s : State) (n : Nat) : Int := signed 16 (s.get (R.MON_RES_n.VALUE n))

/-- The sum of the two sensors of a chiplet (R435), in 1/8 °C; their mean is half of it. -/
def State.sensorSum (s : State) (k : Nat) : Int := s.monValue (64 + 2 * k) + s.monValue (65 + 2 * k)

/-- The mean in whole °C as TEMP shows it. The spec does not say how a fraction is rounded: either neighbour, freely. (Log: 117 DESIGN CHOICE) -/
def State.shownMean (s : State) (k : Nat) : Int :=
  let x := s.sensorSum k
  if x % 16 = 0 then x / 16 else x / 16 + ((Config.pick s.free % 2 : Nat) : Int)

/-- Request calibration kinds of a chiplet (R338, R339). (Log: 114 DEDUCED) -/
def State.calRequest (s : State) (k kinds : Nat) : State :=
  if s.chipUsed k then s.put (csPending k) (maskOr (s.get (csPending k)) kinds 5) else s

/-- Request RETUNE for a path. -/
def State.requestRetune (s : State) (n : Nat) : State :=
  let k := chipOf n
  let c := s.calChip k
  if s.chipUsed k then
    (s.setCalChip k { c with retune := if c.retune.contains n then c.retune else c.retune ++ [n] }).calRequest k 16
  else s

/-- The temperature trigger of a chiplet (R338): STEP °C of the mean is 16 STEP of the sum. -/
def State.tempTrigger (s : State) (k : Nat) : State :=
  if s.calPolicy k = 1 ∧ s.chipUsed k then
    s.each ((List.range 4).filter (bit (s.calKinds k))) (fun kind t =>
      match sparseGet none (s.calChip k).temps kind with
      | some m => if s.calStep k * 16 ≤ (s.sensorSum k - m).natAbs then t.calRequest k (2 ^ kind) else t
      | none => t)
  else s

/-- A completion counts and records the sensor mean (R339). -/
def State.calCounted (s : State) (k kind : Nat) : State :=
  let c := s.calChip k
  ((s.setCalChip k { c with temps := sparseSet none c.temps kind (some (s.sensorSum k)) }).count R.RFE_CNT_CAL.CAL R.RFE_CNTOVF.OVF 0
    |>.putInt (csTemp k) (s.shownMean k)).fresh

/-- CAL_OVERRUN, with its tally record where the rule asks for one. (Log: 206 DEDUCED) -/
def State.calAlarm (s : State) (detail : Nat) (rec : Bool) : State :=
  (if rec then s.tally 0x0024 (leBytes 8 detail) else s).alarm 0x0012 (State.freeSev 0x0012) detail

/-- CAL_REQUEST (R338): a write of RFE_CALREQ. -/
def State.calWrite (s : State) (kinds chiplets : Nat) : State :=
  s.each ((List.range s.part.chiplets).filter (bit chiplets)) (fun k t => t.calRequest k kinds)

def execCalRequest (kinds : BitVec 5) (chiplets : BitVec 4) (s : State) : Out := .next (s.calWrite kinds.toNat chiplets.toNat)

/-- CAL_WINDOW_OPEN (R340, R142); `close` is the tick of the next CLOSE of the chiplet. (Log: 150 DEDUCED) -/
def execCalWindowOpen (a : Act) (close : Nat) (s : State) : Out :=
  s.onFire a (fun s =>
    let t := s.setCalChip a.unit.toNat { s.calChip a.unit.toNat with window := some close }
    { t with dpd := { t.dpd with caps := t.dpd.caps.map (fun c => if c.gleaner / 2 = a.unit.toNat then { c with cal := true } else c) } })

/-- The pending kinds of a chiplet that are not held, in code order. -/
def State.calReady (s : State) (k : Nat) : List Nat :=
  ((List.range 5).filter (bit (s.get (csPending k)))).filter (fun i => !(s.calChip k).held.contains i)

/-- The lock bits of a chiplet's synthesizer: 1 only while it is locked (R334). (Log: 115 DEDUCED) -/
def State.showLock (s : State) (k : Nat) (on : Bool) : State := (s.putFlag (csLock k) on).putFlag (clkOk k) on

/-- Start a kind on a chiplet. SYN calibrates the loop itself, so its synthesizer is not locked while it runs (R334, R336). -/
def State.calBegin (s : State) (k kind : Nat) (forLock : Bool) : State :=
  let s := if kind = 0 then s.showLock k false else s
  let c := s.calChip k
  (((s.setCalChip k { c with run := some ⟨kind, s.tick, false, forLock, if kind = 4 then c.retune else []⟩ }).put (csRunKind k) kind).put
    (csBusy k) 1).renewHeld k

/-- CAL_START (R339, R142, R335): a chiplet without lock runs SYN at once; else the lowest pending kind starts while no sheaf
runs, or inside a window in which its nominal duration still fits. (Log: 15 DEDUCED, 115 DEDUCED) -/
def execCalStart (chiplet : Nat) (s : State) : Out :=
  let c := s.calChip chiplet
  if ¬ chiplet < s.part.chiplets ∨ c.run.isSome ∨ c.fullCal then .next s
  else if c.unlocked then .next (s.calBegin chiplet 0 true)
  else if s.run = runApplying then .next s
  else match s.calReady chiplet with
    | [] => .next s
    | kind :: _ =>
      if s.running then
        match c.window with
        | some w => if s.tick + calNominal kind ≤ w then .next (s.calBegin chiplet kind false) else .next s
        | none => .next s
      else .next (s.calBegin chiplet kind false)

/-- CAL_WINDOW_CLOSE (R340, R341): a calibration still running overruns; the fourth overrun in a row holds the kind. The SYN
calibration of a lost lock waits for no window and does not overrun. (Log: 115 DEDUCED) -/
def State.calClose (s : State) (k : Nat) : State :=
  let c := s.calChip k
  let t := s.setCalChip k { c with window := none }
  match c.run with
  | none => t
  | some r =>
    if r.forLock ∨ r.overrun then t
    else
      let n := sparseGet 0 c.overruns r.kind + 1
      let hold := decide (4 ≤ n)
      let u := t.setCalChip k { c with window := none, run := some { r with overrun := true }, overruns := sparseSet 0 c.overruns r.kind n,
                                        held := if hold && !c.held.contains r.kind then c.held ++ [r.kind] else c.held }
      let v := (if hold then u.put (csHeld k) 1 else u).put (csOverrun k) 1
      (((v.chipZeroes k).count R.RFE_CNT_OVERRUN.OVERRUN R.RFE_CNTOVF.OVF 1).invalidateChip k s.tick).calAlarm (k + 4 * r.kind) true

def execCalWindowClose (a : Act) (s : State) : Out := s.onFire a (fun s => s.calClose a.unit.toNat)

/-- Take the running calibration off a chiplet; a SYN calibration leaves the synthesizer locked, on new settings or those it found, but for
the one that a lost lock asked for. (Log: 175 DEDUCED) -/
def State.calIdle (s : State) (k : Nat) : State :=
  let s := match (s.calChip k).run with
    | some r => if r.kind = 0 ∧ !r.forLock then s.showLock k true else s
    | none => s
  (((s.setCalChip k { s.calChip k with run := none }).put (csRunKind k) 7).put (csBusy k) 0).renewHeld k

/-- CAL_HELD_RELEASE (R341): writing 1 to HELD. (Log: 116 DEDUCED) -/
def State.calRelease (s : State) (k : Nat) : State :=
  let c := s.calChip k
  (s.setCalChip k { c with held := [], overruns := c.held.foldl (fun m i => sparseSet 0 m i 0) c.overruns }).put (csHeld k) 0

def execCalHeldRelease (chiplet : Nat) (s : State) : Out := if chiplet < 4 then .next (s.calRelease chiplet) else .next s

/-- SYN_LOCK_LOSS (R335); in a calibration the lock bits alone follow the loss (R334). (Log: 115 DEDUCED) -/
def execSynLockLoss (chiplet : Nat) (s : State) : Out :=
  let c := s.calChip chiplet
  if ¬ chiplet < s.part.chiplets ∨ c.unlocked then .next s
  else if c.run.isSome ∨ c.fullCal then .next (s.showLock chiplet false)
  else
    let t := ((s.setCalChip chiplet { c with unlocked := true }).showLock chiplet false).renewHeld chiplet
    .next ((((t.chipZeroes chiplet).invalidateChip chiplet s.tick).count R.RFE_CNT_LOCKLOSS.LOCKLOSS R.RFE_CNTOVF.OVF 2).calAlarm (chiplet + 0x100) true)

/-- SYN_RELOCK_RETRY (R335): the 10 ms retry runs SYN again. -/
def execSynRelockRetry (chiplet : Nat) (s : State) : Out :=
  let c := s.calChip chiplet
  if c.unlocked ∧ c.run = none then .next (s.calBegin chiplet 0 true) else .next s

-- FEM serial buses (R349 to R352)

def State.fsbBus (s : State) (b : Nat) : FsbBus := sparseGet {} s.rfe.fsb b
def State.setFsbBus (s : State) (b : Nat) (x : FsbBus) : State := { s with rfe := { s.rfe with fsb := sparseSet {} s.rfe.fsb b x } }

/-- The words of a chain in PARAM (R350). -/
def State.fsbChain (s : State) : Nat → Nat → List Nat
  | 0, _ => []
  | n + 1, i => let w := s.param i
    if bit w 21 then w :: s.fsbChain n (i + 1) else [w]

/-- `n` bits of a number, most significant first. -/
def msbBits (n x : Nat) : List Bool := (List.range n).map (fun i => bit x (n - 1 - i))

/-- The bit that makes a field's parity odd. -/
def oddParity (l : List Bool) : Bool := l.foldl (fun p b => p != b) true

/-- The frame of a chain word, clock by clock (R349): none where the device releases DAT, for the turnaround, the data and their parity of a
read. -/
def fsbFrame (w : Nat) : List (Option Bool) :=
  let head := msbBits 4 (bits w 19 16) ++ bit w 20 :: msbBits 8 (bits w 15 8)
  let data := msbBits 8 (bits w 7 0)
  (true :: false :: head ++ [oddParity head]).map some
    ++ (if bit w 20 then List.replicate 10 none else (data ++ [oddParity data]).map some) ++ [some false]

/-- A frame of a bus begins. -/
def State.fsbOut (s : State) (b : Nat) : State :=
  match (s.fsbBus b).run with
  | [] => s
  | w :: _ => { s with rfe := { s.rfe with fsbSent := s.rfe.fsbSent ++ [(b, fsbFrame w)] } }

/-- Start a chain on a free bus. -/
def State.fsbRun (s : State) (b : Nat) (chain : List Nat) : State := (s.setFsbBus b { s.fsbBus b with run := chain }).fsbOut b

/-- The oldest FSB_SEND chain whose first clock has come starts on a free bus (R350). Where a triggered chain still runs, the spec does not say
which of the waiting chains goes first: freely. (Log: 118 DESIGN CHOICE) -/
def State.fsbDue (s : State) (b : Nat) : State :=
  let x := s.fsbBus b
  match x.send with
  | [] => s
  | c :: r =>
    if s.tick < c.1 then s
    else if x.run = [] then (s.setFsbBus b { x with send := r }).fsbRun b c.2
    else (s.setFsbBus b { x with send := r, wait := if Config.pick s.free % 2 = 0 then c.2 :: x.wait else x.wait ++ [c.2] }).fresh

/-- A triggered chain (R351): at once on a free bus, behind the others else, an FSB_SEND chain that starts at this tick among them. -/
def State.fsbTrigger (s : State) (b i : Nat) : State :=
  let s := s.fsbDue b
  let x := s.fsbBus b
  let c := s.fsbChain 16 i
  if x.run = [] ∧ x.wait = [] then s.fsbRun b c else s.setFsbBus b { x with wait := x.wait ++ [c] }

/-- FSB_SEND (R347, R350): the chain's first clock starts 16 ticks after the firing tick. (Log: 118 DESIGN CHOICE) -/
def execFsbSend (a : Act) (s : State) : Out :=
  s.onFire a (fun s =>
    let x := s.fsbBus a.unit.toNat
    s.setFsbBus a.unit.toNat { x with send := x.send ++ [(s.tick + 16, s.fsbChain 16 (bits a.arg.toNat 15 0))] })

/-- FSB_CHAIN_START (R351): the oldest waiting chain of a free bus, behind an FSB_SEND chain whose first clock has come. -/
def execFsbChainStart (bus : Nat) (s : State) : Out :=
  let s := s.fsbDue bus
  match (s.fsbBus bus).run, (s.fsbBus bus).wait with
  | [], c :: r => .next ((s.setFsbBus bus { s.fsbBus bus with wait := r }).fsbRun bus c)
  | _, _ => .next s

/-- FSB_FRAME_DONE (R349): `data` and `par` are what a read frame's target drove. Parity is odd. -/
def execFsbFrameDone (bus : Nat) (data : Byte) (par : Bool) (s : State) : Out :=
  let x := s.fsbBus bus
  match x.run with
  | [] => .next s
  | w :: r =>
    let perr := (popcount data.toNat 8 + (if par then 1 else 0)) % 2 == 0
    let t := if bit w 20 then
        let u := ((s.put R.RFE_FSBRD.DATA data.toNat).putFlag R.RFE_FSBRD.PERR perr).put R.RFE_FSBRD.BUS bus
        if perr then u.count R.RFE_CNT_FSBPERR.FSBPERR R.RFE_CNTOVF.OVF 3 else u
      else s
    let v := if bit w 31 then t.put R.RFE_FSBCMD.BUSY 0 else t
    .next (((v.setFsbBus bus { x with run := r }).fsbOut bus).fsbDue bus)

/-- FSB_GO (R352): a write of RFE_FSBCMD with GO set; its other fields are written by the write itself. -/
def State.fsbGo (s : State) (w : Word) : State :=
  let x := w.toNat
  let t := ((((s.put R.RFE_FSBCMD.DATA (R.RFE_FSBCMD.DATA.read w)).put R.RFE_FSBCMD.REG (R.RFE_FSBCMD.REG.read w)).put R.RFE_FSBCMD.USID
    (R.RFE_FSBCMD.USID.read w)).put R.RFE_FSBCMD.RW (R.RFE_FSBCMD.RW.read w)).put R.RFE_FSBCMD.BUS (R.RFE_FSBCMD.BUS.read w)
  if s.run = runStarting ∨ s.running ∨ s.flag R.RFE_FSBCMD.BUSY then t.put R.RFE_FSBCMD.REFUSED 1
  else
    let b := R.RFE_FSBCMD.BUS.read w
    let u := t.put R.RFE_FSBCMD.BUSY 1
    let y := u.fsbBus b
    let f := x % 2 ^ 21 + 2 ^ 31
    if y.run = [] then u.fsbRun b [f] else u.setFsbBus b { y with wait := y.wait ++ [[f]] }

def execFsbGo (word : BitVec 32) (s : State) : Out := .next (s.fsbGo word)

-- Power steps (R342, R343) and FEM lines (R346 to R348, R353)

def State.pstepCount (s : State) : Nat := leAt (s.record 0x0A) 0 1
def State.pstepInit (s : State) : Nat := leAt (s.record 0x0A) 1 1
def State.pstepFem (s : State) (i : Nat) : Nat := if s.record 0x0A = [] then 0xFF else leAt (s.record 0x0A) (5 + 4 * i) 1

/-- FS_DBM of a path under an entry, in 0.01 dBm (R342). -/
def State.fsDbm (s : State) (i p : Nat) : Int := signed 16 (leAt (s.record 0x0A) (4 + 4 * s.pstepCount + 2 * (64 * i + p)) 2)

def State.hasFemtab (s : State) : Bool := s.record 0x0B != []

/-- FEM_IDLE of a path; all low without an IDLE section (R353). -/
def State.femIdle (s : State) (n : Nat) : Nat := bits (leAt (s.sect 9) (260 + n) 1) 2 0

/-- The level of a path's lines for an entry and phase (R346); without FEMTAB the IDLE levels. -/
def State.femLevel (s : State) (n entry phase : Nat) : Nat :=
  if s.hasFemtab then bits (leAt (s.record 0x0B) (4 + 8 * entry + phase) 1) 2 0 else s.femIdle n

/-- Bring a path's lines to its entry and phase. -/
def State.femLines (s : State) (n : Nat) : State :=
  s.put (R.RFE_PATH_n.LINES n) (s.femLevel n (s.get (R.RFE_PATH_n.FEMENT n)) (s.get (R.RFE_PATH_n.PHASE n)))

/-- A path takes a FEM entry. -/
def State.femTake (s : State) (n e : Nat) : State := if e = 0xFF then s else s.put (R.RFE_PATH_n.FEMENT n) e

/-- A path takes a power step entry, with the entry's FEM field (R343, R348). -/
def State.stepTake (s : State) (n i : Nat) : State := (s.put (R.RFE_PATH_n.PSTEP n) i).femTake n (s.pstepFem i)

/-- A power step requested takes effect; a path in protection keeps PROT_STEP. (Log: 120 DEDUCED) -/
def State.stepRequest (s : State) (n i : Nat) : State :=
  let t := s.put (R.RFE_PATH_n.PSREQ n) i
  if s.rfe.protOn.contains n then t else t.stepTake n i

/-- The FEM entry that a pending entry makes its path take: none where it takes none. -/
def State.stepTakes (s : State) (x : StepPend) : Option Nat :=
  if x.fem then some x.index
  else if s.rfe.protOn.contains x.path ∨ s.pstepFem x.index = 0xFF then none else some (s.pstepFem x.index)

/-- FSB_MSG of a FEM entry; 0xFFFF is none (R346). -/
def State.femMsg (s : State) (e : Nat) : Nat := if s.hasFemtab then leAt (s.record 0x0B) (8 + 8 * e) 2 else 0xFFFF

/-- The FSB_MSG chains of the entries that paths take at one instant: once for each bus and entry (R351). (Log: 119 DEDUCED) -/
def State.femChains (s : State) (l : List (Nat × Nat)) : State :=
  s.each (l.map (fun x => (chipOf x.1, x.2))).eraseDups (fun x t => if t.femMsg x.2 = 0xFFFF then t else t.fsbTrigger x.1 (t.femMsg x.2))

/-- Every power step, FEM entry and phase whose instant is a tick. -/
def State.frontAt (s : State) (a : Nat) : State :=
  let st := s.rfe.steps.filter (fun x => x.at_ == a)
  let ph := s.rfe.phases.filter (fun x => x.at_ == a)
  let t := { s with rfe := { s.rfe with steps := s.rfe.steps.filter (fun x => x.at_ != a), phases := s.rfe.phases.filter (fun x => x.at_ != a) } }
  let u := t.each st (fun x t => if x.fem then t.femTake x.path x.index else t.stepRequest x.path x.index)
  let v := u.each ph (fun x t => t.put (R.RFE_PATH_n.PHASE x.path) x.phase)
  let w := v.each (st.map (·.path) ++ ph.map (·.path)).eraseDups (fun n t => t.femLines n)
  let last := (st.map (·.path)).eraseDups.filterMap (fun n =>
    ((st.filter (fun x => x.path == n)).filterMap s.stepTakes).getLast?.map (fun e => (n, e)))
  w.femChains last

/-- POWER_STEP_BOUNDARY (R343, R348). -/
def execPowerStepBoundary (bound : Nat) (s : State) : Out := .next (s.frontAt bound)

/-- FEM_CHANGE_INSTANT (R348, R347). -/
def execFemChangeInstant (bound : Nat) (s : State) : Out := .next (s.frontAt bound)

/-- FEM_PHASE (R347): SYMBOL, SLOT, PHASE and OFS of ARG. -/
def execFemPhase (a : Act) (s : State) : Out :=
  s.onFire a (fun s =>
    let at_ := (s.actBound a + signed 14 (bits a.arg.toNat 22 9)).toNat
    { s with rfe := { s.rfe with phases := s.rfe.phases ++ (unitPaths s.part a.unit.toNat).map (fun n => ⟨n, at_, bits a.arg.toNat 8 7⟩) } })

/-- Every path at its IDLE levels (R353). -/
def State.femIdleAll (s : State) : State := s.each (List.range s.part.paths) (fun n t => t.put (R.RFE_PATH_n.LINES n) (t.femIdle n))

/-- START: every path takes step INIT, a protected one its PROT_STEP (R356), and FEM entry INIT in phase PARK (R343, R348). -/
def State.frontStart (s : State) : State :=
  let e := leAt (s.record 0x0B) 0 1
  let t := s.each (List.range s.part.paths) (fun n t =>
    let u := t.put (R.RFE_PATH_n.PSREQ n) t.pstepInit
    let v := u.put (R.RFE_PATH_n.PSTEP n) (if t.rfe.protOn.contains n then t.protStep n else t.pstepInit)
    ((v.put (R.RFE_PATH_n.FEMENT n) e).put (R.RFE_PATH_n.PHASE n) 3).femLines n)
  if s.hasFemtab then t.femChains ((List.range s.part.paths).map (fun n => (n, e))) else t

-- Mismatch and alerts (R354 to R356)

/-- PROTECT_BOUNDARY (R355, R356). -/
def execProtectBoundary (bound : Nat) (s : State) : Out :=
  let l := s.rfe.prot.filter (fun x => x.at_ == bound)
  let t := { s with rfe := { s.rfe with prot := s.rfe.prot.filter (fun x => x.at_ != bound) } }
  let u := t.each l (fun x t =>
    let v := if x.on then { t with rfe := { t.rfe with protOn := if t.rfe.protOn.contains x.path then t.rfe.protOn else t.rfe.protOn ++ [x.path] } }.stepTake x.path (t.protStep x.path)
      else { t with rfe := { t.rfe with protOn := t.rfe.protOn.filter (· != x.path) } }.stepTake x.path (t.get (R.RFE_PATH_n.PSREQ x.path))
    v.femLines x.path)
  let took := l.filterMap (fun x =>
    let i := if x.on then s.protStep x.path else s.get (R.RFE_PATH_n.PSREQ x.path)
    if s.pstepFem i = 0xFF then none else some (x.path, s.pstepFem i))
  .next (u.femChains took)

/-- The test of a reflection estimate (R355), in 0.1 dB. -/
def State.reflection (s : State) (p est : Nat) : State :=
  if !s.hasProtect then s
  else
    let t := if est < s.rlWarn p then s.count (R.RFE_CNT_MWARN_n.MWARN p) (R.RFE_CNTOVF_n.OVF p) 0 else s
    if est < s.rlTrip p then
      if s.tripped p then t
      else if s.rfe.lowRl.contains p then
        let u := { t with rfe := { t.rfe with lowRl := t.rfe.lowRl.filter (· != p) } }.setBit (tripFld p) (p % 32)
        let v := (u.count (R.RFE_CNT_MTRIP_n.MTRIP p) (R.RFE_CNTOVF_n.OVF p) 1).tally 0x0030
          (leBytes 4 p ++ leBytes 4 (u.word (R.DPD_RL_n.w p).addr).toNat)
        let w := if bit (s.pathResp p) 0 && s.tunerMsg p != 0xFFFF then
            { v with rfe := { v.rfe with tuned := v.rfe.tuned ++ [p] } }.fsbTrigger (chipOf p) (s.tunerMsg p) else v
        w.renewProt
      else { t with rfe := { t.rfe with lowRl := t.rfe.lowRl ++ [p] } }
    else { t with rfe := { t.rfe with lowRl := t.rfe.lowRl.filter (· != p) } }

/-- ALERT_INPUT_RISE (R355, R42, R44): the input has been high for a number of ticks, of which the filter asks 256. (Log: 126 DEDUCED) -/
def execAlertInputRise (input : Nat) (s : State) (held : Nat := 256) : Out :=
  if 8 ≤ input ∨ held < 256 ∨ !s.tim.running then .next s
  else .next ((((s.setBit R.RFE_ALERT.LEVEL input).setBit R.RFE_ALERT.LATCH input).tally 0x0031 (leBytes 1 input)).renewProt)

/-- ALERT_INPUT_FALL (R42), after 256 ticks at the low level. (Log: 126 DEDUCED) -/
def execAlertInputFall (input : Nat) (s : State) (held : Nat := 256) : Out :=
  if 8 ≤ input ∨ held < 256 ∨ !s.tim.running then .next s else .next (s.clrBit R.RFE_ALERT.LEVEL input)

/-- TRIP_CLEAR (R356): the next two estimates below RL_TRIP trip the path anew. -/
def State.tripClear (s : State) (p : Nat) : State :=
  if s.tripped p then ({ s with rfe := { s.rfe with lowRl := s.rfe.lowRl.filter (· != p) } }.clrBit (tripFld p) (p % 32)).renewProt else s

def execTripClear (path : Nat) (s : State) : Out := .next (s.tripClear path)

/-- LATCH_CLEAR (R356): a write while the input is high leaves the bit set. -/
def State.latchClear (s : State) (k : Nat) : State :=
  if bit (s.get R.RFE_ALERT.LEVEL) k then s else (s.clrBit R.RFE_ALERT.LATCH k).renewProt

def execLatchClear (input : Nat) (s : State) : Out := if input < 8 then .next (s.latchClear input) else .next s

-- Tine bus (R357 to R363)

def State.tineChain (s : State) (k : Nat) : Tine := sparseGet {} s.rfe.tine k
def State.setTine (s : State) (k : Nat) (x : Tine) : State := { s with rfe := { s.rfe with tine := sparseSet {} s.rfe.tine k x } }

/-- The chain is on the part and the sheaf gives it chips. -/
def State.tineUsed (s : State) (k : Nat) : Bool := decide (k < 16) && s.part.tine && s.get (R.RFE_TINE_k.LEN k) != 0

/-- One bit of CRC-8, polynomial 0x07 (R358). -/
def crc8Bit (c : BitVec 8) : BitVec 8 := if c.getLsbD 7 then (c <<< 1) ^^^ 0x07#8 else c <<< 1

/-- CRC-8 over bytes, initial 0. -/
def crc8 (bs : List Byte) : BitVec 8 := bs.foldl (fun c b => (List.range 8).foldl (fun c _ => crc8Bit c) (c ^^^ b)) 0#8

/-- A tine frame (R358). -/
def tineFrame (cmd chip count : Nat) (words : List Nat) : List Bool :=
  let head := cmd * 2 ^ 20 + chip % 512 * 2 ^ 11 + count % 1024 * 2
  let body := (words.map (fun w => beBytes 2 w)).flatten
  msbBits 8 0xA7 ++ msbBits 24 head ++ msbBits 8 (crc8 (beBytes 3 head)).toNat ++ (words.map (msbBits 16)).flatten
    ++ msbBits 16 (crc16 body).toNat

/-- Send frames on a chain. (Log: 121 DEDUCED) -/
def State.tineOut (s : State) (k : Nat) (l : List (List Bool)) (idle : Bool) : State :=
  let x := s.tineChain k
  let t := (s.setTine k { x with onBus := x.onBus ++ l, idle := x.idle || idle }).countBy (R.RFE_CNT_TFRAME_k.TFRAME k) (R.RFE_TCNTOVF_k.OVF k) 0 l.length
  if l = [] then t else t.put (R.RFE_TINE_k.BUSY k) 1

/-- TINE_SEND (R360, R361): one WRITE frame for each TINE_WEIGHTS held, in arrival order. -/
def execTineSend (a : Act) (s : State) : Out :=
  s.onFire a (fun s =>
    let k := a.unit.toNat
    let at_ := s.actBound a
    if s.tineUsed k then
      let l := s.rfe.tineHeld.filter (fun h => h.chain == k && h.at_ == at_)
      let t := { s with rfe := { s.rfe with tineHeld := s.rfe.tineHeld.filter (fun h => !(h.chain == k && h.at_ == at_)) } }
      t.tineOut k (l.map (fun h => tineFrame 1 h.chip (h.words.length / 16) h.words)) false
    else s)

/-- TINE_STROBE (R361): TBk_LD rises at the load instant on every chain named. -/
def execTineStrobe (a : Act) (s : State) : Out :=
  s.onFire a (fun s =>
    let at_ := (s.actBound a + signed 14 (bits a.arg.toNat 22 9)).toNat
    s.each ((List.range 16).filter (fun k => s.tineUsed k && (a.unit.toNat == 0xFF || a.unit.toNat == k))) (fun k t =>
      t.setTine k { t.tineChain k with loads := (t.tineChain k).loads ++ [at_] }))

/-- TINE_READBACK (R362): the bits of the oldest frame return on TBk_DI. (Log: 121 DEDUCED) -/
def execTineReadback (chain : Nat) (ret : List Bool) (s : State) : Out :=
  let x := s.tineChain chain
  match x.onBus with
  | [] => .next s
  | f :: r =>
    let t := s.setTine chain { x with onBus := r }
    let u := if f = ret then t else (t.put (R.RFE_TINE_k.RBERR chain) 1).count (R.RFE_CNT_TRBERR_k.TRBERR chain) (R.RFE_TCNTOVF_k.OVF chain) 1
    .next (if r = [] then u.put (R.RFE_TINE_k.BUSY chain) 0 else u)

/-- The IDLE_ALL frame on every chain with LEN above 0 (R363). -/
def State.tineIdleAll (s : State) : State :=
  s.each ((List.range 16).filter s.tineUsed) (fun k t =>
    t.tineOut k [tineFrame 3 0 (t.get (R.RFE_TINE_k.LEN k)) [leAt (t.sect 9) (328 + 2 * k) 2]] true)

/-- TINE_IDLE_STROBE (R363): TBk_LD rises once the IDLE_ALL frame has reached the last chip. -/
def execTineIdleStrobe (chain : Nat) (s : State) : Out :=
  let x := s.tineChain chain
  if x.idle then .next (s.setTine chain { x with idle := false, loads := x.loads ++ [s.tick] }) else .next s

end Sys2Proof.Machine
end

