-- ==== Sys2Proof/Machine/Cnv.lean ====
section
/-! DEFINITION. Converters, path NCOs, test tones and bias outputs (11_converters.md). -/

namespace Sys2Proof.Machine

-- CNVCFG (R313) and what apply sets (R315, R321, R333)

/-- A chiplet's block of CNVCFG. -/
def State.cnvPlan (s : State) (k : Nat) : Nat := if s.record 8 = [] then 0xFF else leAt (s.record 8) (16 * k) 1
def State.cnvTxFc (s : State) (k : Nat) : Nat := leAt (s.record 8) (16 * k + 4) 4
def State.cnvRxFc (s : State) (k : Nat) : Nat := leAt (s.record 8) (16 * k + 8) 4

/-- Nyquist frequency of a plan's DAC in kHz (R312). -/
def dacNyquist (plan : Nat) : Int := if plan = 0 then 9830400 else 11796480

/-- Occupied bandwidth of a carrier in Hz (R220). -/
def State.carBand (s : State) (c : Nat) : Nat := 12 * s.nPrb c * (15000 * 2 ^ s.scs c)

/-- OFFSET of a carrier in Hz (R219). -/
def State.carOffset (s : State) (c : Nat) : Int := ((s.carrier? c).map (fun b => signed 32 (leAt b 8 4))).getD 0

/-- The TX band of a path at a centre frequency in kHz, in Hz (R314). -/
def State.txBand (s : State) (fc : Nat) : Option (Int × Int) :=
  let l := (s.carriers.filter (fun c => decide (0 < s.dlLayers c))).map (fun c =>
    ((fc : Int) * 1000 + s.carOffset c - s.carBand c / 2, (fc : Int) * 1000 + s.carOffset c + s.carBand c / 2))
  match l with
  | [] => none
  | x :: r => some (r.foldl (fun b y => (min b.1 y.1, max b.2 y.2)) x)

/-- What apply sets in the converter registers. (Log: 124 DEDUCED) -/
def State.cnvApply (s : State) : State :=
  let ks := List.range s.part.chiplets
  let t := (s.put R.CNV_CFG.PLAN1 ((ks.filter (fun k => s.cnvPlan k == 1)).foldl (fun m k => m + 2 ^ k) 0)).put R.CNV_CFG.USED
    ((ks.filter (fun k => s.cnvPlan k != 0xFF)).foldl (fun m k => m + 2 ^ k) 0)
  let u := t.each ks (fun k t => t.put ⟨R.CNV_QSTAT0.w.addr + 4 * k, 2, 1⟩
    (((List.range 2).filter (fun j => t.captures (2 * k + j))).foldl (fun m j => m + 2 ^ j) 0))
  let v := u.each (List.range s.part.paths) (fun n t =>
    let k := chipOf n
    let mix := match t.txBand (t.cnvTxFc k) with
      | some b => t.used n && decide (dacNyquist (t.cnvPlan k) * 1000 ≤ b.1)
      | none => false
    ((((t.putFlag (R.CNV_PATHSTAT_n.MIXMODE n) mix).putFlag (R.CNV_PATHSTAT_n.RX_ON n) (t.rxUsed n && t.cnvPlan k != 0xFF)).put
      (R.CNV_TXNCO_n.FC n) (t.cnvTxFc k)).put (R.CNV_RXNCO_n.FC n) (t.cnvRxFc k)))
  v.each (biasOuts s.part) (fun o t =>
    let g := if t.record 9 = [] then 0xFF else leAt (t.record 9) o 1
    t.put (bGroup o) (if g = 0xFF then 0x1F else g))

/-- Every NCO at its CNVCFG frequency (R319). -/
def State.ncoHome (s : State) : State :=
  s.each (List.range s.part.paths) (fun n t => (t.put (R.CNV_TXNCO_n.FC n) (t.cnvTxFc (chipOf n))).put (R.CNV_RXNCO_n.FC n) (t.cnvRxFc (chipOf n)))

/-- A path's tone generator takes a setting. -/
def State.toneSet (s : State) (n : Nat) (w0 w1 : Nat) : State :=
  ((s.put (R.CNV_TONEF_n.FREQ n) w0).put (R.CNV_TONEA_n.AMPL n) (bits w1 12 0)).put (R.CNV_PATHSTAT_n.TONE n) (bits w1 14 13)

/-- START: NCOs home, tones OFF, every used path leaves the quiet state (R319, R320, R324). -/
def State.cnvStart (s : State) : State :=
  let t := s.ncoHome.each (List.range s.part.paths) (fun n t => t.put (R.CNV_PATHSTAT_n.TONE n) 0)
  { t with cnv := { t.cnv with active := (List.range t.part.paths).filter t.used } }.renewQuiet

/-- The end of a run: NCOs home and DACs quiet; what still waits for a boundary of the run is dropped (R319, R320). (Log: 123 DEDUCED) -/
def State.cnvIdle (s : State) : State :=
  { s.ncoHome with cnv := { s.cnv with active := [], pend := [], latched := [] } }.renewQuiet

-- Converter actions (R317, R318)

/-- Let a converter action wait for its boundary; the later-firing of two of one OP, path and boundary prevails. -/
def State.cnvPend (s : State) (a : Act) (op : Nat) (x y : Nat) : State :=
  let at_ := s.actBound a
  s.each (unitPaths s.part a.unit.toNat) (fun n t =>
    { t with cnv := { t.cnv with pend := t.cnv.pend.filter (fun p => !(p.path == n && p.op == op && p.at_ == at_)) ++ [⟨n, op, at_, x, y⟩] } })

/-- ARG [22:7]: the PARAM index. -/
def Act.param (a : Act) : Nat := bits a.arg.toNat 22 7

/-- SET_NCO_TX (R317). -/
def execSetNcoTx (a : Act) (s : State) : Out := s.onFire a (fun s => s.cnvPend a 0 (s.param a.param % 2 ^ 24) 0)

/-- SET_NCO_RX (R317). -/
def execSetNcoRx (a : Act) (s : State) : Out := s.onFire a (fun s => s.cnvPend a 1 (s.param a.param % 2 ^ 24) 0)

/-- DAC_QUIET (R317). -/
def execDacQuiet (a : Act) (s : State) : Out := s.onFire a (fun s => s.cnvPend a 2 0 0)

/-- DAC_ACTIVE (R317). -/
def execDacActive (a : Act) (s : State) : Out := s.onFire a (fun s => s.cnvPend a 3 0 0)

/-- TONE (R317, R322): the two PARAM words. -/
def execTone (a : Act) (s : State) : Out := s.onFire a (fun s => s.cnvPend a 4 (s.param a.param) (s.param (a.param + 1)))

/-- A waiting converter action takes effect (R319, R320, R338): under policy 1 a retuned path takes its corrections at once. -/
def State.cnvTake (s : State) (p : CnvPend) : State :=
  let retune (t : State) := if t.calPolicy (chipOf p.path) = 0 then t.requestRetune p.path else t
  match p.op with
  | 0 => retune (s.put (R.CNV_TXNCO_n.FC p.path) p.a)
  | 1 =>
    let u : State := { s with rxc := { s.rxc with taken := s.rxc.taken ++ [⟨p.path, 8, p.at_, p.a⟩] } }
    let t := retune ((u.put (R.CNV_RXNCO_n.FC p.path) p.a).invalidateAll p.path p.at_ 96)
    if s.calPolicy (chipOf p.path) = 0 then t else t.renewComp [p.path]
  | 2 => { s with cnv := { s.cnv with active := s.cnv.active.filter (· != p.path) } }.renewQuiet
  | 3 => if s.used p.path ∧ !s.cnv.active.contains p.path then { s with cnv := { s.cnv with active := s.cnv.active ++ [p.path] } }.renewQuiet else s
  | _ => s.toneSet p.path p.a p.b

/-- CONVERTER_BOUNDARY (R318): every converter action whose boundary is the tick. -/
def execConverterBoundary (bound : Nat) (s : State) : Out :=
  let l := s.cnv.pend.filter (fun p => p.at_ == bound)
  .next ({ s with cnv := { s.cnv with pend := s.cnv.pend.filter (fun p => p.at_ != bound) } }.each l (fun p t => t.cnvTake p))

-- Tones (R322 to R324)

/-- tab(k) of R323. -/
def toneTab (k : Nat) : Int :=
  roundDiv (32767 * sinPi (2 * k + 1) 16384) (2 ^ 96)

/-- The tone sample of R323: engine sample `i` of its subframe at engine rate multiple `m`. -/
def toneSample (freq : Int) (ampl m i : Nat) : Int × Int :=
  let inc := unsigned 32 (roundDiv (freq * 1000 * 2 ^ 32) (m * 491520000))
  let ph := i * inc % 2 ^ 32
  let k := bits ph 29 18
  let a := toneTab k
  let b := toneTab (4095 - k)
  let cs := match bits ph 31 30 with
    | 0 => (b, a)
    | 1 => (-a, b)
    | 2 => (-b, -a)
    | _ => (a, -b)
  (((ampl : Int) * cs.1 + 2 ^ 14) / 2 ^ 15, ((ampl : Int) * cs.2 + 2 ^ 14) / 2 ^ 15)

/-- The tone setting of a path for the engine symbol at an air tick: of the latest TONE at or before it, else the one in force; OFF in the
symbols that are prepared before the START boundary (R324). -/
def State.toneAt (s : State) (n at_ : Nat) : Int × Nat × Nat :=
  let l := s.cnv.pend.filter (fun p => p.path == n && p.op == 4 && decide (p.at_ ≤ at_))
  match l with
  | [] => if s.run = runStarting then (0, 0, 0) else (s.getInt (R.CNV_TONEF_n.FREQ n), s.get (R.CNV_TONEA_n.AMPL n), s.get (R.CNV_PATHSTAT_n.TONE n))
  | x :: r => let b := r.foldl (fun b y => if b.at_ ≤ y.at_ then y else b) x
    (signed 32 b.a, bits b.b 12 0, bits b.b 14 13)

-- Bias outputs (R326 to R332)

/-- BIAS_STAGE (R329): COUNT PARAM words, each an output with its code and range. -/
def execBiasStage (a : Act) (s : State) : Out :=
  s.onFire a (fun s =>
    s.each (List.range (bits a.arg.toNat 22 16)) (fun i t =>
      let w := t.param (bits a.arg.toNat 15 0 + i)
      let o := bits w 6 0
      if (biasOuts t.part).contains o then (((t.put (sCode o) (bits w 19 8)).put (sRange o) (bits w 21 20)).put (sPending o) 1) else t))

/-- A STROBE meets a pending stage: latched for the boundary, or skipped while its output switches (R330, R331). (Log: 122 DEDUCED) -/
def State.strobe (s : State) (at_ o : Nat) : State :=
  if s.flag (bSwitching o) then (s.put R.CNV_BSTAT.STROBE_SKIP 1).count R.CNV_CNT_BSKIP.BSKIP R.CNV_CNTOVF.OVF 0
  else { s with cnv := { s.cnv with latched := s.cnv.latched ++ [⟨o, at_, s.get (sCode o), s.get (sRange o)⟩] } }

/-- BIAS_STROBE (R330). -/
def execBiasStrobe (a : Act) (s : State) : Out :=
  s.onFire a (fun s =>
    let at_ := s.actBound a
    s.each ((biasOuts s.part).filter (fun o => s.flag (sPending o) && s.get (bGroup o) != 0x1F
        && (a.unit.toNat == 0xFF || s.get (bGroup o) == a.unit.toNat))) (fun o t => t.strobe at_ o))

/-- A latched stage reaches its boundary (R330, R331). PENDING clears unless a later STAGE has replaced the latched one. (Log: 122 DEDUCED) -/
def State.biasTake (s : State) (b : BiasLatch) : State :=
  if s.flag (bSwitching b.out) then s
  else if s.get (bRange b.out) = b.range then
    let t := (s.put (bCode b.out) b.code).put (bSafe b.out) 0
    if s.get (sCode b.out) = b.code ∧ s.get (sRange b.out) = b.range then t.put (sPending b.out) 0 else t
  else
    let t := (((s.put (bCode b.out) b.code).put (bRange b.out) b.range).put (bSwitching b.out) 1).put (bSafe b.out) 1
    { t with cnv := { t.cnv with latched := t.cnv.latched.filter (fun x => x.out != b.out) } }

/-- BIAS_BOUNDARY (R330). -/
def execBiasBoundary (bound : Nat) (s : State) : Out :=
  let l := s.cnv.latched.filter (fun b => b.at_ == bound)
  .next ({ s with cnv := { s.cnv with latched := s.cnv.latched.filter (fun b => b.at_ != bound) } }.each l (fun b t => t.biasTake b))

/-- BIAS_RANGE_SWITCH_DONE (R331): 1,967 ticks after the boundary; the output holds its safe voltage. -/
def execBiasRangeSwitchDone (out : Nat) (s : State) : Out :=
  if 128 ≤ out then .next s
  else .next ({ s with cnv := { s.cnv with toZero := s.cnv.toZero.filter (·.1 != out) } }.put (bSwitching out) 0)

end Sys2Proof.Machine
end

