-- ==== Sys2Proof/Machine/Lanes.lean ====
section
/-! DEFINITION. The lane layer of the Welbueth link (06_link_lanes.md): bring-up, alignment, lock supervision, map changes,
replay, sleep and the lane registers' own commands. -/

namespace Sys2Proof.Machine

-- Lanes and ports

/-- The port of a lane of R168, and the lane's number within it. -/
def lanePort (n : Nat) : Port := if n < 16 then .up else .cas
def laneIdx (n : Nat) : Nat := if n < 16 then n else n - 16

/-- The lanes of a port on this part. -/
def State.portLanes (s : State) : Port → List Nat
  | .up => List.range s.part.ulanes
  | .cas => if s.part.ex then (List.range 8).map (· + 16) else []

def State.lane (s : State) (n : Nat) : Lane := sparseGet {} s.lnk.lanes n
def State.setLane (s : State) (n : Nat) (l : Lane) : State := { s with lnk := { s.lnk with lanes := sparseSet {} s.lnk.lanes n l } }

-- The registers of a port
def pState : Port → Fld
  | .up => R.LNK_PSTAT.UP_STATE
  | .cas => R.LNK_PSTAT.CAS_STATE
def pRate : Port → Fld
  | .up => R.LNK_PSTAT.UP_RATE
  | .cas => R.LNK_PSTAT.CAS_RATE
def pTxMap : Port → Fld
  | .up => R.LNK_UMAP.TXMAP
  | .cas => R.LNK_CMAP.TXMAP
def pRxMap : Port → Fld
  | .up => R.LNK_UMAP.RXMAP
  | .cas => R.LNK_CMAP.RXMAP
def pTxEpoch : Port → Fld
  | .up => R.LNK_EPOCH.UP_TX
  | .cas => R.LNK_EPOCH.CAS_TX
def pRxEpoch : Port → Fld
  | .up => R.LNK_EPOCH.UP_RX
  | .cas => R.LNK_EPOCH.CAS_RX
def pMin : Port → Fld
  | .up => R.LNK_CFG.MINLANES_U
  | .cas => R.LNK_CFG.MINLANES_C
def pRev : Port → Fld
  | .up => R.LNK_PROTO.UP_REV
  | .cas => R.LNK_PROTO.CAS_REV
def pPs20 : Port → Fld
  | .up => R.LNK_SEG.UP_PS20
  | .cas => R.LNK_SEG.CAS_PS20
/-- LNK_DEG field of a port and direction: 0 downlink, 1 uplink. -/
def pDeg : Port → Nat → Fld
  | .up, 0 => R.LNK_DEG.UP_DL
  | .up, _ => R.LNK_DEG.UP_UL
  | .cas, 0 => R.LNK_DEG.CAS_DL
  | .cas, _ => R.LNK_DEG.CAS_UL

/-- A half of a port has begun to train: the port is in TRAIN until capability exchange (LNK_PSTAT). (Log: 241 DEDUCED) -/
def State.portTrains (s : State) (p : Port) : State := if s.get (pState p) = 1 then s.put (pState p) 2 else s

/-- Set a receive half's progress and RXSTATE alike (R152). -/
def State.setRx (s : State) (n st : Nat) : State :=
  (s.setLane n { s.lane n with prog := st }).put (R.LNK_LSTAT_n.RXSTATE n) st

/-- Set a receive half's progress; RXSTATE follows unless the half is EXCLUDED. -/
def State.setProg (s : State) (n st : Nat) : State :=
  if s.get (R.LNK_LSTAT_n.RXSTATE n) = 7 then s.setLane n { s.lane n with prog := st } else s.setRx n st

def State.rxState (s : State) (n : Nat) : Nat := s.get (R.LNK_LSTAT_n.RXSTATE n)
def State.txState (s : State) (n : Nat) : Nat := s.get (R.LNK_LSTAT_n.TXSTATE n)
def State.setTx (s : State) (n st : Nat) : State := s.put (R.LNK_LSTAT_n.TXSTATE n) st

/-- The lanes of a port that the part has, as a mask: a bit of an absent lane reads 0 (R168). -/
def State.laneMask (s : State) (p : Port) : Nat := 2 ^ (s.portLanes p).length - 1

/-- Receive halves of a port that are ALIGNED or ACTIVE, by logical lane: RX_GOOD of R149. -/
def State.rxGood (s : State) (p : Port) : Nat :=
  (s.portLanes p).foldl (fun m n => if s.rxState n = 5 ∨ s.rxState n = 6 then maskSet m (s.get (R.LNK_LSTAT_n.LANE n)) else m) 0

/-- Payload of a lane in kbit/s at a rate code (R147). -/
def lanePayload (rate : Nat) : Nat :=
  match rate with
  | 0 => 54532000
  | 1 => 27266000
  | _ => 13633000

/-- The most U-plane layers of a direction (0 downlink, 1 uplink) that the applied sheaf has on a carrier. -/
def State.mostLayers (s : State) (dir : Nat) : Nat :=
  (s.carriers.map (fun c => if dir = 0 then s.dlLayers c else leAt (s.record 7) (32 + 8 * c) 1)).foldl max 0

/-- What a sheaf reserves on a port direction with that many U-plane layers fits a count of lanes at the port's rate (R163). (Log: 50 DESIGN CHOICE) -/
def State.layersFit (s : State) (sh : Sheaf) (p : Port) (dir count layers : Nat) : Bool :=
  decide (Config.linkLoad sh.digest (portKey p) dir layers ≤ count * lanePayload (s.get (pRate p)))

/-- Layers carried with a count of lanes in the map (R163): the DEGRADE entry, or without the section the largest count
whose load fits. 0 while no sheaf is applied. (Log: 183 DEDUCED) -/
def State.layersFor (s : State) (p : Port) (dir count : Nat) : Nat :=
  match s.shf.applied with
  | none => 0
  | some sh =>
    if sh.sect 0x0A ≠ [] then Config.degrade (sh.sect 0x0A) (portKey p) dir count
    else (List.range (s.mostLayers dir + 1)).foldl (fun b l => if s.layersFit sh p dir count l then l else b) 0

/-- Note a change of UP_DL, and forget those of more than two subframes ago but the one then in force (R164). -/
def State.noteDeg (s : State) (old : Nat) : State :=
  let new := s.get (pDeg .up 0)
  if new = old then s
  else { s with lnk := { s.lnk with degHist := (s.tick, old) :: s.lnk.degHist.filter (fun e => decide (s.tick ≤ e.1 + 2 * subTicks)) } }

/-- Show the layer counts of LNK_DEG for the maps in force (R163). (Log: 183 DEDUCED) -/
def State.putDeg (s : State) (p : Port) : State :=
  let dl := s.layersFor p 0 (popcount (s.get (if p == .up then pRxMap p else pTxMap p)) 16)
  let ul := s.layersFor p 1 (popcount (s.get (if p == .up then pTxMap p else pRxMap p)) 16)
  ((s.put (pDeg p 0) dl).put (pDeg p 1) ul).noteDeg (s.get (pDeg .up 0))

/-- Renew the layer counts of LNK_DEG after a map change; fewer layers than before set LNK_PEVENT.SHED (R164). (Log: 183 DEDUCED) -/
def State.renewDeg (s : State) (p : Port) : State :=
  let t := s.putDeg p
  if t.get (pDeg p 0) < s.get (pDeg p 0) ∨ t.get (pDeg p 1) < s.get (pDeg p 1) then t.linkEvent 2 else t

/-- ACTIVE, or DEGRADED while a lane is excluded or held (LNK_PSTAT). -/
def State.renewState (s : State) (p : Port) : State :=
  if s.portUp p then
    s.put (pState p) (if (s.portLanes p).any (fun n => s.rxState n == 7 || s.rxState n == 9) then 5 else 4)
  else s

/-- What a lane keeps when its receive half starts again from DETECT, the transmit half's sleep among it (R166): MANUAL takes effect then (R156). -/
def State.freshLane (s : State) (n : Nat) : Lane :=
  let l := s.lane n
  { prog := 1, excls := l.excls, slips := l.slips, manual := s.flag (R.LNK_LCTL_n.MANUAL n), txSleep := l.txSleep }

/-- Start bring-up of a port from DETECT at a rate (R152, R154). LNK_CFG takes effect (R168), the hop has no revision (R216). Halves that
DISABLE holds stay OFF, and a HELD half stays HELD (R161). -/
def State.bringUp (s : State) (p : Port) (rate : Nat) : State :=
  let q := s.port p
  let s1 := s.setPort p { q with
    waiting := false, minLanes := s.get (pMin p), aligned := 0, parts := [], farRec := none, ackGot := false, sentRec := [], farGood := 0, goodSince := [],
    hunting := false, rest := [] }
  let s2 := ((((((s1.put (pState p) 1).put (pRate p) rate).put (pTxMap p) 0).put (pRxMap p) 0)).put (pRev p) 0).put (pPs20 p) 0
  s2.each (s.portLanes p) (fun n t =>
    let st := if t.flag (R.LNK_LCTL_n.DISABLE n) then 0 else 1
    if st = 1 ∧ t.rxState n = 9 then (t.setTx n st).setLane n { t.lane n with txSleep := false }
    else (t.setLane n { t.freshLane n with prog := st, txSleep := false }).put (R.LNK_LSTAT_n.RXSTATE n) st |>.setTx n st)

/-- A restart of bring-up at MAXRATE (R165, R168). On the upstream port POS ends (R174), and ALERT_N goes low when the
port had been ACTIVE (R165). (Log: 214 DEDUCED) -/
def State.restartPort (s : State) (p : Port) : State :=
  let t := s.bringUp p (s.get R.LNK_CFG.MAXRATE)
  match p with
  | .up =>
    let u := t.put R.LNK_PROTO.POS_VALID 0
    if (s.port .up).everActive then u.alertN 5 true else u
  | .cas => t

/-- PORT_DOWN: a direction's map has fallen below MINLANES (R165). -/
def State.portDown (s : State) (p : Port) : State :=
  (s.linkEvent (if p == .up then 0 else 1)).restartPort p

/-- The map of a direction has fallen below MINLANES (R165): test after a map change. -/
def State.testMin (s : State) (p : Port) : State :=
  if s.portUp p && (decide (popcount (s.get (pRxMap p)) 16 < (s.port p).minLanes)
      || decide (popcount (s.get (pTxMap p)) 16 < (s.port p).minLanes)) then s.portDown p else s

/-- A receive half is in block lock: BLOCK_LOCK, ALIGNED, ACTIVE, or as far on its way back from EXCLUDED. -/
def State.blockLocked (s : State) (n : Nat) : Bool := decide (4 ≤ (s.lane n).prog ∧ 4 ≤ s.rxState n ∧ s.rxState n ≤ 7)

/-- With no receive half of a port in block lock no marker can bring the map change, and its receive direction has no lane left (R165). (Log: 267 DEDUCED) -/
def State.testDead (s : State) (p : Port) : State :=
  if s.portUp p && (s.portLanes p).all (fun n => !s.blockLocked n) then s.portDown p else s

/-- Exclude a receive half (R158): EXCLUDED, or HELD at the fourth exclusion within 10 s (R161). It retrains from DETECT, which is no
attempt of LNK_CNT_RETRAIN. (Log: 243 DEDUCED) -/
def State.exclude (s : State) (n : Nat) : State :=
  let ex := (s.tim.cycles :: (s.lane n).excls).take 4
  let held := decide (ex.length = 4 ∧ s.tim.cycles ≤ ex.getLastD 0 + 4915200000)
  let t := (s.setLane n { s.freshLane n with excls := ex }).put (R.LNK_LSTAT_n.RXSTATE n) (if held then 9 else 7)
  (((t.count (R.LNK_CNT_EXCL_n.EXCL n) (R.LNK_CNTOVF_n.OVF n) 4)).renewState (lanePort n)).testDead (lanePort n)

/-- Loss of lock of a receive half: ALIGNED and ACTIVE halves are excluded, earlier ones start again from DETECT (R157, R158); a woken one
stays woken, for the fall-back of R167. (Log: 244 DEDUCED) -/
def State.loseLock (s : State) (n : Nat) : State :=
  if s.rxState n = 5 ∨ s.rxState n = 6 then s.exclude n
  else ((s.setProg n 1).setLane n { s.freshLane n with woken := (s.lane n).woken }).testDead (lanePort n)

/-- Loss of lock, counted (R157). -/
def State.lockLost (s : State) (n : Nat) : State := (s.count (R.LNK_CNT_LOL_n.LOL n) (R.LNK_CNTOVF_n.OVF n) 1).loseLock n

/-- A marker error on a half; the second in a row is a loss of lock (R150, R157). (Log: 213 DEDUCED) -/
def State.markerError (s : State) (n : Nat) : State :=
  let t := s.count (R.LNK_CNT_MK_n.MK n) (R.LNK_CNTOVF_n.OVF n) 3
  if (s.lane n).mkErr then t.lockLost n else t.setLane n { t.lane n with mkErr := true }

-- Blocks (R148)

/-- What a 66-bit block is by its sync header and, for a control block, byte 0. -/
inductive BlockKind where
  | data | idle | training | capability | marker | invalid
  deriving DecidableEq, Repr

def blockKind (header b0 : Nat) : BlockKind :=
  match header, b0 with
  | 1, _ => .data
  | 2, 0x1E => .idle
  | 2, 0x3A => .training
  | 2, 0x5E => .capability
  | 2, 0x7C => .marker
  | _, _ => .invalid

/-- A control block of 8 bytes is of a kind. -/
def blockIs (k : BlockKind) (b : List Byte) : Bool := b.length == 8 && blockKind 2 (leAt b 0 1) == k

/-- Bytes of a message in payload order (R169 to R171). -/
def Sent.bytes (w : Sent) : List Byte :=
  let h := leBytes 1 w.plane ++ leBytes 1 w.typ ++ leBytes 1 (w.rev + (if w.ackReq then 4 else 0) + (if w.replay then 8 else 0)) ++ leBytes 1 w.hop
    ++ leBytes 1 w.dest ++ leBytes 1 w.src ++ leBytes 2 w.seq ++ leBytes 4 w.air.toNat ++ leBytes 2 (lenWords w.body.length)
  h ++ leBytes 2 (crc16 h).toNat ++ padBody w.body ++ leBytes 4 w.crc.toNat

/-- The lane on which the k-th payload block after a marker goes (R148). -/
def stripeLane (map k : Nat) : Nat := ((maskList map 16).drop (k % popcount map 16)).head?.getD 0

/-- Payload blocks striped over a map, each with its lane. -/
def stripe (map : Nat) (bytes : List Byte) : List (Nat × List Byte) :=
  (List.range (bytes.length / 8)).map (fun k => (stripeLane map k, (bytes.drop (8 * k)).take 8))

/-- The payload blocks that a port has sent since its last marker, in order, each with the lane it went out on (R148). -/
def State.striped (s : State) (p : Port) : List (Nat × List Byte) :=
  stripe (s.get (pTxMap p)) (((s.wire.drop (s.port p).mark).filter (fun w => w.port == p)).flatMap Sent.bytes)

-- Bring-up commands

/-- LANE_SIGNAL_DETECT (R152): DETECT to TRAIN; a half in SLEEP wakes with its settings kept (R167). -/
def execLaneSignalDetect (lane : Nat) (s : State) : Out :=
  if s.part.hasLane lane then
    if s.rxState lane = 8 then
      .next ((s.setRx lane 2).setLane lane { s.lane lane with prog := 2, trained := true, woken := true, mseq := none, mkErr := false })
    else if (s.lane lane).prog = 1 ∧ s.rxState lane ≠ 9 ∧ s.rxState lane ≠ 0 then .next ((s.setProg lane 2).portTrains (lanePort lane))
    else .next s
  else .next s

/-- LANE_DETECT_TIMEOUT (R152): a half in DETECT that found nothing in 10 ms goes OFF until the next bring-up; a woken half has
fallen back to R161 before that (R167). -/
def execLaneDetectTimeout (lane : Nat) (tx : Bool) (s : State) : Out :=
  if s.part.hasLane lane then
    if tx then .next (if s.txState lane = 1 then s.setTx lane 0 else s)
    else .next (if s.rxState lane = 1 ∧ !(s.lane lane).woken then s.setRx lane 0 else s)
  else .next s

/-- TERMINATION_DETECT (R152): a transmit half in DETECT begins the training pattern. -/
def execTerminationDetect (lane : Nat) (s : State) : Out :=
  if s.part.hasLane lane ∧ s.txState lane = 1 then .next ((s.setTx lane 2).portTrains (lanePort lane)) else .next s

/-- A transmit tap after a request (R153): 0 hold, 1 increment, 2 decrement, 3 preset; the taps stay within their field. (Log: 165 DESIGN CHOICE) -/
def tapAfter (tap old req : Nat) : Nat :=
  match req with
  | 1 => if old < 31 then old + 1 else old
  | 2 => old - 1
  | 3 => Config.firPreset tap % 32
  | _ => old

/-- LIMIT of R153: a bit for each tap of the transmit half that stands at an end of its field. (Log: 165 DESIGN CHOICE) -/
def State.tapLimits (s : State) (n : Nat) : Nat :=
  let at_ (f : Fld) : Nat := if s.get f = 0 ∨ s.get f = 31 then 1 else 0
  at_ (R.LNK_LEQ_n.TX_PRE n) + 2 * at_ (R.LNK_LEQ_n.TX_MAIN n) + 4 * at_ (R.LNK_LEQ_n.TX_POST n)

/-- The training control block that a lane sends (R153). -/
def State.trainingBlock (s : State) (n : Nat) : List Byte :=
  let l := s.lane n
  leBytes 1 0x3A ++ leBytes 1 (laneIdx n) ++ leBytes 1 (l.req % 64) ++ leBytes 1 (s.tapLimits n + (if l.ready then 8 else 0)) ++ leBytes 4 0

/-- TRAINING_CONTROL_BLOCK (R153): the transmit half adjusts its taps as the far end requests; its LIMIT and RX_READY are noted. `req` is
what the lane's receiver now asks of the far taps, `converged` that it asks nothing more: both go into the blocks the lane sends. (Log: 5 DESIGN CHOICE) -/
def execTrainingControlBlock (lane : Nat) (block : List Byte) (s : State) (req : BitVec 6 := 0) (converged : Bool := false) : Out :=
  if s.part.hasLane lane ∧ (s.lane lane).prog = 2 ∧ blockIs .training block then
    let rq := leAt block 2 1
    let t1 := s.put (R.LNK_LEQ_n.TX_PRE lane) (tapAfter 0 (s.get (R.LNK_LEQ_n.TX_PRE lane)) (bits rq 1 0))
    let t2 := t1.put (R.LNK_LEQ_n.TX_MAIN lane) (tapAfter 1 (s.get (R.LNK_LEQ_n.TX_MAIN lane)) (bits rq 3 2))
    let t3 := t2.put (R.LNK_LEQ_n.TX_POST lane) (tapAfter 2 (s.get (R.LNK_LEQ_n.TX_POST lane)) (bits rq 5 4))
    let t4 := t3.put (R.LNK_LSTAT_n.LANE lane) (leAt block 1 1 % 16)
    let l := t4.lane lane
    .next (t4.setLane lane { l with
      readyGot := l.readyGot || bit (leAt block 3 1) 3, farLimit := bits (leAt block 3 1) 2 0, req := req.toNat, ready := l.ready || converged })
  else .next s

/-- LANE_TRAIN_DONE (R153): with RX_READY received, the receive half has sent its own and leaves training; the transmit
half goes to STANDBY. `ctle` is the setting the receiver has converged to. -/
def execLaneTrainDone (lane ctle : Nat) (s : State) : Out :=
  if s.part.hasLane lane ∧ (s.lane lane).prog = 2 ∧ (s.lane lane).readyGot then
    let t := (s.setLane lane { s.lane lane with trained := true, ready := true }).put (R.LNK_LEQ_n.RX_CTLE lane) ctle
    .next (if t.txState lane = 2 then t.setTx lane 3 else t)
  else .next s

/-- LANE_BIT_LOCK (R152). (Log: 15 DEDUCED) -/
def execLaneBitLock (lane : Nat) (s : State) : Out :=
  if s.part.hasLane lane ∧ (s.lane lane).prog = 2 ∧ (s.lane lane).trained then .next (s.setProg lane 3) else .next s

/-- LANE_BLOCK_LOCK (R152); inverted polarity is found by inverted sync headers and corrected (R151). -/
def execLaneBlockLock (lane : Nat) (inverted : Bool) (s : State) : Out :=
  if s.part.hasLane lane ∧ (s.lane lane).prog = 3 then
    .next ((s.setProg lane 4).putFlag (R.LNK_LSTAT_n.POLINV lane) inverted)
  else .next s

/-- LANE_ALIGNED (R152, R162): two markers at the correct spacing within the deskew of R151; the logical number comes from
LANE. A half of a port that is already ACTIVE shows in RX_GOOD from its next marker on and rejoins there. -/
def execLaneAligned (lane logical : Nat) (s : State) : Out :=
  if s.part.hasLane lane ∧ (s.lane lane).prog = 4 ∧ logical < 16 then
    let t := (s.setRx lane 5).put (R.LNK_LSTAT_n.LANE lane) logical
    .next ((t.setLane lane { t.lane lane with woken := false, mkErr := false }).renewState (lanePort lane))
  else .next s

/-- LANE_LOSS_OF_LOCK (R157): counted, and with the effects of R158 to R165; `invalid` sync headers have been seen since the lane's last
marker, 16 of them at least where they are the cause. -/
def execLaneLossOfLock (lane : Nat) (cause : LockLoss) (s : State) (invalid : Nat := 0) : Out :=
  if s.part.hasLane lane ∧ 3 ≤ (s.lane lane).prog ∧ s.rxState lane ≠ 8 ∧ s.rxState lane ≠ 9 then
    let t := if cause = .signal then s.count (R.LNK_CNT_LOS_n.LOS lane) (R.LNK_CNTOVF_n.OVF lane) 0 else s
    .next ((t.countBy (R.LNK_CNT_SH_n.SH lane) (R.LNK_CNTOVF_n.OVF lane) 2 (if cause = .headers then max 16 invalid else invalid)).lockLost lane)
  else .next s

/-- BRINGUP_TIMEOUT (R154): enough halves are ALIGNED and the port goes to capability exchange, or it restarts one rate
lower; after rate code 2 it waits. A transmit half counts from STANDBY on. (Log: 245 DEDUCED, 266 DESIGN CHOICE) -/
def execBringupTimeout (port : Port) (s : State) : Out :=
  if s.get (pState port) = 1 ∨ s.get (pState port) = 2 then
    let q := s.port port
    let rx := ((s.portLanes port).filter (fun n => s.rxState n == 5)).length
    let tx := ((s.portLanes port).filter (fun n => s.txState n == 3)).length
    if q.minLanes ≤ rx ∧ q.minLanes ≤ tx then .next ((s.put (pState port) 3).setPort port { q with aligned := s.rxGood port })
    else if s.get (pRate port) < 2 then .next (s.bringUp port (s.get (pRate port) + 1))
    else .next ((s.put (pState port) 0).setPort port { q with waiting := true })
  else .next s

/-- BRINGUP_RETRY (R154): after the 100 ms wait, bring-up starts again at MAXRATE. -/
def execBringupRetry (port : Port) (s : State) : Out :=
  if (s.port port).waiting then .next (s.bringUp port (s.get R.LNK_CFG.MAXRATE)) else .next s

/-- The fields of a capability record are in range (R155). -/
def capabilityOk (p : Port) (r : List Byte) : Bool :=
  decide (1 ≤ leAt r 0 1 ∧ leAt r 0 1 ≤ 3) && decide (leAt r 1 1 ≤ 2) && (p == .up || decide (leAt r 2 2 < 256))
    && decide (1 ≤ leAt r 4 1 ∧ leAt r 4 1 ≤ 3) && decide (leAt r 5 1 ≤ 1) && zeroAt r 14 4

/-- The device's own capability record (R155, R211); RX_ALIGNED are the halves that were ALIGNED when the port proceeded and still are. -/
def State.ownRecord (s : State) (p : Port) : List Byte :=
  let q := s.port p
  leBytes 1 (if p == .up then 2 else 3) ++ leBytes 1 (s.get (pRate p)) ++ leBytes 2 (maskAnd q.aligned (s.rxGood p) 16)
    ++ leBytes 1 (s.get R.LNK_PROTO.REV_MAX) ++ leBytes 1 (if q.farRec.isSome then 1 else 0)
    ++ leBytes 4 (s.word R.SYS_CAP0.w.addr).toNat ++ leBytes 4 (s.word R.SYS_CAP1.w.addr).toNat ++ leBytes 4 0

/-- The three capability blocks of a record (R155). -/
def capabilityBlocks (r : List Byte) : List (List Byte) :=
  (List.range 3).map (fun k => leBytes 1 0x5E ++ leBytes 1 k ++ (r.drop (6 * k)).take 6)

/-- A record with ACK = 1 has been sent, and one received (R155). -/
def PortSt.exchanged (q : PortSt) : Bool := q.ackGot && bit (leAt q.sentRec 5 1) 0

/-- The first frame boundary at least 1 ms after a tick (R162, R210). -/
def State.boundaryAfterMs (s : State) (a : Nat) : Nat := s.frameBoundary (a + subTicks)

/-- The segment status that the hop revisions give (R209). (Log: 268 DESIGN CHOICE) -/
def State.isBoundary (s : State) : Bool :=
  s.get R.LNK_PROTO.POS != 0 && decide ((s.get R.LNK_PROTO.UP_REV = 3) ≠ (s.get R.LNK_PROTO.CAS_REV = 3)) && s.portUp .cas

/-- What a determination of the boundary status fixes: the status, and whether the upstream and the cascade hop are PS20 (R210). -/
def State.segStatus (s : State) : Bool × Bool × Bool :=
  (s.isBoundary, decide (s.get R.LNK_PROTO.UP_REV = 3), decide (s.get R.LNK_PROTO.CAS_REV = 3))

/-- Take a boundary status into force; a change sets CHANGED and raises SEGMENTS (R210). -/
def State.applySegment (s : State) (q : Bool × Bool × Bool) : State :=
  let b := q.1
  let up := q.2.1
  let ca := q.2.2
  let rsv := s.flag R.RXC_CFG.SEG_RESERVE
  let changed := b != s.flag R.LNK_SEG.BOUNDARY
  let t := (((s.putFlag R.LNK_SEG.BOUNDARY b).putFlag R.LNK_SEG.UP_PS20 up).putFlag R.LNK_SEG.CAS_PS20 ca).putFlag R.LNK_SEG.RESERVE rsv
  if changed then
    (t.put R.LNK_SEG.CHANGED 1).alarm 0x0030 0 (s.get R.LNK_PROTO.POS + (if up then 4 else 0) + (if ca then 8 else 0) + (if rsv then 16 else 0))
  else t

/-- The boundary status as START determines it (R210). -/
def State.startSegment (s : State) : State := s.applySegment s.segStatus

/-- The upstream port has become ACTIVE: start-up step 9 completes (R64), ALERT_N is released (R165), and TALLY_MEDIA waits
no longer (R495). (Log: 23 DEDUCED, 205 DEDUCED) -/
def State.upstreamActive (s : State) : State :=
  let t := s.alertN 5 false
  let u := if t.get R.SYS_BOOTSTAT.STAGE = 5 then
      ((t.put R.SYS_BOOTSTAT.STAGE 6).put R.SYS_BOOTSTAT.BOOT_MS (min 65535 (t.boot.refclkMs + t.tim.cycles / subTicks))) else t
  if u.tal.mediaRaise then { u with tal := { u.tal with mediaRaise := false } }.alarm 0x0020 1
    (u.get R.MEM_LVF_ADDR.ADDR + u.get R.TAL_STAT.SPARES * 2 ^ 32) else u

/-- Capability exchange is complete and its next marker has come: the port is ACTIVE, each direction's first map is the RX_ALIGNED that its
receiver announced last, and the hop has its revision (R155, R211). -/
def State.portActive (s : State) (p : Port) (r : List Byte) : State :=
  let rx := leAt (s.port p).sentRec 2 2
  let tx := maskAnd (leAt r 2 2) (s.laneMask p) 16
  let rev := min (leAt r 4 1) (s.get R.LNK_PROTO.REV_MAX)
  let s1 := ((((s.put (pState p) 4).put (pTxMap p) tx).put (pRxMap p) rx).put (pRev p) rev).putFlag (pPs20 p) (rev == 3)
  let s2 := s1.setPort p { s1.port p with everActive := true, farGood := tx, goodSince := [], stored := [], seen := s1.wire.length, mark := s1.wire.length }
  let s3 := s2.each (s.portLanes p) (fun n t =>
    let a := if t.rxState n = 5 ∧ bit rx (t.get (R.LNK_LSTAT_n.LANE n)) then t.setRx n 6 else t
    if a.txState n = 3 ∧ bit tx (laneIdx n) then a.setTx n 4 else a)
  let s4 := (s3.renewDeg p).renewState p
  let s5 := match p with
    | .up => if leAt r 0 1 = 1 then (s4.put R.LNK_PROTO.POS 0).put R.LNK_PROTO.POS_VALID 1 else s4
    | .cas => s4
  let s6 := if s.running then { s5 with lnk := { s5.lnk with segAt := some (s5.boundaryAfterMs s5.tick, s5.segStatus) } } else s5
  match p with
  | .up => s6.upstreamActive
  | .cas => s6

/-- A whole capability record from one lane (R155). Out of range, it is ignored and counted; the roles must pair. -/
def State.takeRecord (s : State) (port : Port) (lane : Nat) (record : List Byte) : State :=
  if !capabilityOk port record then s.count (R.LNK_CNT_MK_n.MK lane) (R.LNK_CNTOVF_n.OVF lane) 3
  else if !(match port with
      | .up => leAt record 0 1 == 1 || leAt record 0 1 == 3
      | .cas => leAt record 0 1 == 2) then s.linkEvent 4
  else s.setPort port { s.port port with farRec := some record, ackGot := (s.port port).ackGot || bit (leAt record 5 1) 0 }

/-- CAPABILITY_BLOCK (R155): one block of a lane, parts 0 to 2 of the record in turn; the last makes the record whole. -/
def execCapabilityBlock (port : Port) (lane : Nat) (block : List Byte) (s : State) : Out :=
  if s.get (pState port) = 3 ∧ s.part.hasLane lane ∧ lanePort lane = port ∧ blockIs .capability block then
    let q := s.port port
    let k := leAt block 1 1
    let had := sparseGet [] q.parts lane
    let got := if k = 0 then block.drop 2 else had ++ block.drop 2
    if k ≤ 2 ∧ (k = 0 ∨ had.length = 6 * k) then
      let t := s.setPort port { q with parts := sparseSet [] q.parts lane (if k = 2 then [] else got) }
      .next (if k = 2 then t.takeRecord port lane got else t)
    else .next (s.setPort port { q with parts := sparseSet [] q.parts lane [] })
  else .next s

-- Markers

/-- What a marker says of the whole port direction: NEWMAP, and MSEQ, EPOCH, TX_MAP and RX_GOOD (R150). -/
def markerSays (b : List Byte) : Bool × List Byte := (bit (leAt b 1 1) 5, (b.drop 2).take 6)

/-- What more than half of `n` lanes say (R150). -/
def majorityMark (n : Nat) (l : List (Bool × List Byte)) : Option (Bool × List Byte) := l.find? (fun v => n < 2 * l.count v)

/-- Per-half checks of one marker (R150, R151): comma, established LANE, MSEQ in sequence, skew; then SLEEP, on which a half in block lock
acts by itself (R166). (Log: 213 DEDUCED) -/
def State.takeMarker (s : State) (m : Marker) : State :=
  let l := s.lane m.lane
  let bad := !blockIs .marker m.bytes || leAt m.bytes 1 1 % 16 != s.get (R.LNK_LSTAT_n.LANE m.lane)
    || (match l.mseq with
        | some q => leAt m.bytes 2 1 != (q + 1) % 256
        | none => false)
  let t := (s.setLane m.lane { l with mseq := some (leAt m.bytes 2 1) }).countBy (R.LNK_CNT_SH_n.SH m.lane) (R.LNK_CNTOVF_n.OVF m.lane) 2 m.invalid
  if m.late then (t.count (R.LNK_CNT_MK_n.MK m.lane) (R.LNK_CNTOVF_n.OVF m.lane) 3).loseLock m.lane
  else if bad then t.markerError m.lane
  else
    let u := t.setLane m.lane { t.lane m.lane with mkErr := false }
    if bit (leAt m.bytes 1 1) 4 then (u.setRx m.lane 8).renewState (lanePort m.lane) else u

/-- Note since when RX_GOOD shows each lane that the transmit map lacks (R162). -/
def goodSinceAfter (old : Sparse Nat) (txmap good now : Nat) : Sparse Nat :=
  (List.range 16).foldl (fun m i =>
    if bit good i && !bit txmap i then (if sparseGet 0 m i = 0 then sparseSet 0 m i (now + 1) else m) else sparseSet 0 m i 0) old

/-- A receive map change announced by NEWMAP (R149, R158, R162, R166). -/
def State.newRxMap (s : State) (p : Port) (map epoch : Nat) : State :=
  let s1 := (s.put (pRxMap p) map).put (pRxEpoch p) epoch
  let s2 := s1.each (s.portLanes p) (fun n t =>
    let l := t.get (R.LNK_LSTAT_n.LANE n)
    if t.rxState n = 5 ∧ bit map l then t.setRx n 6
    else if t.rxState n = 6 ∧ !bit map l then t.setRx n 5 else t)
  ((s2.renewDeg p).renewState p).testMin p

/-- ALIGNMENT_MARKER (R150): the markers of one marker instant on the lanes of a port. What concerns the whole direction is acted on when a
majority of the port's lanes in block lock say the same. (Log: 213 DEDUCED) -/
def execAlignmentMarker (port : Port) (markers : List Marker) (s : State) : Out :=
  let locked := (s.portLanes port).filter s.blockLocked
  let ms := markers.filter (fun m => locked.contains m.lane)
  let claims := (ms.filter (fun m => blockIs .marker m.bytes)).map (fun m => markerSays m.bytes)
  let s1 := s.each ms (fun m t => t.takeMarker m)
  match majorityMark locked.length claims with
  | none => .next s1
  | some v =>
    if !s1.portUp port then .next s1
    else
      let good := maskAnd (leAt v.2 4 2) (s1.laneMask port) 16
      let q := s1.port port
      let s2 := s1.setPort port { q with farGood := good, goodSince := goodSinceAfter q.goodSince (s1.get (pTxMap port)) good s1.tick }
      .next (if v.1 then s2.newRxMap port (maskAnd (leAt v.2 2 2) (s2.laneMask port) 16) (leAt v.2 1 1) else s2)

-- The replay store (R159, R160)

/-- The newest messages of a store, oldest first, within a size. -/
def newestWithin (room : Nat) : List (Nat × Sent) → List (Nat × Sent)
  | [] => []
  | e :: r => if sentBytes ((e :: r).map (·.2)) ≤ room then e :: r else newestWithin room r

/-- The replay store after the messages sent since the last marker are entered, but for the port's own replays, and those older than 3 markers dropped (R159). -/
def State.storeReplay (s : State) (p : Port) : State :=
  let q := s.port p
  let new := ((s.wire.drop q.seen).filter (fun m => m.port == p && replayed m.plane)).map (fun m => (0, m))
  s.setPort p { q with
    stored := newestWithin replayBytes ((q.stored.map (fun e => (e.1 + 1, e.2))).filter (fun e => e.1 < 3) ++ new)
    seen := s.wire.length }

/-- REPLAY (R159): resend the stored messages in order, with the replay flag. -/
def State.replay (s : State) (p : Port) : State :=
  let q := s.port p
  let t : State := { s with wire := s.wire ++ q.stored.map (fun e => { e.2 with replay := true }) }
  t.setPort p { q with seen := t.wire.length }

/-- The waiting messages that find egress bytes and room leave, in order. -/
def State.release (p : Port) : Nat → State → State
  | 0, s => s
  | n + 1, s => State.release p n (s.outOne p)

/-- At a marker what waits goes out as far as there is room (R160, R208); an S- or M-plane message that has by then waited longer than a marker
interval sets REPLAY_OVF. (Log: 239 DEDUCED) -/
def State.releaseWaiting (s : State) (p : Port) : State :=
  let q := (s.port p).waitq
  if q = [] ∨ !s.portUp p then s
  else
    let r := State.release p q.length s
    let t := r.setPort p { r.port p with waitq := (r.port p).waitq.map (fun e => (e.1 + 1, e.2)) }
    if q.any (fun e => e.2.plane != 5 && decide (1 ≤ e.1)) then t.linkEvent 6 else t

-- MARKER_TRANSMIT (R149)

/-- The smallest lane count whose entry carries as many layers as the full count (R166); the entries begin at MINLANES (R163). -/
def State.sleepFloor (s : State) (p : Port) : Nat :=
  let dir := if p == .up then 1 else 0
  let full := (s.portLanes p).length
  ((List.range (full + 1)).find? (fun k => decide ((s.port p).minLanes ≤ k) && s.layersFor p dir k == s.layersFor p dir full)).getD full

/-- The transmit halves that LNK_SLEEP names and that are still in service. -/
def State.toSleep (s : State) (p : Port) : Nat :=
  (s.portLanes p).foldl (fun m n => if bit (s.port p).sleepReq (laneIdx n) && !(s.lane n).txSleep && (s.txState n == 3 || s.txState n == 4)
    then maskSet m (laneIdx n) else m) 0

/-- The transmit map at the next marker, and whether it excludes a lane: lanes that RX_GOOD lacks or DISABLE has switched
OFF leave (R158, R168), lanes asked to sleep leave (R166), and lanes that RX_GOOD has shown since 1 ms before a frame boundary now reached rejoin (R162); an
exclusion cancels rejoins. -/
def State.nextTxMap (s : State) (p : Port) : Nat × Bool :=
  let q := s.port p
  let map := s.get (pTxMap p)
  let off := (s.portLanes p).foldl (fun m n => if s.txState n = 0 then maskSet m (laneIdx n) else m) 0
  let lost := maskOr (maskLess map q.farGood 16) (maskAnd map off 16) 16
  let kept := maskLess (maskLess map lost 16) q.sleepReq 16
  let back := (List.range 16).foldl (fun m i =>
    let since := sparseGet 0 q.goodSince i
    if since ≠ 0 ∧ s.boundaryAfterMs (since - 1) ≤ s.tick ∧ bit q.farGood i ∧ !bit q.sleepReq i ∧ !bit off i then maskSet m i else m) 0
  (if lost ≠ 0 then kept else maskOr kept back 16, lost != 0)

/-- The markers of one instant: on every lane that sends idles or payload, alike but for LANE and SLEEP (R149). -/
def State.markersOf (s : State) (p : Port) (newmap : Bool) (slp : Nat) (tail : List Byte) : List (Nat × List Byte) :=
  ((s.portLanes p).filter (fun n => s.txState n == 3 || s.txState n == 4)).map (fun n =>
    (laneIdx n, leBytes 1 0x7C ++ leBytes 1 (laneIdx n + (if bit slp (laneIdx n) then 16 else 0) + (if newmap then 32 else 0)) ++ tail))

/-- MARKER_TRANSMIT (R149): one marker on every lane not in electrical idle, with the map changes of R158, R162 and R166
and the replay of R159. A completed capability exchange takes effect, or the record goes out again (R155). -/
def execMarkerTransmit (port : Port) (s : State) : Out :=
  let s0 := match (s.port port).farRec with
    | some r => if s.get (pState port) = 3 ∧ (s.port port).exchanged then s.portActive port r else s
    | none => s
  let s1 := s0.storeReplay port
  let q := s1.port port
  let up := s1.portUp port
  let slp := if up then s1.toSleep port else 0
  let nm := s1.nextTxMap port
  let chg := up && nm.1 != s1.get (pTxMap port)
  let ep := if chg then (s1.get (pTxEpoch port) + 1) % 256 else s1.get (pTxEpoch port)
  let map := if chg then nm.1 else s1.get (pTxMap port)
  let s2 := s1.each (s.portLanes port) (fun n t =>
    if (t.lane n).txSleep then (t.setTx n 5).setLane n { t.lane n with txSleep := false } else t)
  let s3 := ((s2.put (pTxMap port) map).put (pTxEpoch port) ep).setPort port { q with
    mseqTx := (q.mseqTx + 1) % 256
    mark := s1.wire.length
    marks := s2.markersOf port chg slp (leBytes 1 q.mseqTx ++ leBytes 1 ep ++ leBytes 2 map ++ leBytes 2 (s1.rxGood port))
    sentRec := if s1.get (pState port) = 3 then s1.ownRecord port else q.sentRec
    goodSince := if chg && nm.2 then [] else goodSinceAfter q.goodSince map q.farGood s1.tick }
  let s4 := s3.each (s.portLanes port) (fun n t =>
    let i := laneIdx n
    let u := if bit slp i then t.setLane n { t.lane n with txSleep := true } else t
    if bit map i ∧ u.txState n = 3 then u.setTx n 4
    else if !bit map i && u.txState n == 4 then u.setTx n 3 else u)
  let s5 := if chg then (s4.renewDeg port).testMin port else s4
  let s6 := if chg && nm.2 && s5.portUp port then s5.replay port else s5
  .next (s6.releaseWaiting port)

-- Recovery

/-- Start retraining from DETECT, counted (R161); an EXCLUDED half goes on showing EXCLUDED (R152). -/
def State.retrain (s : State) (n : Nat) : State :=
  ((s.setProg n 1).setLane n (s.freshLane n)).count (R.LNK_CNT_RETRAIN_n.RETRAIN n) (R.LNK_CNTOVF_n.OVF n) 5

/-- LANE_RETRAIN_RETRY (R161): an excluded half that has not reached ALIGNED tries again. -/
def execLaneRetrainRetry (lane : Nat) (s : State) : Out :=
  if s.part.hasLane lane ∧ s.rxState lane = 7 then .next (s.retrain lane) else .next s

/-- LANE_RETRAIN (R161, R168): retrain from DETECT; a HELD half is released. A half in service leaves it as an exclusion. (Log: 243 DEDUCED) -/
def execLaneRetrain (lane : Nat) (s : State) : Out :=
  if s.part.hasLane lane ∧ s.rxState lane ≠ 0 then
    let t := if s.rxState lane = 5 ∨ s.rxState lane = 6 then s.exclude lane else s
    .next ((if t.rxState lane = 9 then (t.put (R.LNK_LSTAT_n.RXSTATE lane) 7).setLane lane { t.lane lane with excls := [] } else t).retrain lane)
  else .next s

/-- LANE_DISABLE (R168): both halves OFF, with the effect of an exclusion; the lane leaves the transmit map at the next marker. -/
def execLaneDisable (lane : Nat) (s : State) : Out :=
  if s.part.hasLane lane then
    let p := lanePort lane
    let t := ((s.put (R.LNK_LCTL_n.DISABLE lane) 1).setRx lane 0).setTx lane 0
    let u := t.setLane lane { t.lane lane with txSleep := false, woken := false }
    .next (((u.count (R.LNK_CNT_EXCL_n.EXCL lane) (R.LNK_CNTOVF_n.OVF lane) 4).renewState p).testDead p)
  else .next s

/-- BITSLIP (R156): one bit later, 66 to a turn; ignored with REFUSED set unless MANUAL is in effect and the half is not ACTIVE. -/
def execBitslip (lane : Nat) (s : State) : Out :=
  if s.part.hasLane lane then
    if !(s.lane lane).manual || s.rxState lane == 6 then .next (s.put (R.LNK_LCTL_n.REFUSED lane) 1)
    else .next (s.setLane lane { s.lane lane with slips := ((s.lane lane).slips + 1) % 66 })
  else .next s

-- Sleep

/-- The sleep field of a lane's port and its bit. -/
def sleepFld (n : Nat) : Fld := if n < 16 then R.LNK_SLEEP.U_SLEEP else R.LNK_SLEEP.C_SLEEP

/-- LANE_SLEEP (R166): the transmit half leaves the map at the next marker, or the request is refused; the bit stays as written. (Log: 246 DEDUCED) -/
def execLaneSleep (lane : Nat) (s : State) : Out :=
  if s.part.hasLane lane then
    let p := lanePort lane
    let t := s.setBit (sleepFld lane) (laneIdx lane)
    let q := t.port p
    if popcount (maskLess (t.get (pTxMap p)) (maskSet q.sleepReq (laneIdx lane)) 16) 16 < t.sleepFloor p then .next (t.linkEvent 3)
    else .next (t.setPort p { q with sleepReq := maskSet q.sleepReq (laneIdx lane) })
  else .next s

/-- LANE_WAKE (R167): the transmit half leaves electrical idle, or does not enter it, and sends idles and markers; it rejoins under R162. -/
def execLaneWake (lane : Nat) (s : State) : Out :=
  if s.part.hasLane lane then
    let p := lanePort lane
    let t := s.clrBit (sleepFld lane) (laneIdx lane)
    let u := (t.setPort p { t.port p with sleepReq := maskClr (t.port p).sleepReq (laneIdx lane) }).setLane lane { t.lane lane with txSleep := false }
    .next (if u.txState lane = 5 then u.setTx lane 3 else u)
  else .next s

/-- LANE_WAKE_TIMEOUT (R167): a woken half that is not ALIGNED after 1 ms retrains in full. -/
def execLaneWakeTimeout (lane : Nat) (s : State) : Out :=
  if s.part.hasLane lane ∧ (s.lane lane).woken then
    .next (((s.put (R.LNK_LSTAT_n.RXSTATE lane) 7).retrain lane).renewState (lanePort lane))
  else .next s

-- Restarts and segments

/-- LNK_PCTL restarts are refused while a run is pending or in progress (R168). (Log: 214 DEDUCED) -/
def State.restartCmd (s : State) (p : Port) : State :=
  if s.run = runStarting ∨ s.run = runRunning ∨ s.run = runStopping then s.linkEvent 5 else s.restartPort p

/-- UP_RESTART (R168). -/
def execUpRestart (s : State) : Out := .next (s.restartCmd .up)

/-- CAS_RESTART (R168); a B-grade part has no cascade port. -/
def execCasRestart (s : State) : Out := .next (if s.part.ex then s.restartCmd .cas else s)

/-- SEGMENT_STATUS_CHANGE (R210): the status that a capability exchange fixed takes effect at its frame boundary. -/
def execSegmentStatusChange (s : State) : Out :=
  match s.lnk.segAt with
  | some q => .next ({ s with lnk := { s.lnk with segAt := none } }.applySegment q.2)
  | none => .next s

end Sys2Proof.Machine
end

