-- ==== Sys2Proof/Machine/Crypto.lean ====
section
/-! DEFINITION. The algorithms that 17_security.md names: SHA-256 (FIPS 180-4), HMAC-SHA-256 (RFC 2104), HSS signature verification
(RFC 8554) with the parameters of R451, and AES-256-GCM decryption (NIST SP 800-38D). -/

namespace Sys2Proof.Machine

-- SHA-256

/-- A word of a list by its place; 0 beyond the end. -/
def wordAt (l : List Word) (i : Nat) : Word := (l.drop i).head?.getD 0

/-- The numbers below `n` that only 1 and they themselves divide, ascending. -/
def primesBelow (n : Nat) : List Nat :=
  (List.range n).filter (fun p => decide (2 ≤ p) && (List.range p).all (fun d => decide (d < 2) || p % d != 0))

/-- The first 32 bits of the fraction of a prime's root of degree `d`. -/
def rootBits (d p : Nat) : Word :=
  BitVec.ofNat 32 (bitSearch (fun r => decide (r ^ d ≤ p * 2 ^ (32 * d))) 37 0)

/-- The 64 round constants: the cube roots of the primes below 312. -/
def roundConsts : List Word := (primesBelow 312).map (rootBits 3)

/-- A digest in progress: two sequences of which each round makes one word, the newest four of each. -/
structure Digest where
  x : List Word
  y : List Word
  deriving DecidableEq, Repr

/-- The digest before the first block: the square roots of the first eight primes. -/
def firstDigest : Digest :=
  let h := (primesBelow 20).map (rootBits 2)
  ⟨h.take 4, h.drop 4⟩

/-- The exclusive or of a word's right rotations. -/
def turns (w : Word) (l : List Nat) : Word := l.foldl (fun r n => r ^^^ w.rotateRight n) 0

/-- Extend a message schedule, newest word first, by `n` words. -/
def extendSchedule : Nat → List Word → List Word
  | 0, w => w
  | n + 1, w =>
    let p := wordAt w 1
    let q := wordAt w 14
    extendSchedule n ((wordAt w 15 + wordAt w 6 + (turns p [17, 19] ^^^ (p >>> 10)) + (turns q [7, 18] ^^^ (q >>> 3))) :: w)

/-- One round, on the sum of its constant and its schedule word. -/
def Digest.round (v : Digest) (k : Word) : Digest :=
  let e := wordAt v.y 0
  let a := wordAt v.x 0
  let pick := wordAt v.y 2 ^^^ (e &&& (wordAt v.y 1 ^^^ wordAt v.y 2))
  let most := (a &&& (wordAt v.x 1 ||| wordAt v.x 2)) ||| (wordAt v.x 1 &&& wordAt v.x 2)
  let t := k + wordAt v.y 3 + pick + turns e [6, 11, 25]
  ⟨(t + most + turns a [2, 13, 22]) :: v.x.take 3, (t + wordAt v.x 3) :: v.y.take 3⟩

/-- Take in one block of 64 bytes. -/
def Digest.absorb (v : Digest) (block : List Byte) : Digest :=
  let first := (List.range 16).map (fun i => BitVec.ofNat 32 (beAt block (60 - 4 * i) 4))
  let r := (List.zipWith (· + ·) roundConsts (extendSchedule 48 first).reverse).foldl Digest.round v
  ⟨List.zipWith (· + ·) v.x r.x, List.zipWith (· + ·) v.y r.y⟩

/-- A message as whole blocks: a bit 1, zeros, and its length in bits. -/
def paddedMsg (m : List Byte) : List Byte :=
  m ++ 0x80 :: (List.replicate ((119 - m.length % 64) % 64) 0 ++ beBytes 8 (8 * m.length))

/-- SHA-256 of a byte string. (Log: 215 PRESUMED) -/
def sha256 (m : List Byte) : List Byte :=
  let p := paddedMsg m
  let v := (List.range (p.length / 64)).foldl (fun v i => v.absorb ((p.drop (64 * i)).take 64)) firstDigest
  ((List.range 8).map (fun i => beBytes 4 (wordAt (v.x ++ v.y) i).toNat)).flatten

/-- HMAC-SHA-256. (Log: 215 PRESUMED) -/
def hmac (key m : List Byte) : List Byte :=
  let k := (if 64 < key.length then sha256 key else key)
  let k0 := k ++ List.replicate (64 - k.length) 0
  sha256 (k0.map (· ^^^ 0x5c) ++ sha256 (k0.map (· ^^^ 0x36) ++ m))

-- LMS and HSS (R451)

/-- Height of an accepted LMS type. -/
def lmsHeight (t : Nat) : Option Nat := if t = 6 then some 10 else if t = 7 then some 15 else if t = 8 then some 20 else none

/-- Width, number of chains and checksum shift of an accepted LM-OTS type. -/
def otsParams (t : Nat) : Option (Nat × Nat × Nat) := if t = 3 then some (4, 67, 4) else if t = 4 then some (8, 34, 0) else none

/-- coef of RFC 8554: the i-th w-bit value. -/
def otsCoef (s : List Byte) (i w : Nat) : Nat := leAt s (i * w / 8) 1 / 2 ^ (w * ((8 / w) - 1 - i % (8 / w))) % 2 ^ w

/-- A chain from step `j` on, `n` steps. -/
def otsChain (pre : List Byte) (i : Nat) : Nat → Nat → List Byte → List Byte
  | 0, _, t => t
  | n + 1, j, t => otsChain pre i n (j + 1) (sha256 (pre ++ beBytes 2 i ++ beBytes 1 j ++ t))

/-- The candidate LM-OTS public key; none for a malformed signature. -/
def otsKey (ident : List Byte) (q typ : Nat) (sig m : List Byte) : Option (List Byte) :=
  match otsParams typ with
  | none => none
  | some (w, p, ls) =>
    if beAt sig 0 4 ≠ typ ∨ sig.length ≠ 36 + 32 * p then none
    else
      let pre := ident ++ beBytes 4 q
      let dig := sha256 (pre ++ [0x81, 0x81] ++ (sig.drop 4).take 32 ++ m)
      let sum := ((List.range (256 / w)).map (fun i => 2 ^ w - 1 - otsCoef dig i w)).sum
      let full := dig ++ beBytes 2 (sum * 2 ^ ls)
      let z := (List.range p).map (fun i =>
        let a := otsCoef full i w
        otsChain pre i (2 ^ w - 1 - a) a ((sig.drop (36 + 32 * i)).take 32))
      some (sha256 (pre ++ [0x80, 0x80] ++ z.flatten))

/-- The root from a leaf up its path. -/
def lmsRoot (ident : List Byte) : List (List Byte) → Nat → List Byte → List Byte
  | [], _, t => t
  | p :: r, node, t =>
    lmsRoot ident r (node / 2) (sha256 (ident ++ beBytes 4 (node / 2) ++ [0x83, 0x83] ++ (if node % 2 = 1 then p ++ t else t ++ p)))

/-- Length of an LMS signature of accepted types. -/
def lmsSigLen (h p : Nat) : Nat := 4 + (36 + 32 * p) + 4 + 32 * h

/-- Length of the LMS signature that a 56-byte public key asks for. -/
def lmsLen (pub : List Byte) : Option Nat :=
  match lmsHeight (beAt pub 0 4), otsParams (beAt pub 4 4) with
  | some h, some (_, p, _) => some (lmsSigLen h p)
  | _, _ => none

/-- LMS signature verification under a 56-byte public key. (Log: 215 PRESUMED) -/
def lmsVerify (pub m sig : List Byte) : Bool :=
  match lmsHeight (beAt pub 0 4), otsParams (beAt pub 4 4) with
  | some h, some (_, p, _) =>
    let q := beAt sig 0 4
    let ots := 36 + 32 * p
    let ident := (pub.drop 8).take 16
    if sig.length ≠ lmsSigLen h p ∨ beAt sig (4 + ots) 4 ≠ beAt pub 0 4 ∨ 2 ^ h ≤ q then false
    else match otsKey ident q (beAt pub 4 4) ((sig.drop 4).take ots) m with
      | none => false
      | some kc =>
        let leaf := sha256 (ident ++ beBytes 4 (2 ^ h + q) ++ [0x82, 0x82] ++ kc)
        lmsRoot ident ((List.range h).map (fun i => (sig.drop (8 + ots + 32 * i)).take 32)) (2 ^ h + q) leaf == (pub.drop 24).take 32
  | _, _ => false

/-- HSS signature verification under a 60-byte public key: one or two levels (R451). (Log: 215 PRESUMED) -/
def hssVerify (pub m sig : List Byte) : Bool :=
  let l := beAt pub 0 4
  let top := pub.drop 4
  if pub.length ≠ 60 ∨ beAt sig 0 4 + 1 ≠ l then false
  else if l = 1 then lmsVerify top m (sig.drop 4)
  else if l = 2 then
    match lmsLen top with
    | none => false
    | some n =>
      let next := (sig.drop (4 + n)).take 56
      next.length == 56 && lmsVerify top next ((sig.drop 4).take n) && lmsVerify next m (sig.drop (4 + n + 56))
  else false

-- AES-256-GCM (R468)

/-- Multiply by x in the field of AES. -/
def aesX (b : Byte) : Byte := if b.getLsbD 7 then (b <<< 1) ^^^ 0x1b else b <<< 1

/-- Product in the field of AES. -/
def aesMul (a b : Byte) : Byte :=
  ((List.range 8).foldl (fun (r : Byte × Byte) i => (if b.getLsbD i then r.1 ^^^ r.2 else r.1, aesX r.2)) (0, a)).1

/-- The inverse, as the 254th power; 0 of 0. -/
def aesInv (a : Byte) : Byte :=
  let a2 := aesMul a a
  let a3 := aesMul a2 a
  let a6 := aesMul a3 a3
  let a12 := aesMul a6 a6
  let a15 := aesMul a12 a3
  let a30 := aesMul a15 a15
  let a60 := aesMul a30 a30
  let a120 := aesMul a60 a60
  let a126 := aesMul a120 a6
  let a127 := aesMul a126 a
  aesMul a127 a127

def aesSub (a : Byte) : Byte :=
  let b := aesInv a
  b ^^^ b.rotateLeft 1 ^^^ b.rotateLeft 2 ^^^ b.rotateLeft 3 ^^^ b.rotateLeft 4 ^^^ 0x63

def xorBytes (a b : List Byte) : List Byte := (a.zip b).map (fun x => x.1 ^^^ x.2)

/-- The next words of the AES-256 key schedule: `i` is the index of the word to make. -/
def aesExpand : Nat → Nat → Byte → List (List Byte) → List (List Byte)
  | 0, _, _, w => w
  | n + 1, i, rcon, w =>
    let prev := (w.drop (i - 1)).head?.getD []
    let t := if i % 8 = 0 then
        xorBytes ((prev.drop 1 ++ prev.take 1).map aesSub) [rcon, 0, 0, 0]
      else if i % 8 = 4 then prev.map aesSub else prev
    aesExpand n (i + 1) (if i % 8 = 0 then aesX rcon else rcon) (w ++ [xorBytes ((w.drop (i - 8)).head?.getD []) t])

/-- The 15 round keys of a 32-byte key. -/
def aesKeys (key : List Byte) : List (List Byte) :=
  let w := aesExpand 52 8 1 ((List.range 8).map (fun i => (key.drop (4 * i)).take 4))
  (List.range 15).map (fun r => ((w.drop (4 * r)).take 4).flatten)

def aesShift (s : List Byte) : List Byte :=
  (List.range 16).map (fun i => (s.drop ((i + 4 * (i % 4)) % 16)).head?.getD 0)

def aesMix (s : List Byte) : List Byte :=
  (List.range 16).map (fun i =>
    let c := i / 4 * 4
    let at_ (k : Nat) : Byte := (s.drop (c + (i + k) % 4)).head?.getD 0
    aesX (at_ 0) ^^^ (aesX (at_ 1) ^^^ at_ 1) ^^^ at_ 2 ^^^ at_ 3)

/-- AES-256 of one block. (Log: 215 PRESUMED) -/
def aesBlock (keys : List (List Byte)) (b : List Byte) : List Byte :=
  let k (r : Nat) : List Byte := (keys.drop r).head?.getD []
  let s := (List.range 13).foldl (fun s r => xorBytes (aesMix (aesShift (s.map aesSub))) (k (r + 1))) (xorBytes b (k 0))
  xorBytes (aesShift (s.map aesSub)) (k 14)

/-- Product in the field of GHASH; bit 0 is the most significant bit of the first byte. -/
def gcmMul (x y : BitVec 128) : BitVec 128 :=
  ((List.range 128).foldl (fun (r : BitVec 128 × BitVec 128) i =>
    (if x.getLsbD (127 - i) then r.1 ^^^ r.2 else r.1,
     if r.2.getLsbD 0 then (r.2 >>> 1) ^^^ 0xe1000000000000000000000000000000#128 else r.2 >>> 1)) (0, y)).1

def blockVec (b : List Byte) : BitVec 128 := BitVec.ofNat 128 (beAt (b ++ List.replicate (16 - b.length) 0) 0 16)

def ghash (h : BitVec 128) : Nat → BitVec 128 → List Byte → BitVec 128
  | 0, y, _ => y
  | n + 1, y, b => ghash h n (gcmMul (y ^^^ blockVec (b.take 16)) h) (b.drop 16)

/-- Pad to a multiple of 16 bytes. -/
def pad16 (b : List Byte) : List Byte := b ++ List.replicate ((16 - b.length % 16) % 16) 0

/-- A block of the counter sequence under round keys. -/
def gcmBlock (keys : List (List Byte)) (iv : List Byte) (i : Nat) : List Byte := aesBlock keys (iv ++ beBytes 4 (1 + i))

/-- A text under the key stream: encryption and decryption alike. -/
def gcmText (keys : List (List Byte)) (iv text : List Byte) : List Byte :=
  xorBytes text (((List.range ((text.length + 15) / 16)).map (fun i => gcmBlock keys iv (1 + i))).flatten)

/-- The tag over associated data and ciphertext. -/
def gcmTag (keys : List (List Byte)) (iv aad cipher : List Byte) : List Byte :=
  let h := blockVec (aesBlock keys (List.replicate 16 0))
  let data := pad16 aad ++ pad16 cipher ++ beBytes 8 (8 * aad.length) ++ beBytes 8 (8 * cipher.length)
  xorBytes (beBytes 16 (ghash h (data.length / 16) 0 data).toNat) (gcmBlock keys iv 0)

/-- AES-256-GCM decryption with a 12-byte IV; none where the tag fails. (Log: 215 PRESUMED) -/
def gcmOpen (key iv aad cipher tag : List Byte) : Option (List Byte) :=
  let keys := aesKeys key
  if gcmTag keys iv aad cipher = tag then some (gcmText keys iv cipher) else none

/-- AES-256-GCM encryption with a 12-byte IV: ciphertext and tag. -/
def gcmSeal (key iv aad plain : List Byte) : List Byte × List Byte :=
  let keys := aesKeys key
  let c := gcmText keys iv plain
  (c, gcmTag keys iv aad c)

end Sys2Proof.Machine
end

