-- ==== Sys2Proof/Machine/Signed.lean ====
section
/-! DEFINITION. Signature blocks and signed images (17_security.md, R451 to R457), and the registers that show what the loft holds
(R477). -/

namespace Sys2Proof.Machine

-- Rights (R453)

def rightFw : Nat := 0
def rightSheaf : Nat := 1
def rightEnv : Nat := 2
def rightEnrol : Nat := 3

/-- Slot `n` (1 to 4) of a lock block. -/
def LockCopy.key (l : LockCopy) (n : Nat) : KeySlot := (l.keys.drop (n - 1)).head?.getD {}

/-- ROOT_SHEAF of the policy in force; a verification under way keeps the one that it began with (R470). -/
def State.rootSheaf (s : State) : Bool :=
  match s.shf.verifying with
  | some l => l.rootSheaf
  | none => bit ((s.lock.map (·.policy)).getD 3) 1

/-- The expected hash and the rights of a signing key (R452); none where the key cannot sign. Without a lock block the root key alone
can, and its ROOT_SHEAF policy is the factory's. (Log: 190 DEDUCED) -/
def State.signer (s : State) (keyId : Nat) : Option (List Byte × Nat) :=
  if keyId = 0 then
    match s.part.root with
    | some h => some (h, if s.rootSheaf then 15 else 13)
    | none => none
  else if keyId ≤ 4 then
    match s.lock with
    | some l => if (l.key keyId).state = 1 then some ((l.key keyId).hash, (l.key keyId).rights) else none
    | none => none
  else none

/-- A signature block over a message passes R452 for a key and a needed right. -/
def State.sigOk (s : State) (keyId right : Nat) (msg block : List Byte) : Bool :=
  match s.signer keyId with
  | none => false
  | some (h, r) => bit r right && decide (60 ≤ block.length) && sha256 (block.take 60) == h && hssVerify (block.take 60) msg (block.drop 60)

/-- Copy B of LAST is in force: the one that can be read, or the newer (R464). (Log: 223 DESIGN CHOICE) -/
def ctrInB (a b : CtrCopy) : Bool := b.good && (!a.good || decide (a.seq < b.seq))

-- Images (R454 to R457)

def imgBody (b : List Byte) : List Byte := (b.drop 64).take (leAt b 20 4)
def imgSig (b : List Byte) : List Byte := (b.drop (64 + leAt b 20 4)).take (leAt b 24 4)
def imgLen (b : List Byte) : Nat := 64 + leAt b 20 4 + leAt b 24 4

/-- The body length that a kind admits. -/
def bodyLenOk (kind n : Nat) : Bool :=
  match kind with
  | 1 => n % 8 == 0 && decide (8 ≤ n) && decide (n ≤ 1044416)
  | 2 => n == 1552
  | _ => n == 48

/-- An envelope body's fields are in range, and every safe pair is permitted (R456). (Log: 22 DEDUCED) -/
def envelopeOk (e : List Byte) : Bool :=
  (List.range 16).all (fun i =>
    let lo := leAt e (16 * i) 4
    let hi := leAt e (16 * i + 4) 4
    let f := leAt e (16 * i + 8) 1
    !bit f 2 || (decide (400000 ≤ lo) && decide (lo < hi) && decide (hi ≤ 15400000) && decide (f < 8) && zeroAt e (16 * i + 9) 7))
  && decide (leAt e 256 1 < 4) && zeroAt e 257 1
  && decide (1 ≤ leAt e 260 2) && decide (leAt e 260 2 ≤ 1000) && decide (1 ≤ leAt e 262 2) && decide (leAt e 262 2 ≤ 1000)
  && zeroAt e 264 8
  && (List.range 128).all (fun o => decide (envSafeCode e o < 4096) && decide (envRangeMask e o < 8)
    && biasPermitted e o (envSafeCode e o) (envSafeRange e o))

-- The lock block (R458, R459)

/-- Bytes 64 to 16,383 of a lock-block copy, over which HASH is taken (R458). -/
def LockCopy.body (l : LockCopy) : List Byte :=
  let fields := leBytes 4 l.keySeq ++ leBytes 12 0
    ++ ((List.range 4).map (fun i =>
        let k := l.key (i + 1)
        leBytes 1 k.state ++ leBytes 1 k.rights ++ leBytes 14 0 ++ pad 32 k.hash)).flatten
    ++ leBytes 1 l.policy ++ leBytes 15 0 ++ leBytes 4 l.envVersion ++ leBytes 1 l.envKey ++ leBytes 11 0
    ++ pad 32 l.envHash ++ pad 1552 l.envelope
  l.rest.foldl (fun b e => if e.1 < 64 then b else b.set (e.1 - 64) e.2) (pad 16320 fields)

/-- The 16 KiB of a copy (R458). -/
def LockCopy.bytes (l : LockCopy) : List Byte :=
  l.rest.foldl (fun b e => if e.1 < 64 then b.set e.1 e.2 else b)
    (leBytes 4 l.magic ++ leBytes 4 l.seq ++ leBytes 24 0 ++ pad 32 l.hash) ++ l.body

/-- The bytes that a copy's fields take (R458). -/
def lockField (o : Nat) : Bool :=
  decide (o < 8) || decide (32 ≤ o ∧ o < 68) || (decide (80 ≤ o ∧ o < 272) && (decide ((o - 80) % 48 < 2) || decide (16 ≤ (o - 80) % 48)))
    || o == 272 || decide (288 ≤ o ∧ o < 293) || decide (304 ≤ o ∧ o < 1888)

/-- The copy that 16 KiB of the loft hold, not yet checked (R458). -/
def lockOf (b : List Byte) : LockCopy :=
  { good := false
    magic := leAt b 0 4
    seq := leAt b 4 4
    hash := (b.drop 32).take 32
    keySeq := leAt b 64 4
    keys := (List.range 4).map (fun i => ⟨leAt b (80 + 48 * i) 1, leAt b (81 + 48 * i) 1, (b.drop (96 + 48 * i)).take 32⟩)
    policy := leAt b 272 1
    envVersion := leAt b 288 4
    envKey := leAt b 292 1
    envHash := (b.drop 304).take 32
    envelope := (b.drop 336).take 1552
    rest := (List.range 16384).filterMap (fun o => if lockField o ∨ leAt b o 1 = 0 then none else some (o, BitVec.ofNat 8 (leAt b o 1))) }

/-- MAGIC, HASH and every field range of a copy hold (R459). (Log: 190 DEDUCED) -/
def LockCopy.valid (l : LockCopy) : Bool :=
  l.magic == 0x4B434F4C && (l.hash == sha256 l.body && (l.rest.isEmpty && (l.keys.all (fun k => decide (k.state ≤ 2) && decide (k.rights < 16))
    && (decide (l.policy < 4) && (decide (l.envKey ≤ 4) && envelopeOk l.envelope)))))

/-- A copy with MAGIC, and the HASH of its content, as a change writes it (R460). -/
def LockCopy.sealed (l : LockCopy) (seq : Nat) : LockCopy :=
  { l with good := true, magic := 0x4B434F4C, seq := seq, hash := sha256 l.body, rest := [] }

/-- An enrolment body's fields are in range (R457). (Log: 22 DEDUCED) -/
def enrolOk (b : List Byte) : Bool := decide (1 ≤ leAt b 0 1) && decide (leAt b 0 1 ≤ 4) && decide (leAt b 1 1 < 16) && zeroAt b 2 14

/-- Check 1 of R455; `len` is the command's LENGTH. (Log: 22 DEDUCED) -/
def imgHeaderOk (b : List Byte) (kind : Nat) (len : Nat) : Bool :=
  decide (64 ≤ b.length) && leAt b 0 4 == 0x494E4C54 && leAt b 4 1 == kind && decide (leAt b 5 1 ≤ 4) && zeroAt b 6 2
    && bodyLenOk kind (leAt b 20 4) && decide (1 ≤ leAt b 24 4) && decide (leAt b 24 4 ≤ 65536) && zeroAt b 28 4
    && imgLen b == len && decide (len ≤ 0x100000)
    && (match kind with
        | 1 => true
        | 2 => envelopeOk (imgBody b)
        | _ => enrolOk (imgBody b))

/-- R455: the reason code of the first failing check; none when the image passes. -/
def State.imageFail (s : State) (b : List Byte) (kind len : Nat) : Option Nat :=
  let right := match kind with | 1 => rightFw | 2 => rightEnv | _ => rightEnrol
  let v := leAt b 8 4
  let low : Bool := match kind with
    | 1 => decide (v < s.loft.minVersion)
    | 2 => decide (v ≤ (s.lock.map (·.envVersion)).getD 0)
    | _ => decide (v ≤ (s.lock.map (·.keySeq)).getD 0)
  if !imgHeaderOk b kind len then some rcRange
  else if leAt b 12 8 ≠ 0 ∧ leAt b 12 8 ≠ s.part.serial.toNat then some rcImageSig
  else if !s.sigOk (leAt b 5 1) right (b.take 64) (imgSig b) then some rcImageSig
  else if sha256 (imgBody b) ≠ (b.drop 32).take 32 then some rcImageSig
  else if low then some rcRollback
  else none

/-- The image record of the firmware that an image holds. -/
def imageOf (b : List Byte) : Image := ⟨BitVec.ofNat 32 (leAt b 8 4), (b.drop 32).take 32, leAt b 5 1⟩

-- The registers of R477

/-- The bottom tree of a signature index is built: trees are built in order, and `treeBuilt` is the newest (R471). (Log: 200 DEDUCED) -/
def State.treeReady (s : State) (next : Nat) : Bool :=
  match s.sec.treeBuilt with
  | some k => decide (next / 32768 ≤ k)
  | none => false

/-- Requests meet no BUSY: the bottom tree that NEXT needs, if it needs one, is built, and no report is in progress (R475). (Log: 198 DEDUCED) -/
def State.attestFree (s : State) : Bool :=
  let next := s.get R.SEC_SIGIDX.NEXT
  s.sec.attest.isNone && (decide (2 ^ 25 ≤ next) || s.treeReady next)

/-- ATTEST_READY: a report request is accepted (R475). -/
def State.attestReady (s : State) : Bool := s.attestFree && decide (s.get R.SEC_SIGIDX.NEXT < 2 ^ 25)

/-- Bring ATTEST_EXH and ATTEST_READY up to date (R477). -/
def State.attestShow (s : State) : State :=
  (s.putFlag R.SEC_STAT.ATTEST_EXH (decide (2 ^ 25 ≤ s.get R.SEC_SIGIDX.NEXT))).putFlag R.SEC_STAT.ATTEST_READY s.attestReady

/-- Bring the SEC registers to what the loft holds. -/
def State.secShow (s : State) : State :=
  let l := s.lock.getD {}
  let inB := s.loft.lockB.good && (!s.loft.lockA.good || later 32 s.loft.lockB.seq s.loft.lockA.seq)
  let a := ((((s.putFlag R.SEC_STAT.LOCK_A (s.loft.readable && s.loft.lockA.good)).putFlag R.SEC_STAT.LOCK_B (s.loft.readable && s.loft.lockB.good)).putFlag
    R.SEC_STAT.INUSE (s.loft.readable && inB)).putFlag R.SEC_STAT.CTR_MAX (s.loft.lastCtr == 2 ^ 64 - 1)).putFlag R.SEC_STAT.ROOT_ABSENT s.part.root.isNone
  let b := if s.lock.isSome then
      ((((a.put R.SEC_KEYS.STATE (((List.range 4).map (fun i => (l.key (i + 1)).state % 4 * 4 ^ i)).sum)).put R.SEC_KEYS.RIGHTS
        (((List.range 4).map (fun i => (l.key (i + 1)).rights % 16 * 16 ^ i)).sum)).put R.SEC_POLICY.POLICY l.policy).put
        R.SEC_ENVVER.ENV_VERSION l.envVersion).put R.SEC_KEYSEQ.KEY_SEQ l.keySeq
    else a
  let c := ((b.put R.SEC_CTR_LO.LAST (s.loft.lastCtr % 2 ^ 32)).put R.SEC_MINVER.MINVER s.loft.minVersion).put R.SEC_SIGRES.LIMIT s.loft.sigLimit
  let d := match s.boot.image with
    | some i => c.put R.SEC_FWVER.VERSION i.version.toNat
    | none => c
  d.attestShow

end Sys2Proof.Machine
end

