-- ==== Sys2Proof/Machine/Tally.lean ====
section
/-! DEFINITION. The event recorder (18_event_recorder.md): records, the log in the loft, media faults, the sideband window
and the register window. -/

namespace Sys2Proof.Machine

-- Records (R478, R479)

/-- A record with its CHECK: CRC-32C, or the mark word (R478). -/
def closeRecord (b : List Byte) (mark : Bool) : List Byte :=
  b ++ leBytes 4 (if mark then 0x4B52414D else (crc32c b).toNat)

/-- Bytes 0 to 15 of the records of an event. -/
def TalEvent.common (e : TalEvent) (mark : Bool) (part : Nat) : List Byte :=
  leBytes 4 e.seq ++ leBytes 4 e.pcc ++ leBytes 4 e.optime ++ leBytes 2 e.code
    ++ leBytes 1 ((if mark then 2 else 1) + part * 4 + (if e.ntv then 16 else 0) + (if e.airv then 32 else 0))
    ++ leBytes 1 e.snap.length

/-- The head record. -/
def TalEvent.headRec (e : TalEvent) (mark : Bool) : List Byte :=
  closeRecord (e.common mark 0 ++ leBytes 6 e.nt.sec ++ leBytes 4 e.nt.ns ++ leBytes 2 e.epoch ++ leBytes 4 e.airref.toNat
    ++ leBytes 4 e.suppr ++ e.detail) mark

/-- The records of an event in written order: continuations first, head last (R479). -/
def TalEvent.records (e : TalEvent) (mark : Bool) : List (List Byte) :=
  (List.range e.snap.length).map (fun k => closeRecord (e.common mark (k + 1) ++ pad 44 ((e.snap.drop k).head?.getD [])) mark)
    ++ [e.headRec mark]

/-- A record is valid when its CHECK agrees with its FORM (R479). -/
def recValid (b : List Byte) : Bool :=
  let form := bits (leAt b 14 1) 1 0
  (form == 1 && leAt b 60 4 == (crc32c (b.take 60)).toNat) || (form == 2 && leAt b 60 4 == 0x4B52414D)

/-- A valid head record. -/
def recHead (b : List Byte) : Bool := recValid b && bits (leAt b 14 1) 3 2 == 0

/-- Order of events by PCC, OPTIME and SEQ (R480). -/
def recNewer (a b : List Byte) : Bool :=
  decide (leAt b 4 4 < leAt a 4 4) || (leAt a 4 4 == leAt b 4 4 && (decide (leAt b 8 4 < leAt a 8 4)
    || (leAt a 8 4 == leAt b 8 4 && later 32 (leAt a 0 4) (leAt b 0 4))))

-- The log (R487, R492, R493)

def logSlots : Nat := 8192

/-- Loft address of a logical slot through a map of spares. -/
def logSlotAddr (map : List Nat) (slot : Nat) : Nat :=
  let sec := slot / 64
  (if map.idxOf sec < map.length then 0x380000 + map.idxOf sec * 0x1000 else 0x300000 + sec * 0x1000) + slot % 64 * 64

/-- Loft words read with a corrected error (R397). (Log: 260 DESIGN CHOICE) -/
def State.loftFixed (s : State) (n : Nat) : State := s.countBy R.MEM_CNT_LECCC.LECCC R.MEM_CNTOVF.OVF 2 n

/-- (Log: 12 DESIGN CHOICE) -/
def State.loftBytes (s : State) (a n : Nat) : List Byte := sparseList 0 s.loft.bytes a n
def State.setLoftBytes (s : State) (a : Nat) (b : List Byte) : State :=
  { s with loft := { s.loft with bytes := sparseSetList 0 s.loft.bytes a b } }

/-- A loft write operation (R396): every word is written but the one that still fails after two rewrites, which stays as it was; answers
that word's address. -/
def State.loftOp (s : State) (a : Nat) (b : List Byte) (fail : Option Nat) : State × Option Nat :=
  match fail with
  | none => (s.setLoftBytes a b, none)
  | some k =>
    let w := a / 8 * 8 + 8 * (k % ((a % 8 + b.length + 7) / 8))
    ((s.setLoftBytes a (b.take (w - a))).setLoftBytes (w + 8) (b.drop (w + 8 - a)), some w)

/-- The loft as a reader finds it where the words at some addresses cannot be read: nothing valid in their 64-byte blocks (R397). -/
def State.blank (s : State) (unreadable : List Nat) : State :=
  s.each unreadable (fun a t => t.setLoftBytes (a / 64 * 64) (List.replicate 64 0))

/-- The 64 bytes of a logical slot. -/
def State.logSlot (s : State) (slot : Nat) : List Byte := s.loftBytes (logSlotAddr s.tal.map slot) 64

/-- Slots that hold anything, among the logical slots. -/
def State.usedSlots (s : State) : List Nat :=
  (((s.loft.bytes.filter (fun c => decide (0x300000 ≤ c.1 ∧ c.1 < 0x384000))).map (fun c =>
    if c.1 < 0x380000 then (c.1 - 0x300000) / 64
    else ((s.tal.map.drop ((c.1 - 0x380000) / 0x1000)).head?.getD 0) * 64 + (c.1 % 0x1000) / 64)).filter (· < logSlots)).dedup

/-- An event stands in the log with its head at a slot: head and continuations valid, with one SEQ and PCC (R479). -/
def State.eventAt (s : State) (slot : Nat) : Bool :=
  let h := s.logSlot slot
  recHead h && (List.range (leAt h 15 1)).all (fun k =>
    let c := s.logSlot ((slot + logSlots - 1 - k) % logSlots)
    recValid c && c.take 8 == h.take 8 && bits (leAt c 14 1) 3 2 == leAt h 15 1 - k)

/-- The slot of the newest event of the log (R480). -/
def State.newestSlot (s : State) : Option Nat :=
  s.usedSlots.foldl (fun best k =>
    if s.eventAt k then
      match best with
      | none => some k
      | some b => if recNewer (s.logSlot k) (s.logSlot b) then some k else some b
    else best) none

/-- Record a failed loft write operation (R396). -/
def State.loftFail (s : State) (addr : Nat) : State :=
  ((s.count R.MEM_CNT_LVFAIL.LVFAIL R.MEM_CNTOVF.OVF 3).put R.MEM_LVF_ADDR.ADDR addr).count R.TAL_CNT_VFAIL.VFAIL R.TAL_CNTOVF.OVF 3

/-- The control block with a SEQ (R493). -/
def ctlBlock (seq : Nat) (map : List Nat) : List Byte :=
  let b := [0x54, 0x43, 0x42, 0x4B] ++ leBytes 4 seq ++ leBytes 1 (map.filter (· != 0xFFFFFFFF)).length ++ leBytes 7 0
    ++ (map.map (leBytes 4)).flatten ++ leBytes 28 0
  b ++ leBytes 4 (crc32c b).toNat

/-- A control-block copy is valid (R493). -/
def ctlValid (b : List Byte) : Bool :=
  b.take 4 == [0x54, 0x43, 0x42, 0x4B] && leAt b 60 4 == (crc32c (b.take 60)).toNat && decide (leAt b 8 1 ≤ 4)
    && zeroAt b 9 7 && zeroAt b 32 28
    && (List.range 4).all (fun i => decide (leAt b (16 + 4 * i) 4 < 128) || decide (0xFFFFFFFE ≤ leAt b (16 + 4 * i) 4))

/-- A loft write operation of the tally: false where a word of it fails (R396). -/
def State.loftTry (s : State) (a : Nat) (b : List Byte) (fail : Option Nat) : State × Bool :=
  match s.loftOp a b fail with
  | (t, none) => (t, true)
  | (t, some w) => (t.loftFail w, false)

/-- Write the control block: the copy not in force with the next SEQ, then the other; false when both writes fail (R493). (Log: 280 DEDUCED) -/
def State.writeCtl (s : State) (f : Option Nat × Option Nat) : State × Bool :=
  let q := (s.tal.ctlSeq + 1) % 2 ^ 32
  let blk := ctlBlock q s.tal.map
  let first := if s.tal.ctlB then 0x386000 else 0x387000
  let second := if s.tal.ctlB then 0x387000 else 0x386000
  let s1 := s.loftTry first blk f.1
  let s2 := s1.1.loftTry second blk f.2
  let inB := if s1.2 then !s.tal.ctlB else s.tal.ctlB
  ({ s2.1 with tal := { s2.1.tal with ctlSeq := q, ctlB := inB } }.put R.TAL_STAT.SPARES (s.tal.map.filter (· != 0xFFFFFFFF)).length,
   s1.2 || s2.2)

/-- The loft write operations of a record, each at its offset: one, or with FORM MARK bytes 0 to 59 and then the mark word (R479). -/
def recordOps (mark : Bool) (r : List Byte) : List (Nat × List Byte) := if mark then [(0, r.take 60), (60, r.drop 60)] else [(0, r)]

/-- Write the operations of a record at an address; answers the failures still to come, and the failing word's address where one fails. -/
def State.tryOps (s : State) (addr : Nat) (fails : List (Option Nat)) : List (Nat × List Byte) → State × List (Option Nat) × Option Nat
  | [] => (s, fails, none)
  | (o, b) :: rest =>
    match s.loftOp (addr + o) b (fails.head?.getD none) with
    | (t, some w) => (t, fails.drop 1, some w)
    | (t, none) => t.tryOps addr (fails.drop 1) rest

/-- MEDIA_FAULT (R494): STALLED, MEDIA, TALLY_MEDIA, and the MEDIA_FAULT event with FORM MARK, two operations (R479), in the media-fault
slot that does not hold the newer valid event. (Log: 205 DEDUCED) -/
def State.mediaFault (s : State) (mfaFail : Option Nat) : State :=
  let detail := leBytes 4 (s.get R.MEM_LVF_ADDR.ADDR) ++ leBytes 1 (s.get R.TAL_STAT.SPARES) ++ leBytes 3 0 ++ leBytes 4 s.tal.lastSeq
  let e := s.talEvent 0x00F1 detail
  let s1 := { s with tal := { s.tal with seq := (s.tal.seq + 1) % 2 ^ 32 } }
  let a := s.loftBytes 0x384000 64
  let b := s.loftBytes 0x385000 64
  let useB := recHead a && (!recHead b || recNewer a b)
  let addr := if useB then 0x385000 else 0x384000
  let fails : List (Option Nat) := match mfaFail with
    | none => []
    | some k => if k < 8 then [some k] else [none, some 0]
  let s2 := match s1.tryOps addr fails (recordOps true (e.headRec true)) with
    | (t, _, none) => t
    | (t, _, some w) => (t.loftFail w).put R.TAL_STAT.MFA_FAIL 1
  ((s2.put R.TAL_STAT.STATE 3).put R.TAL_STAT.MEDIA 1).alarm 0x0020 1 (leAt detail 0 8)

/-- Retire the sector of a slot into the next unused spare, copying its other slots and zeroing those that cannot be read
(R492); none when no spare is left. -/
def State.remap (s : State) (slot : Nat) (unreadable : List Nat) : Option State :=
  let sec := slot / 64
  let i := s.tal.map.idxOf 0xFFFFFFFF
  if i < s.tal.map.length then
    let old := (List.range 64).map (fun k =>
      if sec * 64 + k = slot ∨ unreadable.contains (sec * 64 + k) then List.replicate 64 (0 : Byte) else s.logSlot (sec * 64 + k))
    let map := ((s.tal.map.map (fun x => if x = sec then 0xFFFFFFFE else x)).set i sec)
    some ({ s with tal := { s.tal with map := map } }.setLoftBytes (0x380000 + i * 0x1000) old.flatten)
  else none

/-- Write one record at the write position, with the remaps its failures need; answers the failures still to come and
whether the log still serves. -/
def State.writeRecord (s : State) (ops : List (Nat × List Byte)) (fails : List (Option Nat)) (unreadable : List Nat) :
    Nat → State × List (Option Nat) × Bool
  | 0 => (s, fails, false)
  | fuel + 1 =>
    match s.tryOps (logSlotAddr s.tal.map s.tal.wpos) fails ops with
    | (t, f, none) => ({ t with tal := { t.tal with wpos := (s.tal.wpos + 1) % logSlots } }, f, true)
    | (t, f, some a) =>
      match (t.loftFail a).remap s.tal.wpos unreadable with
      | some u => u.writeRecord ops f unreadable fuel
      | none => (t.loftFail a, f, false)

/-- Write the records of an event in order. -/
def State.writeRecords (s : State) (mark : Bool) (fails : List (Option Nat)) (unreadable : List Nat) : List (List Byte) → State × Bool
  | [] => (s, true)
  | r :: rest =>
    match s.writeRecord (recordOps mark r) fails unreadable 6 with
    | (t, f, true) => t.writeRecords mark f unreadable rest
    | (t, _, false) => (t, false)

/-- FORM MARK holds while the firmware is not in service: before start-up step 9, while a recovery image runs, and during the self-test, in which a
tile runs with no sheaf applied (R373, R479). (Log: 261 DEDUCED) -/
def State.talMark (s : State) : Bool :=
  s.get R.SYS_BOOTSTAT.STAGE != 6 || decide (2 ≤ s.get R.SYS_BOOTSTAT.SLOT) || (s.shf.applied.isNone && s.tiles.any (fun e => e.2.st == 2))

/-- Append records to the volatile ring of the 16 newest (R494). -/
def State.toRing (s : State) (rs : List (List Byte)) : State :=
  let l := s.tal.ring ++ rs
  { s with tal := { s.tal with ring := l.drop (l.length - 16) } }

/-- Write an event: to the log, with remaps and the control block as failures require, or to the ring in STALLED. -/
def State.writeEvent (s : State) (e : TalEvent) (r : MediaReport) : State :=
  if s.get R.TAL_STAT.STATE = 3 then s.toRing (e.records s.talMark)
  else
    let w := s.writeRecords s.talMark r.fails r.unreadable (e.records s.talMark)
    let remapped := w.1.tal.map != s.tal.map
    let c := if remapped then w.1.writeCtl r.ctlFail else (w.1, true)
    if w.2 && c.2 then
      let t := c.1
      let u : State := { t with tal := { t.tal with lastSeq := e.seq } }
      ((u.put R.TAL_HEAD.SLOT ((u.tal.wpos + logSlots - 1) % logSlots)).put R.TAL_HEADSEQ.SEQ e.seq).count R.TAL_CNT_REC.REC R.TAL_CNTOVF.OVF 0
    else (c.1.mediaFault r.mfaFail).toRing (e.records s.talMark)

/-- Nothing fails. -/
def noFailure : MediaReport := ⟨[], [], (none, none), none⟩

/-- TALLY_RECORD_WRITE (R485): the next queued event, unless the tally scans or the log is frozen (R487, R488). (Log: 5 DESIGN CHOICE) -/
def execTallyRecordWrite (report : MediaReport) (s : State) : Out :=
  match s.tal.queue with
  | [] => .next s
  | e :: q =>
    if s.get R.TAL_STAT.STATE = 0 ∨ s.flag R.TAL_STAT.FROZEN then .next s
    else .next ((s.setQueue q).writeEvent e report)

/-- Events of the log, by head slot. -/
def State.events (s : State) : List Nat := s.usedSlots.filter s.eventAt

/-- Events older than the newest LOG_CLEARED event stand in the log (R491). -/
def State.clearUnfinished (s : State) : Option Nat :=
  match (s.events.filter (fun k => leAt (s.logSlot k) 12 2 == 0x00F0)).foldl (fun best k =>
      match best with
      | none => some k
      | some b => if recNewer (s.logSlot k) (s.logSlot b) then some k else some b) none with
  | none => none
  | some c => if s.events.any (fun k => recNewer (s.logSlot c) (s.logSlot k)) then some c else none

/-- TALLY_SCAN_DONE (R487, R493, R495): the control block in force, the newest event and the write position; STALLED when
no control copy is valid, or when all spares are in use and a MEDIA_FAULT event exists; CLEARING where a clear was cut. `unreadable` are
loft addresses of words that cannot be read: the copy, slot or record that holds one is not valid, and a structure of two copies is taken
from the other (R397). (Log: 10 DEDUCED) -/
def execTallyScanDone (mfaFail : Option Nat) (s : State) (corrected : Nat := 0) (unreadable : List Nat := []) : Out :=
  if s.get R.TAL_STAT.STATE ≠ 0 ∨ s.boot.inReset then .next s
  else
    let s := s.loftFixed corrected
    let a := (s.blank unreadable).loftBytes 0x386000 64
    let b := (s.blank unreadable).loftBytes 0x387000 64
    if !ctlValid a && !ctlValid b then .next (s.mediaFault mfaFail)
    else
      let useB := ctlValid b && (!ctlValid a || later 32 (leAt b 4 4) (leAt a 4 4))
      let c := if useB then b else a
      let s1 : State := { s with tal := { s.tal with ctlB := useB, ctlSeq := leAt c 4 4, map := (List.range 4).map (fun i => leAt c (16 + 4 * i) 4) } }
      let s2 := s1.put R.TAL_STAT.SPARES (leAt c 8 1)
      let mf := [0x384000, 0x385000].any (fun x => let r := (s2.blank unreadable).loftBytes x 64; recHead r && leAt r 12 2 == 0x00F1)
      if leAt c 8 1 = 4 ∧ mf then
        .next ((({ s2 with tal := { s2.tal with mediaRaise := true } }).put R.TAL_STAT.STATE 3).put R.TAL_STAT.MEDIA 1)
      else
        let s3 := match (s2.blank unreadable).newestSlot with
          | none => { s2 with tal := { s2.tal with wpos := 0 } }
          | some k => ({ s2 with tal := { s2.tal with wpos := (k + 1) % logSlots, lastSeq := leAt (s2.logSlot k) 0 4 } }.put R.TAL_HEAD.SLOT k).put
              R.TAL_HEADSEQ.SEQ (leAt (s2.logSlot k) 0 4)
        match (s3.blank unreadable).clearUnfinished with
        | some k => .next ({ s3 with tal := { s3.tal with clearFrom := k } }.put R.TAL_STAT.STATE 2)
        | none => .next (s3.put R.TAL_STAT.STATE 1)

/-- Slots from the LOG_CLEARED event to the write position are kept. -/
def State.keptSlot (s : State) (k : Nat) : Bool :=
  decide ((k + logSlots - s.tal.clearFrom) % logSlots < (s.tal.wpos + logSlots - s.tal.clearFrom) % logSlots)

/-- TALLY_CLEAR_DONE (R491): every other slot is zeros, and the tally serves again. -/
def execTallyClearDone (s : State) : Out :=
  if s.get R.TAL_STAT.STATE = 2 then
    .next ((s.each (s.usedSlots.filter (fun k => !s.keptSlot k)) (fun k t => t.setLoftBytes (logSlotAddr t.tal.map k) (List.replicate 64 0))).put
      R.TAL_STAT.STATE 1)
  else .next s

/-- OPTIME_PERSIST (R481). -/
def execOptimePersist (s : State) : Out :=
  if s.boot.inReset then .next s else .next { s with loft := { s.loft with optime := s.get R.TAL_OPTIME.OPTIME } }

/-- MEDIA_CLEAR (R494): writing 1 to MEDIA releases ALERT_N; the tally stays STALLED. -/
def execMediaClear (s : State) : Out := .next (s.put R.TAL_STAT.MEDIA 0)

-- Reading (R489, R490)

/-- The slot that a source and number name: 0 log, 1 volatile ring, 2 media-fault area, 3 zeros (TAL_CUR). -/
def State.readSlot (s : State) (src slot : Nat) : List Byte :=
  match src with
  | 0 => s.logSlot slot
  | 1 => (s.tal.ring.drop slot).head?.getD (List.replicate 64 0)
  | 2 => if slot < 2 then s.loftBytes (0x384000 + slot * 0x1000) 64 else List.replicate 64 0
  | _ => List.replicate 64 0

/-- What a reader gets from a slot: its bytes, or free ones where a word of a slot in the loft cannot be read, for which the spec states no
bytes (R397). (Log: 260 DESIGN CHOICE) -/
def State.slotRead64 (s : State) (src slot : Nat) (bad : Bool) : List Byte :=
  if bad && src != 1 then (List.range 64).map (fun i => BitVec.ofNat 8 (Config.pick (s.free + i))) else s.readSlot src slot

/-- TALLY_WINDOW_READ (R490): a read of TAL_WIN0 captures the whole slot that TAL_CUR names into TAL_WIN0 to TAL_WIN15; `corrected`
of its words had a corrected error, and `bad` says that one cannot be read (R397). -/
def execTallyWindowRead (s : State) (corrected : Nat := 0) (bad : Bool := false) : Out :=
  let s := s.loftFixed corrected
  let b := s.slotRead64 (s.get R.TAL_CUR.SRC) (s.get R.TAL_CUR.SLOT) bad
  .next (s.each (List.range 16) (fun i t => t.setWord (R.TAL_WIN0.w.addr + 4 * i) (BitVec.ofNat 32 (leAt b (4 * i) 4))))

/-- A D-plane READ of region TALLY runs, or a sideband session is open (R488, R491). -/
def State.logOpen (s : State) : Bool := s.tal.session || s.con.xfers.any (fun x => x.read && x.region == 5)

/-- What the sideband returns. (Log: 211 DEDUCED) -/
def State.sbReturn (s : State) (b : List Byte) : State := { s with boot := { s.boot with sbOut := b } }

/-- TALLY_OPEN (R489): freeze, cursor at the newest head, TAL_STAT and TAL_HEADSEQ returned. -/
def execTallyOpen (s : State) : Out :=
  if s.boot.inReset then .next s
  else
    let t := { s with tal := { s.tal with session := true, cursor := (0, s.get R.TAL_HEAD.SLOT), cmdAt := s.tim.cycles } }.freeze
    .next (t.sbReturn (leBytes 4 (t.word R.TAL_STAT.w.addr).toNat ++ leBytes 4 (t.word R.TAL_HEADSEQ.w.addr).toNat))

/-- Slots of a source: the cursor wraps within them. -/
def State.srcSize (s : State) (src : Nat) : Nat :=
  match src with
  | 0 => logSlots
  | 1 => max 1 s.tal.ring.length
  | _ => 2

/-- TALLY_READ (R489): the slot at the cursor, which steps to the next older; zeros outside a session or during SCAN. `corrected` of its
words had a corrected error, and `bad` says that one cannot be read (R397). -/
def execTallyRead (s : State) (corrected : Nat := 0) (bad : Bool := false) : Out :=
  if s.boot.inReset then .next s
  else if !s.tal.session || s.get R.TAL_STAT.STATE == 0 then .next (s.sbReturn (List.replicate 64 0))
  else
    let c := s.tal.cursor
    let n := s.srcSize c.1
    .next (({ s with tal := { s.tal with cursor := (c.1, (c.2 + n - 1) % n), cmdAt := s.tim.cycles } }.loftFixed corrected).sbReturn
      (s.slotRead64 c.1 c.2 bad))

/-- TALLY_SEEK (R489). -/
def execTallySeek (word : BitVec 16) (s : State) : Out :=
  let w := word.toNat
  if s.tal.session ∧ bits w 15 14 ≤ 2 ∧ bits w 13 13 = 0 then
    .next { s with tal := { s.tal with cursor := (bits w 15 14, bits w 12 0), cmdAt := s.tim.cycles } }
  else .next s

/-- The end of a session and of its freeze (R489). -/
def State.endSession (s : State) : State :=
  if s.tal.session then
    let t : State := { s with tal := { s.tal with session := false } }
    if t.logOpen then t else t.put R.TAL_STAT.FROZEN 0
  else s

/-- TALLY_CLOSE (R489). -/
def execTallyClose (s : State) : Out := .next s.endSession

/-- TALLY_SESSION_TIMEOUT (R489): 1 s since the last window command. -/
def execTallySessionTimeout (s : State) : Out := .next (if s.tal.cmdAt + 491520000 ≤ s.tim.cycles then s.endSession else s)

end Sys2Proof.Machine
end

