-- ==== Sys2Proof/Machine/Memory.lean ====
section
/-! DEFINITION. Granary, loft and DRAM (14_memory_and_dram.md): error codes, loft writes, training, refresh and self-refresh. -/

namespace Sys2Proof.Machine

-- Granary

/-- Bytes of the granary. (Log: 12 DESIGN CHOICE) -/
def State.granBytes (s : State) (a n : Nat) : List Byte := sparseList 0 s.mem.gran a n

/-- A read of granary bytes meets a poisoned word (R392). -/
def State.granPoisoned (s : State) (a n : Nat) : Bool := s.mem.poison.any (fun w => decide (w < a + n) && decide (a < w + 8))

/-- Write granary bytes; a full write of a word clears its poison mark (R392). -/
def State.setGran (s : State) (a : Nat) (b : List Byte) : State :=
  { s with mem := { s.mem with
      gran := sparseSetList 0 s.mem.gran a b,
      poison := s.mem.poison.filter (fun w => !(decide (a ≤ w) && decide (w + 8 ≤ a + b.length))) } }

/-- What a granary error does on read (R392). -/
def State.granEcc (s : State) (addr : Nat) (e : EccResult) : State :=
  match e with
  | .good => s
  | .corrected => s.count R.MEM_CNT_GECCC.GECCC R.MEM_CNTOVF.OVF 0
  | .uncorrectable =>
    let w := addr / 8 * 8
    let t := { s with mem := { s.mem with poison := if s.mem.poison.contains w then s.mem.poison else s.mem.poison ++ [w] } }
    ((t.put R.MEM_GECC_ADDR.ADDR w).count R.MEM_CNT_GECCU.GECCU R.MEM_CNTOVF.OVF 1).tally 0x0025 (leBytes 4 w)

-- Loft (R394 to R396)

/-- The writer column of R394. FACT_LOCK closes the factory calibration range; until it is blown, manufacture writes there (R447). (Log: 102 DESIGN CHOICE) -/
def loftWriterOk (p : Part) (w : LoftWriter) (a : Nat) : Bool :=
  match w with
  | .bootRom => decide (0x398000 ≤ a ∧ a < 0x39C000)
  | .firmware => decide (0x2C0000 ≤ a ∧ a < 0x300000)
  | .security => decide (a < 0x200000) || decide (0x390000 ≤ a ∧ a < 0x3A0000)
  | .tally => decide (0x300000 ≤ a ∧ a < 0x388000) || decide (0x398000 ≤ a ∧ a < 0x39C000)
  | .other => !p.factLocked && decide (0x200000 ≤ a ∧ a < 0x2C0000)

/-- Replace bytes of a slot image. -/
def patch (l : List Byte) (o : Nat) (b : List Byte) : List Byte :=
  pad o l ++ b ++ l.drop (o + b.length)

/-- Write bytes of a lock-block copy, and check it again (R458, R459). (Log: 102 DESIGN CHOICE) -/
def LockCopy.store (l : LockCopy) (o : Nat) (b : List Byte) : LockCopy :=
  let c := lockOf (patch l.bytes o b)
  { c with good := c.valid }

/-- Put bytes where the loft keeps them. What the ranges from 0x398000 on hold in a layout that the spec does not give, their owners'
commands keep in typed structures beside these bytes. (Log: 102 DESIGN CHOICE) -/
def State.storeLoft (s : State) (a : Nat) (b : List Byte) : State :=
  if a < 0x100000 then { s with loft := { s.loft with slotA := patch s.loft.slotA a b } }
  else if a < 0x200000 then { s with loft := { s.loft with slotB := patch s.loft.slotB (a - 0x100000) b } }
  else if 0x2C0000 ≤ a ∧ a < 0x300000 then { s with loft := { s.loft with calResults := sparseSetList 0 s.loft.calResults a b } }
  else if 0x390000 ≤ a ∧ a < 0x394000 then { s with loft := { s.loft with lockA := s.loft.lockA.store (a - 0x390000) b } }
  else if 0x394000 ≤ a ∧ a < 0x398000 then { s with loft := { s.loft with lockB := s.loft.lockB.store (a - 0x394000) b } }
  else s.setLoftBytes a b

/-- LOFT_WRITE_DONE (R395, R396): the words of one operation, checked against the writer column; each word wholly old or wholly
new. `failed` is the index of a word that still fails after two rewrites and stays old; all were written before any was compared. Of a
calibration whose writing fails, the firmware keeps its previous results. (Log: 102 DESIGN CHOICE) -/
def execLoftWriteDone (writer : LoftWriter) (addr : Nat) (words : List (BitVec 64)) (failed : Option Nat) (s : State) : Out :=
  if words.length = 0 ∨ 8 < words.length ∨ addr % 8 ≠ 0 ∨ addr / 64 ≠ (addr + 8 * words.length - 1) / 64 then .next s
  else if !loftWriterOk s.part writer addr then .next (s.count R.MEM_CNT_LDENY.LDENY R.MEM_CNTOVF.OVF 4)
  else
    let bytes (l : List (BitVec 64)) : List Byte := (l.map (fun w => leBytes 8 w.toNat)).flatten
    let t := match failed with
      | some k => if k < words.length ∧ writer = .firmware then s else (s.storeLoft addr (bytes (words.take k))).storeLoft (addr + 8 * (k + 1)) (bytes (words.drop (k + 1)))
      | none => s.storeLoft addr (bytes words)
    match failed with
    | some k => if k < words.length then
        .next ((t.count R.MEM_CNT_LVFAIL.LVFAIL R.MEM_CNTOVF.OVF 3).put R.MEM_LVF_ADDR.ADDR (addr + 8 * k))
      else .next t
    | none => .next t

-- DRAM

/-- The DRAM channel has failed (R405, R68); the failure holds while the training of R406 runs. (Log: 97 DEDUCED) -/
def State.dramFailed (s : State) : Bool :=
  s.get R.MEM_DSTAT.STATE == 4 || (s.get R.MEM_DSTAT.STATE == 1 && decide (5 ≤ s.get R.SYS_BOOTSTAT.STAGE))

/-- The DRAM is trained on every byte lane and serves. -/
def State.dramOk (s : State) : Bool := s.get R.MEM_DSTAT.STATE == 2 || s.get R.MEM_DSTAT.STATE == 3

/-- Write DRAM bytes; no write reaches devices that have failed (R405). (Log: 95 DESIGN CHOICE) -/
def State.setDram (s : State) (a : Nat) (b : List Byte) : State :=
  if !s.dramOk then s
  else if s.mem.dramGen = 0 then { s with mem := { s.mem with dram := sparseSetList 0 s.mem.dram a b } }
  else { s with mem := { s.mem with dramNew := sparseSetList none s.mem.dramNew a (b.map some) } }

/-- The first address beyond the fitted DRAM (R398). -/
def State.dramTop (s : State) : Nat :=
  match s.get R.MEM_CFG.SIZE with
  | 0 => 0
  | n => 2 ^ (31 + n)

/-- Leave self-refresh (R408, R409): an entry not yet commanded is abandoned; after it, the write clock runs 216 ticks after the entry
is complete, 32 ticks after the command, and no refresh is owed. A request that comes before then is delayed, and counts. (Log: 100 DEDUCED) -/
def State.srExit (s : State) (counted : Bool) : State :=
  let waits (u : State) : State := if counted then u.count R.MEM_CNT_SRWAIT.SRWAIT R.MEM_CNTOVF.OVF 6 else u
  match s.mem.srAt with
  | none => if s.tick < s.mem.srReady then waits s else s
  | some t =>
    if s.tick < t + 24 then { s with mem := { s.mem with srAt := none } }
    else waits ({ s with mem := { s.mem with srAt := none, srReady := max s.tick (t + 56) + 216, postponed := [] } }.put R.MEM_DSTAT.STATE 2)

/-- A DRAM request arrives (R408). -/
def State.dramUsed (s : State) : State := { s with mem := { s.mem with reqAt := s.tim.cycles } }

/-- A DRAM request (R408). A failed channel completes it with error (R405). -/
def State.dramReq (s : State) : State :=
  let s := s.dramUsed
  if s.dramFailed then s.count R.MEM_CNT_DERR.DERR R.MEM_CNTOVF.OVF 5 else s.srExit true

/-- Once the entry command has gone out, MEM_DSTAT shows SELFREF (R409). (Log: 2 DESIGN CHOICE, 100 DEDUCED) -/
def State.srEnter (s : State) : State :=
  match s.mem.srAt with
  | some t => if t + 24 ≤ s.tick ∧ s.get R.MEM_DSTAT.STATE = 2 then s.put R.MEM_DSTAT.STATE 3 else s
  | none => s

/-- SELF_REFRESH_ENTRY (R408): the decision to enter, when its four conditions hold. -/
def execSelfRefreshEntry (s : State) : Out :=
  if s.flag R.MEM_DCTL.SR_EN ∧ s.mem.reqAt + s.get R.MEM_DCTL.SR_IDLE * 491520 ≤ s.tim.cycles ∧ (s.run = runEmpty ∨ s.run = runReady ∨ s.run = runFaulted) ∧ !s.flag R.MEM_DSTAT.RETRAIN
      ∧ s.get R.MEM_DSTAT.STATE = 2 ∧ s.mem.srAt = none then
    .next { s with mem := { s.mem with srAt := some s.tick } }
  else .next s

/-- SELF_REFRESH_EXIT (R409): by a request, which counts when it waits, or by START, TRAIN or SR_EN = 0. -/
def execSelfRefreshExit (request : Bool) (s : State) : Out := .next (s.srExit request)

/-- A transfer of a DRAM region is in flight. (Log: 91 DEDUCED) -/
def Xfer.inDram (x : Xfer) : Bool := x.region == 0 || x.region == 1 || x.region == 2 || x.region == 4

/-- Byte lanes fail (R405), and with them the channel: requests in flight end with error, the stage is none, the run answers as
R143 states. (Log: 91 DEDUCED, 95 DESIGN CHOICE, 103 DEDUCED) -/
def State.dramFail (s : State) (lanes : Nat) : State :=
  if s.dramFailed then s
  else
    let a := s.each (maskList lanes 8) (fun k t => t.put (R.MEM_DQ_k.FAILED k) 1)
    let b := ((a.put R.MEM_DSTAT.STATE 4).put R.MEM_DSTAT.RETRAIN 0).put R.MEM_DSTAT.LANE_FAIL lanes
    let c := { b with mem := { b.mem with srAt := none }.lose, shf := { b.shf with stagedOk := false, staged := none } }.cutVerify
    let d := c.each (c.con.xfers.filter (fun x => x.inDram && x.read)) (fun x t =>
      (t.count R.MEM_CNT_DERR.DERR R.MEM_CNTOVF.OVF 5).nack x.asker rcDram)
    let e := { d with con := { d.con with xfers := d.con.xfers.filter (fun x => !x.inDram) } }.put R.SHF_STATE.STAGE 0
    let f := (e.tally 0x0023 (leBytes 8 lanes)).alarm 0x0011 (if e.shf.applied.isSome && e.dramOptional then 1 else 2) lanes
    let g := if f.run = runApplying then f.failApply rcDram 0 else f
    if g.shf.applied.isSome && !g.dramOptional then g.dramRunFault else g

-- Training (R402 to R406)

/-- The runs of set bits of a mask, as first step and length. -/
def runsOf (m : BitVec 128) : List (Nat × Nat) :=
  (List.range 128).foldl (fun l i =>
    if m.getLsbD i then
      match l with
      | (a, n) :: r => if a + n = i then (a, n + 1) :: r else (i, 1) :: (a, n) :: r
      | [] => [(i, 1)]
    else l) []

/-- The width of the widest run of passing steps. -/
def widest (m : BitVec 128) : Nat := ((runsOf m).map (·.2)).foldl max 0

/-- The centre of the widest run; which of several widest runs, and which of two middle steps, the spec does not say. (Log: 96 DESIGN CHOICE) -/
def centre (m : BitVec 128) (choice : Nat) : Nat :=
  let c := (runsOf m).filter (fun r => r.2 == widest m)
  match (c.drop (choice / 2 % c.length)).head? with
  | some (a, n) => a + (n - 1 + choice % 2) / 2
  | none => 0

/-- A sweep finds a working setting for both delays (R402). -/
def LaneSweep.works (l : LaneSweep) : Bool := decide (8 ≤ widest l.rd) && decide (8 ≤ widest l.wr)

/-- Take a lane's new settings. (Log: 96 DESIGN CHOICE) -/
def State.setLaneDelays (s : State) (k : Nat) (l : LaneSweep) : State :=
  ((s.put (R.MEM_DQ_k.RD_DLY k) (centre l.rd (Config.pick s.free))).put (R.MEM_DQ_k.WR_DLY k)
    (centre l.wr (Config.pick (s.free + 1)))).fresh.fresh

/-- The PHY temperature of a training: the latest VALUE of TS14, in °C (R402, R435); the spec gives no rounding. (Log: 96 DESIGN CHOICE) -/
def State.phyTemp (s : State) : Int :=
  let v := s.monValue 78
  if v % 8 = 0 then v / 8 else v / 8 + ((Config.pick s.free % 2 : Nat) : Int)

/-- What a lane's last training found, whether or not its setting changes: eye widths and PHY temperature (R402, R412). -/
def State.setLaneEyes (s : State) (k : Nat) (l : LaneSweep) : State :=
  ((s.put (R.MEM_DQ_k.RD_EYE k) (min 0x3F (widest l.rd))).put (R.MEM_DQ_k.WR_EYE k) (min 0x3F (widest l.wr))).putInt
    (R.MEM_DQTEMP_k.TEMP k) s.phyTemp

/-- Byte lanes of a full training that find no working setting; a lane the report leaves out has none. -/
def badLanes (lanes : List LaneSweep) : Nat :=
  (List.range 8).foldl (fun m k => if (((lanes.drop k).head?.map LaneSweep.works).getD false) then m else m + 2 ^ k) 0

/-- Take the settings of the lanes that work. -/
def State.takeSweeps (s : State) (lanes : List LaneSweep) : State :=
  s.each (List.range 8) (fun k t =>
    match (lanes.drop k).head? with
    | some l =>
      let u := t.setLaneEyes k l
      if l.works then (u.setLaneDelays k l).put (R.MEM_DQ_k.FAILED k) 0 else u.put (R.MEM_DQ_k.FAILED k) 1
    | none => t.put (R.MEM_DQ_k.FAILED k) 1)

/-- DRAM_TRAINING_DONE (R402, R68, R64): start-up step 8 ends; lane bring-up follows whatever its outcome. (Log: 5 DESIGN CHOICE) -/
def execDramTrainingDone (size : BitVec 2) (lanes : List LaneSweep) (s : State) : Out :=
  if s.get R.SYS_BOOTSTAT.STAGE ≠ 4 then .next s
  else
    let bad := badLanes lanes
    let t := ((s.takeSweeps lanes).put R.MEM_CFG.SIZE size.toNat).put R.MEM_DSTAT.LANE_FAIL bad
    let u := if bad = 0 then t.put R.MEM_DSTAT.STATE 2
      else (((t.put R.MEM_DSTAT.STATE 4).put R.SYS_BOOTSTAT.DRAM_FAIL 1).alertN 3 true).tally 0x0007 (leBytes 1 bad)
    let v := (u.put R.SYS_BOOTSTAT.STAGE 5).bringUp .up (u.get R.LNK_CFG.MAXRATE)
    .next (if v.part.ex then v.bringUp .cas (v.get R.LNK_CFG.MAXRATE) else v)

/-- DRAM_FULL_TRAINING_DONE (R406): the training that TRAIN started after a failure. (Log: 101 DEDUCED) -/
def execDramFullTrainingDone (lanes : List LaneSweep) (s : State) : Out :=
  if s.get R.MEM_DSTAT.STATE ≠ 1 ∨ s.get R.SYS_BOOTSTAT.STAGE < 5 then .next s
  else
    let bad := badLanes lanes
    let t := (s.takeSweeps lanes).put R.MEM_DSTAT.LANE_FAIL bad
    if bad = 0 then .next (((t.put R.MEM_DSTAT.STATE 2).put R.SYS_BOOTSTAT.DRAM_FAIL 0).alertN 3 false)
    else .next (t.put R.MEM_DSTAT.STATE 4)

/-- A trigger of R403: retraining begins as background work. -/
def State.dramRetrain (s : State) : State := if s.dramOk then (s.srExit false).put R.MEM_DSTAT.RETRAIN 1 else s

/-- The link's error code corrects a burst on a byte lane (R407). -/
def State.linkFixed (s : State) (lane : Nat) : State := s.count (R.MEM_CNT_DECCC_k.DECCC (lane % 8)) (R.MEM_CNTOVF_k.OVF (lane % 8)) 0

/-- A burst has an uncorrectable link error on a byte lane, and its request completes with error (R407); the sixteenth within 1 s on one lane
starts retraining (R403). (Log: 260 DESIGN CHOICE) -/
def State.linkLost (s : State) (lane : Nat) : State :=
  let k := lane % 8
  let l := (k, s.tim.cycles) :: s.mem.linkErrs.filter (fun e => decide (s.tim.cycles < e.2 + 491520000))
  let most := decide (16 ≤ (l.filter (fun e => e.1 == k)).length)
  let t := { s with mem := { s.mem with linkErrs := if most then l.filter (fun e => e.1 != k) else l } }.count
    (R.MEM_CNT_DECCU_k.DECCU k) (R.MEM_CNTOVF_k.OVF k) 1
  let u := t.count R.MEM_CNT_DERR.DERR R.MEM_CNTOVF.OVF 5
  if most then u.dramRetrain else u

/-- The link errors that the bursts of an access meet (R407). (Log: 260 DESIGN CHOICE) -/
def State.linkMeets (s : State) (l : LinkErrs) : State := s.each l (fun e t => if e.2 then t.linkLost e.1 else t.linkFixed e.1)

/-- One of them is uncorrectable: the access completes with error (R407). -/
def linkBad (l : LinkErrs) : Bool := l.any (·.2)

/-- DRAM_TRAIN (R403, R406): a write of MEM_DCTL.TRAIN. -/
def execDramTrain (s : State) : Out :=
  if s.dramFailed then
    if s.run = runEmpty ∨ s.run = runReady ∨ s.run = runFaulted then .next (s.put R.MEM_DSTAT.STATE 1)
    else .next (s.put R.MEM_DCTL.REFUSED 1)
  else .next s.dramRetrain

/-- DRAM_RETRAIN_DONE (R404, R405): lane by lane the new setting, the previous one kept as MARGINAL, or failure. -/
def execDramRetrainDone (lanes : List LaneSweep) (s : State) : Out :=
  if !s.flag R.MEM_DSTAT.RETRAIN then .next s
  else
    let t := s.each (List.range 8) (fun k t =>
      match (lanes.drop k).head? with
      | none => t
      | some l =>
        let u := (t.setLaneEyes k l).count (R.MEM_CNT_RETRAIN_k.RETRAIN k) (R.MEM_CNTOVF_k.OVF k) 2
        if l.works then u.setLaneDelays k l
        else if l.kept then u.put (R.MEM_DQ_k.MARGINAL k) 1 else u)
    let bad := (List.range 8).foldl (fun m k =>
      if (((lanes.drop k).head?.map (fun l => l.works || l.kept)).getD true) then m else m + 2 ^ k) 0
    let u := t.put R.MEM_DSTAT.RETRAIN 0
    .next (if bad = 0 then u else u.dramFail bad)

-- Refresh (R400, R401)

/-- REFRESH_WINDOW (R400): up to four per-bank refreshes; each repays one that was postponed. (Log: 99 DESIGN CHOICE) -/
def execRefreshWindow (banks : List Nat) (s : State) : Out :=
  if s.get R.MEM_DSTAT.STATE ≠ 2 then .next s
  else .next { s with mem := { s.mem with postponed := (banks.take 4).foldl (fun m b => sparseSet 0 m b (sparseGet 0 m b - 1)) s.mem.postponed } }

/-- MR4_POLL (R401, R403): the refresh-rate multipliers of the devices, each as RATE in bits 1:0 with what tells it from others of that
RATE above, and the bank pairs whose refreshes are postponed since the last poll. Above 2x, HOT holds; 8 postponed refreshes of a bank pair fail every lane; a changed multiplier starts retraining. (Log: 98 DEDUCED, 99 DESIGN CHOICE) -/
def execMr4Poll (rates postponed : List Nat) (s : State) : Out :=
  if s.get R.MEM_DSTAT.STATE ≠ 2 then .next s
  else
    let r := (rates.map (· % 4)).foldl max 0
    let m := if 2 ≤ r then postponed.foldl (fun m b => sparseSet 0 m b (sparseGet 0 m b + 1)) s.mem.postponed else s.mem.postponed
    let t := ({ s with mem := { s.mem with rates := rates, postponed := m } }.put R.MEM_DSTAT.RATE r).putFlag R.MEM_DSTAT.HOT (decide (2 ≤ r))
    let u := if 2 ≤ r then ((t.put R.MEM_DSTAT.HOT_SEEN 1).tally 0x0023 (leBytes 8 0x100)).alarm 0x0011 0 0x100 else t
    let v := if s.mem.rates ≠ [] ∧ s.mem.rates ≠ rates then u.dramRetrain else u
    .next (if m.any (fun e => decide (8 ≤ e.2)) then v.dramFail 0xFF else v)

end Sys2Proof.Machine
end

