-- ==== Sys2Proof/Machine/Receive.lean ====
section
/-! DEFINITION. The receive chain (10_receive_chain.md): gain, filters, invalid samples, combining and partial sums, sounding-derived
beams and time-domain extraction; the sample formats of R179 and R180. -/

namespace Sys2Proof.Machine

-- RXCFG (R287, R288)

def State.rxByte (s : State) (o n : Nat) : Nat := leAt (s.record 7) o n
def State.ulLayers (s : State) (c : Nat) : Nat := s.rxByte (32 + 8 * c) 1
def State.ulShift (s : State) (c : Nat) : Nat := s.rxByte (33 + 8 * c) 1
def State.filt0 (s : State) (c : Nat) : Nat := s.rxByte (35 + 8 * c) 1
def State.fftAdv (s : State) (c : Nat) : Nat := s.rxByte (36 + 8 * c) 2
def State.comb (s : State) (c : Nat) : Nat := s.rxByte (38 + 8 * c) 1

/-- Initial attenuation of a path: ATTN0, or 31 dB outside RX_USED (R289). -/
def State.attn0 (s : State) (n : Nat) : Nat := if s.rxUsed n then s.rxByte (64 + n) 1 else 31

/-- The filter set in force of a path and carrier. -/
def filtFld (n c : Nat) : Fld := ⟨(R.RXC_FILT_n.w n).addr, 2 * c + 1, 2 * c⟩

/-- Every attenuator at its ATTN0 value (R289). -/
def State.attnHome (s : State) : State := s.each (List.range s.part.paths) (fun n t => t.put (R.RXC_ATTN_n.ATTN n) (t.attn0 n))

/-- What apply sets in the receive registers (R288, R289, R311). -/
def State.rxApply (s : State) : State :=
  let t := (s.put R.RXC_CFG.RXGRID (s.rxByte 0 1)).put R.RXC_CFG.SEG_RESERVE (s.rxByte 1 1)
  t.attnHome.each (List.range t.part.paths) (fun n t => (List.range 4).foldl (fun t c => t.put (filtFld n c) (t.filt0 c)) t)

/-- START (R289, R292, R294, R136): initial attenuation and filters, and the invalid samples of START. What the filters hold of earlier
signal is zero. -/
def State.rxStart (s : State) : State :=
  let f := s.shf.startAt
  let t := s.rxApply
  let u := { t with rxc := { t.rxc with agcPrev := (List.range t.part.paths).foldl (fun m n => sparseSet 0 m n f) t.rxc.agcPrev, attnLast := [], taken := [] } }
  let v := u.each u.rxPaths (fun n t => t.invalidateAll n f 192)
  let w := v.each (v.rxPaths.filter (fun n => v.rxc.newPlan.contains (chipOf n))) (fun n t =>
    t.each t.carriers (fun c t => t.invalidate n c f (slotLen (t.scs c) 0 / 2 ^ t.rateK c)))
  { w with rxc := { w.rxc with newPlan := [], partials := [], closed := [], cacheHeld := [] } }

/-- The end of a run (R289). (Log: 123 DEDUCED) -/
def State.rxIdle (s : State) : State := { s.attnHome with rxc := { s.rxc with pend := [], extracts := [] } }

-- Settings (R290 to R292)

/-- Paths that a class 8 action names (R290): one, a group of eight, or all. -/
def rxUnit (p : Part) (u : Nat) : List Nat := if 0xC0 ≤ u ∧ u < 0xC4 then [] else unitPaths p u

/-- Paths of RX_USED that a class 8 action names: outside it the attenuation stays at 31 dB (R289). -/
def State.rxNamed (s : State) (a : Act) : List Nat := (rxUnit s.part a.unit.toNat).filter s.rxUsed

def State.rxWait (s : State) (p : RxPend) : State := { s with rxc := { s.rxc with pend := s.rxc.pend ++ [p] } }

/-- SET_ATTN (R290). -/
def execSetAttn (a : Act) (s : State) : Out :=
  s.onFire a (fun s => s.each (s.rxNamed a) (fun n t => t.rxWait ⟨n, 7, s.actBound a, bits a.arg.toNat 11 7⟩))

/-- SET_FILTER (R290). -/
def execSetFilter (a : Act) (s : State) : Out :=
  s.onFire a (fun s => s.each (rxUnit s.part a.unit.toNat) (fun n t => t.rxWait ⟨n, a.car.toNat, s.actBound a, bits a.arg.toNat 8 7⟩))

/-- ADC samples in a tick at a sampling plan (R312). -/
def adcPerTick (plan : Nat) : Nat := if plan = 0 then 20 else 24

/-- One path's AGC decision (R292); `all` are the ADC codes since 32 ticks before its previous AGC_STEP, and those from `start` on decide.
A code of -2,048 or +2,047 counts in RXC_CNT_OVL_n whether it decides or not. The spec gives PEAK 11 bits, which do not hold |-2,048|:
there the field is a free value. (Log: 131 DESIGN CHOICE, 258 DESIGN CHOICE) -/
def State.agcPath (s : State) (n at_ : Nat) (all : List Int) : State :=
  let t := s.tick
  let prev := sparseGet 0 s.rxc.agcPrev n - 32
  let start := max prev (sparseGet 0 s.rxc.attnLast n)
  let codes := all.drop ((start - prev) * adcPerTick (s.cnvPlan (chipOf n)))
  let ovl := (all.filter (fun c => decide (c = -2048 ∨ c = 2047))).length
  let u := { s with rxc := { s.rxc with agcPrev := sparseSet 0 s.rxc.agcPrev n t } }.countBy (R.RXC_CNT_OVL_n.OVL n) (R.RXC_CNTOVF_n.OVF n) 0 ovl
  let attn := s.get (R.RXC_ATTN_n.ATTN n)
  if codes = [] ∨ t < start + 32 then u.rxWait ⟨n, 7, at_, attn⟩
  else
    let hi := (codes.filter (fun c => decide (s.rxByte 2 2 ≤ c.natAbs))).length
    let peak := codes.foldl (fun m c => max m c.natAbs) 0
    let new := if s.rxByte 4 2 ≤ hi then min (attn + s.rxByte 8 1) (s.rxByte 11 1)
      else if peak < s.rxByte 6 2 then max (attn - s.rxByte 9 1) (s.rxByte 10 1) else attn
    let v := if peak < 2048 then u.put (R.RXC_PEAK_n.PEAK n) peak else (u.put (R.RXC_PEAK_n.PEAK n) (Config.pick s.free)).fresh
    let w := v.put (R.RXC_PEAK_n.HICNT n) (min hi 65535)
    let x := if new = attn then w else w.count (R.RXC_CNT_AGC_n.AGC n) (R.RXC_CNTOVF_n.OVF n) 1
    x.rxWait ⟨n, 7, at_, new⟩

/-- AGC_STEP (R292): the ADC codes of each named path in ascending order, up to 32 ticks before the action. (Log: 5 DESIGN CHOICE, 131 DESIGN CHOICE) -/
def execAgcStep (a : Act) (codes : List (List Int)) (s : State) : Out :=
  s.onFire a (fun s => s.each ((s.rxNamed a).zip (codes ++ List.replicate 64 [])) (fun x t => t.agcPath x.1 (s.actBound a) x.2))

/-- A waiting receive setting takes effect (R290, R294). -/
def State.rxTake (s : State) (p : RxPend) : State :=
  let s := { s with rxc := { s.rxc with taken := s.rxc.taken ++ [p] } }
  if p.car = 7 then
    let t := { s with rxc := { s.rxc with attnLast := sparseSet 0 s.rxc.attnLast p.path p.at_ } }
    if s.get (R.RXC_ATTN_n.ATTN p.path) = p.val then t else (t.put (R.RXC_ATTN_n.ATTN p.path) p.val).invalidateAll p.path p.at_ 24
  else if s.get (filtFld p.path p.car) = p.val then s
  else (s.put (filtFld p.path p.car) p.val).invalidate p.path p.car p.at_ 192

/-- RX_SETTING_BOUNDARY (R290): every receive setting whose boundary is the tick. -/
def execRxSettingBoundary (bound : Nat) (s : State) : Out :=
  let l := s.rxc.pend.filter (fun p => p.at_ == bound)
  .next ({ s with rxc := { s.rxc with pend := s.rxc.pend.filter (fun p => p.at_ != bound) } }.each l (fun p t => t.rxTake p))

-- Invalid samples of a symbol (R295, R184)

/-- The ticks that an invalid span covers on a carrier: from, and past the end where it has one. -/
def State.invalSpan (s : State) (v : Inval) (car : Nat) : Nat × Option Nat :=
  if v.whole then (s.symBegin car v.from_, v.to_.map (fun t => if t ≤ v.from_ then t else s.symNext car (t - 1))) else (v.from_, v.to_)

/-- The invalid runs, as sample index from and past-the-end, that a list of paths has in `n` samples of a carrier from a tick. -/
def State.invalRuns (s : State) (paths : List Nat) (car from_ n : Nat) : List (Nat × Nat) :=
  let k := 2 ^ s.rateK car
  s.rxc.inval.filterMap (fun v =>
    if paths.contains v.path ∧ (v.car = 7 ∨ v.car = car) then
      let x := s.invalSpan v car
      let lo := (x.1 - from_ + k - 1) / k
      let hi := match x.2 with
        | none => n
        | some t => min n ((t - from_ + k - 1) / k)
      if lo < hi then some (lo, hi) else none
    else none)

/-- VALID_FROM of `n` samples with these invalid runs. -/
def validFrom (runs : List (Nat × Nat)) (n : Nat) : Nat :=
  let m := runs.foldl (fun m r => max m r.2) 0
  if m = n ∧ 0 < n then 65535 else m

/-- STEP holds for air time in [from, to) (R93, R184). -/
def State.stepIn (s : State) (from_ to_ : Nat) : Bool :=
  s.rxc.inval.any (fun v => v.step && decide (v.from_ < to_) && (match v.to_ with | none => true | some t => decide (from_ < t)))

/-- Ticks of the useful part of a symbol (R220). -/
def usefulTicks (scs : Nat) : Nat := 32768 / 2 ^ scs

/-- VALID_FROM, INVALID and STEP of a symbol on the paths of RX_USED (R295). -/
def State.symValid (s : State) (car slotT sym : Nat) : Nat × Bool × Bool :=
  let k := 2 ^ s.rateK car
  let t := s.symOfSlot car slotT sym
  let len := symLen (s.scs car) (s.slotOf car slotT) sym
  let n := len / k
  let w := (len - usefulTicks (s.scs car)) / k - s.fftAdv car
  let runs := s.invalRuns s.rxPaths car t n
  if s.stepIn t (t + len) then (65535, true, true)
  else (validFrom runs n, runs.any (fun r => decide (r.1 < w + usefulTicks (s.scs car) / k) && decide (w < r.2)), false)

-- The front end (R285, R286, R289, R293)

/-- A setting of a path in force at an air tick: the last one taken at or before it since the START, else the START's. -/
def State.setAt (s : State) (n c a base : Nat) : Nat :=
  ((s.rxc.taken.filter (fun p => p.path == n && p.car == c && decide (p.at_ ≤ a))).getLast?.map (·.val)).getD base

/-- The gain compensation of a path at an attenuation, unsigned Q6.10 (R289). (Log: 256 DESIGN CHOICE) -/
def State.rxComp (s : State) (n attn : Nat) : Nat := Config.rxGain n attn (sparseGet 0 s.rxc.comp n) % 65536

/-- One part of a decimated sample times the compensation, limited to 16 bits (R286). (Log: 257 DESIGN CHOICE) -/
def compensated (g : Nat) (v : Int) : Int := sat 16 (v * g / 2 ^ 40 + if v * g % 2 ^ 40 = 0 then 0 else ((Config.compRound (v * g) % 2 : Nat) : Int))

/-- Ticks of ADC codes before a sample that the operands of EXTRACT, COVAR and UL_DATA bring: what stage 1 of R285 spends on decimation. -/
def filterLead : Nat := 280

/-- The ADC codes of a path behind its receive NCO and the shift by -OFFSET of a carrier (R286, R316): both phases are 0 at tick 0 of every
subframe. Codes come in their zone, and a frequency above the ADC's own band turns them as it stands, so that an even zone needs no further
step (R315). `first` is the air tick of the sample that `filterLead` ticks of codes precede; what came before the START boundary counts
as zeros (R136). -/
def State.downShifted (s : State) (n car first : Nat) (adc : List Int) : List (Int × Int) :=
  let r := adcPerTick (s.cnvPlan (chipOf n))
  let i0 := (s.cyclePos first + subTicks - filterLead) % subTicks * r
  (adc.zip (List.range adc.length)).map (fun x =>
    let f := s.setAt n 8 (first + x.2 / r - filterLead) (s.cnvRxFc (chipOf n))
    if first + x.2 / r < s.shf.startAt + filterLead then (0, 0)
    else turned (-((f : Int) + s.carOffset car / 1000)) (491520 * r) (i0 + x.2) (x.1, 0))

/-- Passband edge and stopband start of a filter set in hundredths of the carrier sample rate, and its rejection in 10 dB (R293). -/
def filterEdges (set : Nat) : Nat × Nat × Nat :=
  match set with
  | 0 => (41, 50, 8)
  | 1 => (41, 45, 9)
  | 2 => (30, 40, 8)
  | _ => (20, 28, 8)

/-- The squared response of some taps at q / n cycles a sample, in units of 2^-252. -/
def response2 (h : List Int) (q n : Nat) : Nat :=
  cnorm ((h.zip (List.range h.length)).foldl (fun r t => let c := circle (q * t.2 % n) n; cadd r (t.1 * c.1, t.1 * c.2)) (0, 0))

/-- Taps have the response that R293 gives a set at a decimation ratio, at 1,024 frequencies to a carrier sample rate: within 0.05 dB of 1 in
the passband, and the rejection from the stopband start on. (Log: 257 DESIGN CHOICE) -/
def filterMeets (set ratio : Nat) (h : List Int) : Bool :=
  let e := filterEdges set
  let one : Nat := 2 ^ 252
  (List.range (512 * ratio + 1)).all (fun q =>
    let v := response2 h q (1024 * ratio)
    (decide (1024 * e.1 < 100 * q) || (decide (v ^ 200 ≤ 10 * one ^ 200) && decide (one ^ 200 ≤ 10 * v ^ 200)))
      && (decide (100 * q < 1024 * e.2.1) || decide (v * 10 ^ e.2.2 ≤ one)))

/-- The taps of a filter set at a ratio; taps that do not meet R293 are no filter of this hardware and give nothing. -/
def decimTaps (set ratio : Nat) : List Int :=
  let h := Config.decimTaps set ratio
  if filterMeets set ratio h then h else []

/-- A decimated sample in units of 2^-30: the filter runs over the shifted samples up to the place `i` (R286, R293). (Log: 257 DESIGN CHOICE) -/
def decimated (h : List Int) (x : List (Int × Int)) (i : Nat) : Int × Int :=
  (h.zip (List.range h.length)).foldl (fun r t => if t.2 ≤ i then let c := cAt x (i - t.2); cadd r (t.1 * c.1, t.1 * c.2) else r) (0, 0)

/-- `m` carrier-rate samples of a path from an air tick on, as the front end delivers them (R286): shifted, decimated with the filter set
in force at each, compensated for the attenuation in force, and limited to 16+16 bits. (Log: 257 DESIGN CHOICE) -/
def State.frontEnd (s : State) (n car first m : Nat) (adc : List Int) : List (Int × Int) :=
  let k := 2 ^ s.rateK car
  let x := s.downShifted n car first adc
  if x.all (fun v => v == (0, 0)) then List.replicate m (0, 0)
  else (List.range m).map (fun i =>
    let a := first + i * k
    let ratio := adcPerTick (s.cnvPlan (chipOf n)) * k
    let d := decimated (decimTaps (s.setAt n car a (s.filt0 car)) ratio) x (filterLead * adcPerTick (s.cnvPlan (chipOf n)) + i * ratio)
    let g := s.rxComp n (s.setAt n 7 a (s.attn0 n))
    (compensated g d.1, compensated g d.2))

-- The transform (R296)

/-- y of R296 at a subcarrier `kappa`, from the `size` samples of the FFT window. (Log: 225 DESIGN CHOICE) -/
def fftSample (x : List (Int × Int)) (shift size adv : Nat) (kappa : Int) : Int × Int :=
  let v := (x.zip (List.range x.length)).foldl (fun r z =>
    cadd r (cmul z.1 (circle (kappa * ((adv : Int) - (z.2 : Nat)) % (size : Int)).toNat size))) (0, 0)
  (sat 14 (roundTie (40 + shift) (roundDiv v.1 (2 ^ 56))), sat 14 (roundTie (40 + shift) (roundDiv v.2 (2 ^ 56))))

def State.fftShift (s : State) (c : Nat) : Nat := s.rxByte (34 + 8 * c) 1

/-- The FFT window of each path of RX_USED at a carrier's symbol, from the ADC codes of the paths; the others' samples enter nothing (R289). -/
def State.fftWindows (s : State) (car t : Nat) (adc : List (List Int)) : List (List (Int × Int)) :=
  let k := 2 ^ s.rateK car
  let n := usefulTicks (s.scs car) / k
  let m := (s.symNext car t - t) / k
  (List.range 64).map (fun p => if s.rxUsed p then ((s.frontEnd p car t m ((adc.drop p).head?.getD [])).drop (m - n - s.fftAdv car)).take n else [])

/-- The antenna-domain samples of a subcarrier, numbered from the carrier's lowest, by path (R16, R296). -/
def State.antenna (s : State) (car : Nat) (wins : List (List (Int × Int))) (sc : Nat) : List (Int × Int) :=
  wins.map (fun x => fftSample x (s.fftShift car) (usefulTicks (s.scs car) / 2 ^ s.rateK car) (s.fftAdv car) ((sc : Int) - ((6 * s.nPrb car : Nat) : Int)))

-- Sample formats (R179, R180, R300)

/-- Bits of a mantissa of a format. -/
def fmtBits (fmt : Nat) : Nat :=
  match fmt with
  | 0 => 16
  | 1 => 9
  | 2 => 12
  | 3 => 14
  | 5 => 16
  | _ => 20

/-- Bytes of a PRB in a format. -/
def prbBytes (fmt : Nat) : Nat := 24 * fmtBits fmt / 8 + (if fmt = 0 then 0 else 1)

/-- The largest exponent of a format. -/
def maxExp (fmt : Nat) : Nat :=
  match fmt with
  | 0 => 0
  | 5 => 31
  | 6 => 31
  | _ => 16 - fmtBits fmt

/-- The format is one of the U-plane's. (Log: 73 DEDUCED) -/
def fmtKnown (fmt : Nat) : Bool := decide (fmt ≤ 3) || fmt == 5 || fmt == 6

/-- A value at an exponent (R180, R300). -/
def quant (e : Nat) (v : Int) : Int := shiftUp e v

/-- The first exponent at which every value fits, or the largest. -/
def pickExp (m top : Nat) (vs : List Int) : Nat :=
  ((List.range (top + 1)).find? (fun e => vs.all (fun v => sat m (quant e v) == quant e v))).getD top

/-- Pack mantissas, most significant bit first. (Log: 127 DEDUCED) -/
def packMant (m : Nat) (vs : List Int) : List Byte :=
  beBytes (vs.length * m / 8) (vs.foldl (fun acc v => acc * 2 ^ m + unsigned m v) 0)

/-- Compress the 24 values of a PRB. (Log: 127 DEDUCED) -/
def packPrb (fmt : Nat) (vs : List Int) : List Byte :=
  let m := fmtBits fmt
  let e := pickExp m (maxExp fmt) vs
  (if fmt = 0 then [] else [BitVec.ofNat 8 e]) ++ packMant m (vs.map (fun v => sat m (quant e v)))

/-- The 24 values of a PRB as the receiver reconstructs them. (Log: 127 DEDUCED) -/
def unpackPrb (fmt : Nat) (b : List Byte) : List Int :=
  let m := fmtBits fmt
  let e := if fmt = 0 then 0 else leAt b 0 1
  let x := leNat (if fmt = 0 then b else b.drop 1).reverse
  (List.range 24).map (fun i => signed m (x / 2 ^ (m * (23 - i))) * 2 ^ e)

/-- Compress a run of PRBs, 12 subcarriers each. -/
def packAll (fmt : Nat) : Nat → List (Int × Int) → List Byte
  | 0, _ => []
  | n + 1, v => packPrb fmt ((v.take 12).map (fun c => [c.1, c.2])).flatten ++ packAll fmt n (v.drop 12)

/-- The complex values of a list of numbers, I then Q. -/
def pairUp : List Int → List (Int × Int)
  | i :: q :: r => (i, q) :: pairUp r
  | _ => []

/-- The values of `n` PRBs. -/
def unpackAll (fmt : Nat) : Nat → List Byte → List (Int × Int)
  | 0, _ => []
  | n + 1, b => pairUp (unpackPrb fmt (b.take (prbBytes fmt))) ++ unpackAll fmt n (b.drop (prbBytes fmt))

/-- g of R222 and R298: round(16,384 * 10^(gain / 80)); g is the largest number with (2g - 1) / 2^15 at most 10^(gain / 80). (Log: 227 DEDUCED) -/
def gainOf (gain : Int) : Nat :=
  bitSearch (fun g => decide ((2 * g - 1) ^ 80 * 10 ^ (-gain).toNat ≤ 2 ^ (15 * 80) * 10 ^ gain.toNat)) 16 0

-- The beam cache (R223)

def beamEntries : Nat := 16384
def beamBase : Nat := 0x2000000
def beamAddr (id : Nat) : Nat := beamBase + id % beamEntries * 256

/-- A beam is present: its entry is valid and holds its tag. -/
def State.beamPresent (s : State) (id : Nat) : Bool := sparseGet 0 s.txc.tags (id % beamEntries) == id + 1

/-- The entry of an ID is the pinned one. -/
def State.beamPinned (s : State) (id : Nat) : Bool :=
  match s.txc.pinned with
  | some d => d % beamEntries == id % beamEntries
  | none => false

/-- Write a beam into its entry; weights of paths that the part lacks are as given. -/
def State.setBeam (s : State) (id : Nat) (w : List Byte) : State :=
  { s.setGran (beamAddr id) (pad 256 w) with txc := { s.txc with tags := sparseSet 0 s.txc.tags (id % beamEntries) (id + 1) } }

/-- Q1.15 weights of 256 bytes, path 0 first. -/
def weightsOf (b : List Byte) : List (Int × Int) :=
  (List.range 64).map (fun p => (signed 16 (leAt b (4 * p) 2), signed 16 (leAt b (4 * p + 2) 2)))

/-- The default beam's ID (R353). -/
def State.defBeam (s : State) : Nat := leAt (s.sect 9) 0 4 % 2 ^ 18

/-- A section uses the default beam: BEAM bit 18, or its beam is absent (R225, R297). -/
def State.usesDef (s : State) (x : Sect) : Bool :=
  match x.beam with
  | none => true
  | some id => !s.beamPresent id

/-- The weights that a section combines or precodes with, by path. -/
def State.sectWeights (s : State) (x : Sect) : List (Int × Int) :=
  weightsOf (s.granBytes (beamAddr (if s.usesDef x then s.defBeam else x.beam.getD 0)) 256)

-- Precoding (R222)

/-- The downlink sections of a carrier symbol that stand. -/
def State.dlSects (s : State) (car t : Nat) : List Sect :=
  s.con.sects.filter (fun x => x.dl && x.car == car && s.symOfSlot x.car x.slotT x.sym == t && !x.revoked)

/-- The layers of a carrier's symbol that are not carried: those beyond an entry in force since its U-plane window opened, none of whose
sections has all its samples (R164). (Log: 242 DESIGN CHOICE) -/
def State.shedLayers (s : State) (car t : Nat) : List Nat :=
  let low := s.layersSince ((t : Int) - (s.window car 1).1).toNat
  (List.range (s.dlLayers car)).filter (fun l => decide (low ≤ l)
    && (s.dlSects car t).all (fun x => x.layer != l || decide ((x.pieces.map (·.num)).sum < x.num)))

/-- The sample of a section on a subcarrier; zero where none has come (R32). -/
def Sect.value (x : Sect) (k : Nat) : Int × Int :=
  match x.pieces.find? (fun p => decide (p.start ≤ k / 12 ∧ k / 12 < p.start + p.num)) with
  | some p => cAt (pairUp (unpackPrb x.fmt ((p.data.drop ((k / 12 - p.start) * prbBytes x.fmt)).take (prbBytes x.fmt)))) (k % 12)
  | none => (0, 0)

/-- g of R222: at -48 its formula gives 4,115 and its own note 4,116, and the model takes either. (Log: 227 DEDUCED) -/
def gainDown (gain : Int) : Nat := if gain = -48 then 4115 + Config.gainLeast % 2 else gainOf gain

/-- x'(l) of R222. -/
def gained (g : Nat) (v : Int × Int) : Int × Int := ((v.1 * g + 2 ^ 13) / 2 ^ 14, (v.2 * g + 2 ^ 13) / 2 ^ 14)

/-- y(p) of R222 on a subcarrier: `xs` are the sections that contribute, each with its weights, `s` the PRE_SHIFT. (Log: 224 DEDUCED) -/
def precoded (xs : List (Sect × List (Int × Int))) (s p k : Nat) : Int × Int :=
  let acc := (xs.filter (fun x => decide (x.1.start ≤ k / 12 ∧ k / 12 < x.1.start + x.1.num))).foldl (fun r x =>
    let t := cadd r (cmul (cAt x.2 p) (gained (gainDown x.1.gain) (x.1.value k)))
    (sat 40 t.1, sat 40 t.2)) (0, 0)
  (sat 14 (shiftUp s acc.1), sat 14 (shiftUp s acc.2))

/-- The antenna-domain samples of a carrier symbol by path (R222); `w` gives a section's weights. Empty where no section that is carried
(R164) has samples. (Log: 224 DEDUCED, 242 DESIGN CHOICE) -/
def State.precode (s : State) (w : Sect → List (Int × Int)) (car t : Nat) : List (List (Int × Int)) :=
  let xs := (s.dlSects car t).filter (fun x => !x.mute && !x.pieces.isEmpty && !(s.shedLayers car t).contains x.layer)
  if xs.isEmpty then [] else
    let l := xs.map (fun x => (x, w x))
    (List.range s.part.paths).map (fun p => (List.range (12 * s.nPrb car)).map (precoded l (s.preShift car) p))

-- Combining (R297, R298) and partial sums (R299 to R301)

/-- The position in the cascade, and what it makes of a sum. -/
def State.isHead (s : State) : Bool := !s.cascadeSheaf || s.get R.LNK_PROTO.POS == 0

/-- A PARTIAL is expected from the device below (R299). (Log: 83 DEDUCED) -/
def State.expectsPartial (s : State) : Bool :=
  s.cascadeSheaf && decide (s.get R.LNK_PROTO.POS + 1 < s.hdr 37 1) && !s.flag R.LNK_SEG.BOUNDARY

/-- A port carries an uplink layer (R163, R164). -/
def State.carriesUl (s : State) (p : Port) (layer : Nat) : Bool :=
  decide (layer < s.get (if p == .up then R.LNK_DEG.UP_UL else R.LNK_DEG.CAS_UL))

/-- A section's PARTIAL has come. -/
def State.partialHere (s : State) (x : Sect) : Option PartialSum :=
  s.rxc.partials.find? (fun p => p.car == x.car && p.slotT == x.slotT && p.sym == x.sym && p.id == x.id)

/-- The CLOSE of a section's symbol, where one has fired that expected PARTIALs. -/
def State.closeOf (s : State) (x : Sect) : Option (Nat × Nat × List Nat) :=
  s.rxc.closed.find? (fun c => c.1 == x.car && c.2.1 == s.symOfSlot x.car x.slotT x.sym)

/-- The PARTIAL that a section's sum adds: at the CLOSE one had come, and the cascade hop carried the layer (R301). -/
def State.partialFor (s : State) (x : Sect) : Option PartialSum :=
  match s.closeOf x with
  | some c => if c.2.2.contains x.id then s.partialHere x else none
  | none => none

/-- The uplink sections of a symbol that produce output. -/
def State.ulSects (s : State) (car slotT sym : Nat) : List Sect :=
  s.con.sects.filter (fun x => !x.dl && x.car == car && x.slotT == slotT && x.sym == sym && !x.mute)

/-- acc of R298 for one subcarrier: `y` by path. -/
def State.combine (s : State) (w y : List (Int × Int)) : Int × Int :=
  (((List.range s.part.paths).zip (w.zip y)).filter (fun x => s.rxUsed x.1)).foldl (fun r x => cadd r (cmul x.2.1 x.2.2)) (0, 0)

/-- The output stage of R298. -/
def outStage (gain : Int) (shift : Nat) (t : Int × Int) : Int × Int :=
  let f (v : Int) : Int := sat 16 ((v * gainOf gain + 2 ^ (shift + 13)) / 2 ^ (shift + 14))
  (f t.1, f t.2)

/-- Send a section's UL_DATA or PARTIAL (R298, R300, R301). `adc` holds the ADC codes of each path over the symbol. (Log: 44 DEDUCED, 128 DEDUCED, 129 DEDUCED, 130 DEDUCED) -/
def State.sendSum (s : State) (x : Sect) (adc : List (List Int)) : State :=
  if !s.carriesUl .up x.layer then (if s.isHead then s else s.count R.RXC_CNT_PSSHED.PSSHED R.RXC_CNTOVF.OVF 2)
  else
    let w := s.sectWeights x
    let wins := s.fftWindows x.car (s.symOfSlot x.car x.slotT x.sym) adc
    let own := (List.range (12 * x.num)).map (fun i => s.combine w (s.antenna x.car wins (12 * x.start + i)))
    let part := s.partialFor x
    let sum := match part with
      | some p => (own.zip (unpackAll p.fmt x.num p.data)).map (fun z => cadd z.1 z.2)
      | none => own
    let v := s.symValid x.car x.slotT x.sym
    let ps := (part.map (·.status)).getD 0
    let inv := v.2.1 || bit ps 0
    let stp := v.2.2 || bit ps 4
    let miss := ((s.closeOf x).isSome || s.expectsPartial) && part.isNone
    let def_ := s.usesDef x
    let status := (if inv then 1 else 0) + (if miss || bit ps 2 then 4 else 0) + (if def_ then 8 else 0) + (if stp then 16 else 0)
    let vf := max v.1 ((part.map (·.validFrom)).getD 0)
    let own1 := if s.cascadeSheaf then 2 ^ s.get R.LNK_PROTO.POS else 1
    let contrib := maskOr own1 ((part.map (·.contrib)).getD 0) 4
    let fmt := if s.isHead then x.fmt else if s.hopRev .up = 3 then 6 else 5
    let out := if s.isHead then sum.map (outStage x.gain (s.ulShift x.car)) else sum
    let body := leBytes 2 x.id ++ leBytes 2 x.start ++ leBytes 2 x.num ++ leBytes 1 x.layer ++ leBytes 1 fmt ++ leBytes 1 0
      ++ leBytes 1 status ++ leBytes 2 vf ++ leBytes 1 contrib ++ leBytes 3 0 ++ packAll fmt x.num out
    let air := s.airRefOn (s.symOfSlot x.car x.slotT x.sym) x.car
    let t := { s with rxc := { s.rxc with partials := s.rxc.partials.filter (fun p => !(p.car == x.car && p.slotT == x.slotT && p.sym == x.sym && p.id == x.id)) } }
    let t := if def_ then t.count R.SHF_CNT_DEFBEAM.DEFBEAM R.SHF_CNTOVF.OVF 3 else t
    if s.isHead then
      (if inv then t.count R.RXC_CNT_INVSYM.INVSYM R.RXC_CNTOVF.OVF 0 else t).transmit .up 3 0x02 1 0x80 air body
    else t.transmit .up 3 0x04 (s.hopRev .up) (s.get R.LNK_PROTO.POS - 1) air body

/-- PARTIAL_SUM_CLOSE (R299, R301): what is missing is settled; each section whose PARTIAL is missing counts, where a sum of it goes up. (Log: 130 DEDUCED) -/
def execPartialSumClose (a : Act) (s : State) : Out :=
  s.onFire a (fun s =>
    let car := a.car.toNat
    let slotT := s.actSym a car (bits a.arg.toNat 6 4) 0
    let sym := bits a.arg.toNat 3 0
    let xs := s.ulSects car slotT sym
    let here := xs.filter (fun x => s.carriesUl .cas x.layer && (s.partialHere x).isSome)
    if s.expectsPartial then
      { s with rxc := { s.rxc with closed := s.rxc.closed.filter (fun (c : Nat × Nat × List Nat) => decide (s.tick ≤ c.2.1 + 10 * subTicks))
          ++ [(car, s.symOfSlot car slotT sym, here.map (fun (x : Sect) => x.id))] } }.each (xs.filter (fun (x : Sect) => s.carriesUl .up x.layer)) (fun (x : Sect) t =>
        if !s.carriesUl .cas x.layer then t.count R.RXC_CNT_PSSHED.PSSHED R.RXC_CNTOVF.OVF 2
        else if (s.partialHere x).isNone then t.count R.RXC_CNT_PSMISS.PSMISS R.RXC_CNTOVF.OVF 1 else t)
    else s)

-- Extraction (R309, R310)

/-- `n` steps. -/
def iterate {α : Type} (f : α → α) : Nat → α → α
  | 0, x => x
  | n + 1, x => iterate f n (f x)

/-- Carrier-rate samples of NSYM consecutive symbols of a carrier from an air tick on (R309). -/
def State.symSamples (s : State) (car first nsym : Nat) : Nat := (iterate (s.symNext car) nsym first - first) / 2 ^ s.rateK car

/-- EXTRACT (R309, R310): `adc` holds the path's ADC codes over the interval. An extraction before it goes on until it has landed or been sent. (Log: 5 DESIGN CHOICE) -/
def execExtract (a : Act) (adc : List Int) (s : State) : Out :=
  s.onFire a (fun s =>
    let k := a.unit.toNat
    let first := s.actBound a
    let e : Extraction := ⟨k, bits a.arg.toNat 12 7, a.car.toNat, first, s.symSamples a.car.toNat first (bits a.arg.toNat 16 13), adc, bit a.arg.toNat 17, 0⟩
    { s with rxc := { s.rxc with extracts := s.rxc.extracts ++ [e] } })

/-- The samples of an extraction as the front end delivers them (R309). -/
def State.extracted (s : State) (e : Extraction) : List (Int × Int) := s.frontEnd e.path e.car e.first e.num e.adc

/-- An extraction to memory has all its samples in the extraction buffer, 32 ticks after they reach the digital die (R285, R309). -/
def State.extractIn (s : State) (e : Extraction) : Bool := e.mem && decide (e.first + e.num * 2 ^ s.rateK e.car + 416 ≤ s.tick)

/-- An extraction with DEST = 1 lands in the capture partition (R310). -/
def State.extractPut (s : State) (e : Extraction) : State :=
  s.setGran (0x3C00000 + s.rxByte 12 4 + e.k * s.rxByte 16 4)
    ((s.extracted e).map (fun c => leBytes 2 (unsigned 16 c.1) ++ leBytes 2 (unsigned 16 c.2))).flatten

/-- Every extraction whose samples are all in lands. -/
def State.extractsLand (s : State) : State :=
  if s.rxc.extracts.any s.extractIn then
    let l := s.rxc.extracts.filter s.extractIn
    { s with rxc := { s.rxc with extracts := s.rxc.extracts.filter (fun e => !s.extractIn e) } }.each l (fun e t => t.extractPut e)
  else s

/-- Receive output for the air time at a tick is sent: none at or after a STOP boundary (R138). -/
def State.outputFor (s : State) (a : Nat) : Bool := if s.run = runStopping then decide (a < s.shf.stopAt.getD (a + 1)) else true

/-- Send samples of the oldest extraction of a unit that has some left as one UL_TIME (R185, R310), up to a STOP boundary (R138). -/
def State.sendTime (s : State) (k num : Nat) : State :=
  match s.rxc.extracts.find? (fun e => e.k == k && !e.mem) with
  | none => s
  | some e =>
    let first := e.first + e.sent * 2 ^ s.rateK e.car
    let n := ((List.range (min (min num 16384) (e.num - e.sent))).filter (fun i => s.outputFor (first + i * 2 ^ s.rateK e.car))).length
    if n = 0 then s
    else
      let stp := s.stepIn first (first + n * 2 ^ s.rateK e.car)
      let vf := if stp then 65535 else validFrom (s.invalRuns [e.path] e.car first n) n
      let status := (if vf = 0 then 0 else 1) + (if stp then 16 else 0)
      let body := leBytes 1 e.path ++ leBytes 1 0 ++ leBytes 1 status ++ leBytes 1 k ++ leBytes 2 vf ++ leBytes 2 n
        ++ leBytes 4 (s.cyclePos first % subTicks) ++ leBytes 4 0
        ++ packMant 16 ((((s.extracted e).drop e.sent).take n).map (fun c => [c.1, c.2])).flatten
      let l := s.rxc.extracts.map (fun x => if x = e then { x with sent := x.sent + n } else x)
      { s with rxc := { s.rxc with extracts := l.filter (fun x => x.mem || decide (x.sent < x.num)) } }.transmit .up 3 0x03 1 0x80 (s.airRefOn first e.car) body

-- Sounding-derived beams (R304 to R308)

/-- R of a group: the sum of y yᴴ over its subcarriers of the comb (R306). -/
def covariance (ys : List (List (Int × Int))) : List (List (Int × Int)) :=
  (List.range 64).map (fun i => (List.range 64).map (fun j =>
    ys.foldl (fun r y => cadd r (cmul ((y.drop i).head?.getD (0, 0)) (cconj ((y.drop j).head?.getD (0, 0))))) (0, 0)))

/-- A vector and the common denominator of its components. -/
abbrev QVec := List (Int × Int) × Nat

/-- The largest component magnitude of an integer vector. -/
def maxComp (v : List (Int × Int)) : Nat := v.foldl (fun m c => max m (max c.1.natAbs c.2.natAbs)) 0

/-- The sum of the squared magnitudes. -/
def norm2 (v : List (Int × Int)) : Nat := v.foldl (fun m c => m + (c.1 * c.1 + c.2 * c.2).toNat) 0

/-- Remove from a vector its projection on another. -/
def project (u : List (Int × Int)) (v : QVec) : QVec :=
  let uu := norm2 u
  if uu = 0 then v
  else
    let p := cdot (u.map cconj) v.1
    ((v.1.zip u).map (fun x => ((uu : Int) * x.1.1 - (cmul x.2 p).1, (uu : Int) * x.1.2 - (cmul x.2 p).2)), v.2 * uu)

/-- Scale a vector by a power of two so that its largest component magnitude lies from 2^14 up to 2^15. -/
def scaleVec (v : QVec) : QVec :=
  let m := maxComp v.1
  if m = 0 then v
  else if m < 2 ^ 14 * v.2 then
    let k := bitSearch (fun k => decide (m * 2 ^ k < 2 ^ 15 * v.2)) 16 0
    (v.1.map (fun c => (c.1 * 2 ^ k, c.2 * 2 ^ k)), v.2)
  else
    let k := bitSearch (fun k => decide (2 ^ 14 * v.2 * 2 ^ k ≤ m)) 16 0
    (v.1, v.2 * 2 ^ k)

/-- One step of the power iteration. -/
def iterStep (r : List (List (Int × Int))) (earlier : List (List (Int × Int))) (v : QVec) : QVec :=
  scaleVec (earlier.foldl (fun v u => project u v) (r.map (fun row => cdot row v.1), v.2))

/-- The column with the largest diagonal element; the lowest index among equals. -/
def firstColumn (r : List (List (Int × Int))) : List (Int × Int) :=
  let d (i : Nat) : Int := (((r.drop i).head?.getD []).drop i).head?.getD (0, 0) |>.1
  let i := (List.range 64).foldl (fun b i => if d b < d i then i else b) 0
  r.map (fun row => (row.drop i).head?.getD (0, 0))

/-- The trace of R. -/
def traceOf (r : List (List (Int × Int))) : Nat :=
  ((List.range 64).map (fun i => ((((r.drop i).head?.getD []).drop i).head?.getD (0, 0)).1.toNat)).sum

/-- POWER for the vector at the last iteration: 1,000 log10 of ‖R v‖ / (‖v‖ tr R), rounded down (R306). -/
def powerOf (r : List (List (Int × Int))) (v : List (Int × Int)) : Int :=
  logFloor 500 (norm2 (r.map (fun row => cdot row v))) (norm2 v * traceOf r * traceOf r)

/-- The beams of one group: each vector's POWER and beam. The exact power iteration, with each component off by what R306 allows and the
largest from 16,384 to 32,767; a vector that is zero, and its POWER, are free values. (Log: 132 DESIGN CHOICE) -/
def groupBeams (s : Sounding) (g : Nat) (r : List (List (Int × Int))) : List (Int × List (Int × Int)) :=
  let err (v i : Nat) : Nat := Config.soundErr s.y [s.groupPrb, s.numVec, s.iter] ((g * 4 + v) * 256 + i)
  let vs := (List.range s.numVec).foldl (fun (l : List (QVec × QVec)) _ =>
    let earlier := l.map (fun x => x.2.1)
    let before := iterate (iterStep r earlier) (s.iter - 1) (firstColumn r, 1)
    l ++ [(before, iterStep r earlier before)]) []
  (List.range s.numVec).map (fun v =>
    let x := (vs.drop v).head?.getD (([], 1), ([], 1))
    let exact (n : Int) : Int := max (-32767) (min 32767 (n / x.2.2))
    let off (i : Nat) (n : Int) : Int :=
      if maxComp x.2.1 = 0 then signed 16 (err v i) else max (-32767) (min 32767 (n / x.2.2 + ((err v i % 16 : Nat) : Int) - 7))
    let beam (f : Nat → Int → Int) : List (Int × Int) :=
      (List.range 64).map (fun i => let c := (x.2.1.drop i).head?.getD (0, 0); (f (2 * i) c.1, f (2 * i + 1) (-c.2)))
    let p : Int := if maxComp x.1.1 = 0 ∨ traceOf r = 0 then signed 16 (err v 255) else powerOf r x.1.1 + ((err v 255 % 2 : Nat) : Int)
    (p, if maxComp x.2.1 ≠ 0 ∧ maxComp (beam off) < 16384 then beam (fun _ n => exact n) else beam off))

/-- Groups of a carrier (R306). -/
def State.groups (s : State) (car groupPrb : Nat) : Nat := if groupPrb = 0 then 0 else (s.nPrb car + groupPrb - 1) / groupPrb

/-- The symbol tick and descriptor words of a class 19 action (R304). -/
def State.soundAct (s : State) (a : Act) : Nat × Nat × Nat :=
  let w0 := s.param a.arg.toNat
  (s.actSym a a.car.toNat (bits w0 6 4) (bits w0 3 0), w0, s.param (a.arg.toNat + 1))

/-- The sounding is of the descriptor and symbol. -/
def Sounding.is (x : Sounding) (a : Act) (symT : Nat) : Bool := x.desc == a.arg.toNat && x.car == a.car.toNat && x.symT == symT

/-- Replace a sounding. -/
def State.setSounds (s : State) (f : Sounding → Option Sounding) : State := { s with rxc := { s.rxc with sounds := s.rxc.sounds.filterMap f } }

/-- The beams of every group of a sounding. -/
def State.solveAll (s : State) (x : Sounding) : List (List (Int × List (Int × Int))) :=
  let comb := s.comb x.car
  (List.range (s.groups x.car x.groupPrb)).map (fun g =>
    let lo := 12 * g * x.groupPrb
    let ys := ((x.y.drop lo).take (12 * x.groupPrb)).zip (List.range (12 * x.groupPrb))
    groupBeams x g (covariance ((ys.filter (fun z => (lo + z.2) % 2 ^ bits comb 1 0 == bits comb 4 2)).map (·.1))))

/-- The 256 bytes of a placed beam; weights of paths the part lacks are 0 (R307). -/
def State.beamBytes (s : State) (b : List (Int × Int)) : List Byte :=
  ((b.zip (List.range 64)).map (fun x =>
    if x.2 < s.part.paths then leBytes 2 (unsigned 16 x.1.1) ++ leBytes 2 (unsigned 16 x.1.2) else leBytes 4 0)).flatten

/-- Place the beams of a sounding (R307). -/
def State.placeBeams (s : State) (x : Sounding) : State :=
  let items := ((List.range x.beams.length).zip x.beams).flatMap (fun g =>
    ((List.range g.2.length).zip g.2).map (fun v => (g.1, x.base + g.1 * x.numVec + v.1, v.2.2)))
  let t := s.each items (fun i t =>
    if t.beamPinned i.2.1 then (t.put R.RXC_SOUND.SKIPPED 1).count R.RXC_CNT_SNDSKIP.SNDSKIP R.RXC_CNTOVF.OVF 4
    else t.setBeam i.2.1 (t.beamBytes i.2.2))
  t.setSounds (fun y => if y = x then some { y with placed := true, skipped := (items.filter (fun i => s.beamPinned i.2.1)).map (·.1) } else some y)

/-- Send the next SOUND_RESULT of a request (R308); after the last, BUSY clears (R305). (Log: 44 DEDUCED) -/
def State.sendSound (s : State) (car symT : Nat) : State :=
  match s.rxc.sounds.find? (fun x => x.car == car && x.symT == symT && x.req.isSome && x.beams != []) with
  | none => s
  | some x =>
    let g := x.sent
    let vs := (x.beams.drop g).head?.getD []
    let start := g * x.groupPrb
    let flags := (if x.placed then 1 else 0) + (if x.invalid then 2 else 0) + (if x.skipped.contains g then 4 else 0)
    let body := leBytes 2 g ++ leBytes 1 x.numVec ++ leBytes 1 flags ++ leBytes 2 start ++ leBytes 2 (min x.groupPrb (s.nPrb car - start)) ++ leBytes 8 0
      ++ (vs.map (fun v => leBytes 2 (unsigned 16 v.1) ++ leBytes 2 0
        ++ (v.2.map (fun c => leBytes 2 (unsigned 16 c.1) ++ leBytes 2 (unsigned 16 c.2))).flatten)).flatten
    let t := s.transmit .up 2 0x0A 3 0x80 (s.airRefOn symT car) body
    if g + 1 < x.beams.length then t.setSounds (fun y => if y = x then some { y with sent := g + 1 } else some y)
    else (t.setSounds (fun y => if y = x then none else some y)).put R.RXC_SOUND.BUSY 0

-- Class 16 (R122)

/-- Transmit preparation for an air time has started: the high-water mark follows (R93). (Log: 159 DEDUCED) -/
def State.prepared (s : State) (a : Nat) : State :=
  { s with tim := { s.tim with highWater := some (match s.tim.highWater with | some h => max h a | none => a) } }

/-- The beam IDs of its sections that the cache does not hold. -/
def State.absentIds (s : State) (car t : Nat) : List Nat := ((s.dlSects car t).filterMap (·.beam)).filter (fun id => !s.beamPresent id)

/-- A transmit kernel starts on symbols of a carrier: their first precoding begins, unless it has begun (R227, R243). (Log: 156 DEDUCED, 224 DEDUCED) -/
def State.beginPrep (s : State) (car : Nat) (l : List Nat) : State :=
  s.each (l.filter (fun a => !(s.symRec car a).begun)) (fun a t =>
    (t.setSym car a (fun r => { r with begun := true, absent := t.absentIds car a, freq := t.precode t.sectWeights car a })).prepared a)

/-- A check names a transmit kernel's symbols: their preparation is complete (R237, R241). (Log: 156 DEDUCED) -/
def State.prepDone (s : State) (car : Nat) (l : List Nat) : State := s.each l (fun t u => u.setSym car t (fun r => { r with ready := true }))

/-- The flags of one symbol of a TX_REPORT (R194). -/
def SymRec.flags (r : SymRec) : Nat :=
  (if r.filled then 1 else 0) + (if r.defbeam then 2 else 0) + (if r.late then 4 else 0) + (if r.muted then 8 else 0)
    + (if r.amended then 16 else 0) + (if r.shed then 32 else 0)

/-- Send a slot's TX_REPORT (R194). -/
def State.sendReport (s : State) (car slotT : Nat) : State :=
  let f := (List.range 14).map (fun k => (sparseGet {} s.txc.syms (symKey car (s.symOfSlot car slotT k))).flags)
  s.transmit .up 2 0x0B 1 0x80 (s.airRefOn slotT car) ((f.map (leBytes 1)).flatten ++ leBytes 2 0)

/-- U_C_PLANE_TRANSMISSION (R122): what a class 16 action sends; receive output only for air time before a STOP boundary (R138). (Log: 181 DESIGN CHOICE) -/
def execUCPlaneTransmission (serve : BitVec 2) (job : UlJob) (s : State) : Out :=
  s.onFire ⟨serve, 7, 0, 0⟩ (fun s =>
    match job with
    | .ulData car slotT sym sect adc => (match (s.ulSects car slotT sym).find? (fun x => x.id == sect) with
      | some x => if s.outputFor (s.symOfSlot car slotT sym) then s.sendSum x adc else s
      | none => s)
    | .ulTime k num => s.sendTime k num
    | .soundResult car symT => if s.outputFor symT then s.sendSound car symT else s
    | .txReport car slotT => s.sendReport car slotT)

end Sys2Proof.Machine
end

