-- ==== Sys2Proof/Machine/Dpd.lean ====
section
/-! DEFINITION. Predistortion and gleaners (09_linearisation.md): models and banks, the evaluation of R257, selection and commit,
captures and adaptation, and the measurements taken from captures. -/

namespace Sys2Proof.Machine

-- Models (R259 to R262)

/-- The model number of a path; 0xFF for bypass, and while no sheaf is applied. -/
def State.modelNo (s : State) (p : Nat) : Nat := if s.record 5 = [] ∨ 64 ≤ p then 0xFF else leAt (s.record 5) p 1

/-- The DPDMODEL body of a path; empty for bypass. -/
def State.model (s : State) (p : Nat) : List Byte :=
  if s.modelNo p = 0xFF then [] else ((s.recsOf 4).find? (fun b => leAt b 0 1 == s.modelNo p)).getD []

/-- A path has a model. -/
def State.hasModel (s : State) (p : Nat) : Bool := s.model p != []

/-- The term descriptors of a model body. -/
def dpdTerms (b : List Byte) : List Nat := (List.range (leAt b 1 1 + leAt b 2 1)).map (fun i => leAt b (4 + 4 * i) 4)

def tKind (t : Nat) : Nat := bits t 1 0
def tOrder (t : Nat) : Nat := bits t 5 2
def tD (t : Nat) : Nat := bits t 10 6
def tE (t : Nat) : Nat := bits t 13 11
def tNb (t : Nat) : Nat := bits t 15 14

/-- The COUPLE entry of a path (R261). -/
def State.coupleEntry (s : State) (p : Nat) : Option (List Byte) :=
  ((List.range (leAt (s.sect 8) 0 1)).map (fun i => ((s.sect 8).drop (8 + 8 * i)).take 8)).find? (fun e => leAt e 0 1 == p)

/-- The neighbours of a path in slots 0 to 3; 0xFF where a slot names none. (Log: 146 DEDUCED) -/
def State.neighbours (s : State) (p : Nat) : List Nat :=
  match s.coupleEntry p with
  | some e => (List.range 4).map (fun j => leAt e (2 + j) 1)
  | none => List.replicate 4 0xFF

/-- The neighbours that are present, in slot order. -/
def State.nbPresent (s : State) (p : Nat) : List Nat := (s.neighbours p).filter (· != 0xFF)

/-- The paths of a commit group (R262). -/
def State.groupPaths (s : State) (g : Nat) : List Nat :=
  (List.range s.part.paths).filter (fun p => s.hasModel p && (match s.coupleEntry p with
    | some e => leAt e 1 1 == g
    | none => p == g))

-- Banks (R263 to R266)

def State.bankSet (s : State) (p o : Nat) : BankSet := sparseGet {} s.dpd.banks (4 * p + o)
def State.setBank (s : State) (p o : Nat) (b : BankSet) : State := { s with dpd := { s.dpd with banks := sparseSet {} s.dpd.banks (4 * p + o) b } }

/-- Coefficient `i` of a bank; the empty bank is the identity. -/
def bankCoef (b : List (Int × Int)) (i : Nat) : Int × Int := if b = [] then (if i = 0 then (32768, 0) else (0, 0)) else cAt b i

/-- The operating point selected for a path at an air tick: that of the SELECT with the latest boundary at or before it (R267). (Log: 151 DEDUCED) -/
def State.opptAt (s : State) (p a : Nat) : Nat :=
  ((s.dpd.sel.filter (fun x => x.1 == p && decide (x.2.1 ≤ a))).foldl (fun (b : Nat × Nat) x => if b.1 ≤ x.2.1 then (x.2.1, x.2.2) else b) (0, 0)).2

/-- The bank in force for the engine symbol at an air tick (R264), and its version. -/
def State.bankAt (s : State) (p a : Nat) : List (Int × Int) × Nat :=
  let b := s.bankSet p (s.opptAt p a)
  if b.at_ ≤ a then (b.cur, b.ver) else (b.prev, (b.ver + 255) % 256)

/-- The INITBANK entries (R266): ETYPE and body. -/
def initEntries : Nat → List Byte → List (Nat × List Byte)
  | 0, _ => []
  | n + 1, b => if b.length < 4 then [] else (leAt b 0 1, (b.drop 4).take (leAt b 2 2)) :: initEntries n (b.drop (4 + leAt b 2 2))

def State.initBank (s : State) : List (Nat × List Byte) := initEntries (s.sect 0x0B).length (s.sect 0x0B)

/-- A signed coefficient pair. -/
def coefAt (b : List Byte) (o : Nat) : Int × Int := (signed 32 (leAt b o 4), signed 32 (leAt b (o + 4) 4))

/-- The bank that INITBANK gives a path and operating point. -/
def State.initCoef (s : State) (p o : Nat) : Option (List (Int × Int)) :=
  (s.initBank.find? (fun e => e.1 == 2 && leAt e.2 0 1 == p && leAt e.2 1 1 == o)).map
    (fun e => (List.range (leAt e.2 2 1)).map (fun i => coefAt e.2 (4 + 8 * i)))

/-- The term descriptors and neighbours that the applied sheaf gives a path. -/
def State.dpdShape (s : State) (p : Nat) : List Byte × List Nat := ((s.model p).drop 4, s.neighbours p)

/-- A path's banks carry overs (R265): identical descriptors, and the same neighbour in every slot that a cross term uses. -/
def sameShape (old new : List Byte × List Nat) : Bool :=
  old.1 != [] && old.1 == new.1 &&
    ((List.range (new.1.length / 4)).map (fun i => leAt new.1 (4 * i) 4)).all (fun t =>
      decide (tKind t < 2) || (old.2.drop (tNb t)).head? == (new.2.drop (tNb t)).head?)

/-- PATHCFG of a path (R276). -/
def State.capCoarse (s : State) (p : Nat) : Nat := leAt (s.record 6) (16 + 8 * p) 2
def State.capSpan (s : State) (p : Nat) : Nat := leAt (s.record 6) (18 + 8 * p) 1
def State.kCorr (s : State) (p : Nat) : Int × Int := (signed 16 (leAt (s.record 6) (20 + 8 * p) 2), signed 16 (leAt (s.record 6) (22 + 8 * p) 2))

/-- Bring OPPT and VER of a path to an operating point. -/
def State.showBank (s : State) (p o : Nat) : State := (s.put (R.DPD_PATHSTAT_n.OPPT p) o).put (R.DPD_PATHSTAT_n.VER p) (s.bankSet p o).ver

/-- What apply does to the DPD engine (R265, R276, R284). (Log: 147 DEDUCED) -/
def State.dpdApply (s : State) : State :=
  let t := ((s.putFlag R.DPD_CFG.COUPLED (s.sect 8 != [])).put R.DPD_CFG.MODELS (s.recsOf 4).length).put R.DPD_CFG.SLOTS (leAt (s.record 6) 0 1)
  t.each (List.range t.part.paths) (fun p t =>
    let keep := sameShape (sparseGet ([], []) t.dpd.shape p) (t.dpdShape p)
    let u := t.each (List.range 4) (fun o t =>
      let b := t.bankSet p o
      let c := match t.initCoef p o with
        | some c => c
        | none => if keep then b.cur else []
      t.setBank p o { cur := c, prev := c, shadow := c, ver := b.ver, at_ := 0, changed := false, fail := 0 })
    let v : State := { u with dpd := { u.dpd with shape := sparseSet ([], []) u.dpd.shape p (if u.hasModel p then u.dpdShape p else ([], [])) } }
    let w := if v.record 6 = [] then v else v.put (R.DPD_GATTN_n.ATTN p) (leAt (v.record 6) (19 + 8 * p) 1)
    ((w.put (R.DPD_PATHSTAT_n.MODEL p) (if w.hasModel p then w.modelNo p else 0)).putFlag (R.DPD_PATHSTAT_n.BYPASS p) (!w.hasModel p)).showBank p
      (w.get (R.DPD_PATHSTAT_n.OPPT p)))

/-- START: operating point 0 on every path, which OPPT shows from the first ring read (R284), and no capture slot written (R265, R278). -/
def State.dpdStart (s : State) : State :=
  { s with dpd := { s.dpd with sel := [], caps := [], written := [], adapts := [] } }

/-- Commits whose boundary has not been reached take effect at a tick (R271). -/
def State.dpdSettle (s : State) (a : Nat) : State :=
  { s with dpd := { s.dpd with banks := s.dpd.banks.map (fun b => (b.1, { b.2 with at_ := min b.2.at_ a })) } }

-- Evaluation (R257)

/-- |x| as q1.16. -/
def envelopeOf (c : Int × Int) : Nat := (isqrt 18 (16 * cnorm c) + 1) / 2

/-- pw(k) of an envelope. -/
def powOf (a : Nat) : Nat → Nat
  | 0 => 2 ^ 16
  | k + 1 => (powOf a k * a + 2 ^ 15) / 2 ^ 16

/-- b of R257, in units of 2^-20. -/
def basisOf (c : Int × Int) (pw : Nat) : Int × Int := ((c.1 * pw + 2 ^ 10) / 2 ^ 11, (c.2 * pw + 2 ^ 10) / 2 ^ 11)

/-- The 14-bit output of an accumulated sum in units of 2^-35, and whether it was limited. -/
def dpdOut (acc : Int × Int) : (Int × Int) × Bool :=
  let f (v : Int) : Int := (v + 2 ^ 21) / 2 ^ 22
  ((sat 14 (f acc.1), sat 14 (f acc.2)), sat 14 (f acc.1) != f acc.1 || sat 14 (f acc.2) != f acc.2)

/-- A term's basis value. `xp` and `xq` give the samples some delay ago of the path and of the neighbour in a slot. (Log: 146 DEDUCED) -/
def termBasis (t : Nat) (xp : Nat → Int × Int) (xq : Nat → Nat → Int × Int) : Int × Int :=
  let k := tOrder t - 1
  match tKind t with
  | 0 => basisOf (xp (tD t)) (powOf (envelopeOf (xp (tD t))) k)
  | 1 => basisOf (xp (tD t)) (powOf (envelopeOf (xp (tD t + tE t))) k)
  | 2 => basisOf (xq (tNb t) (tD t)) (powOf (envelopeOf (xp (tD t))) k)
  | _ => basisOf (xp (tD t)) (powOf (envelopeOf (xq (tNb t) (tD t))) k)

/-- The output sample of a model with a bank. -/
def dpdSample (terms : List Nat) (bank : List (Int × Int)) (xp : Nat → Int × Int) (xq : Nat → Nat → Int × Int) : (Int × Int) × Bool :=
  dpdOut ((terms.zip (List.range terms.length)).foldl (fun r t => cadd r (cmul (termBasis t.1 xp xq) (bankCoef bank t.2))) (0, 0))

/-- The output sample of a bypassed path (R258). -/
def bypassSample (c : Int × Int) : (Int × Int) × Bool := dpdOut (c.1 * 2 ^ 20, c.2 * 2 ^ 20)

/-- A sample some delay before index `n` of a stream that a history of `h` samples precedes; 0 before it. -/
def sampleBack (hist xs : List (Int × Int)) (n d : Nat) : Int × Int :=
  if n + hist.length < d then (0, 0) else cAt (hist ++ xs) (n + hist.length - d)

/-- The DPD output of a path overs a stretch of CFR output. `hists` and `xs` hold every path's memory and samples. -/
def State.dpdRun (s : State) (p : Nat) (bank : List (Int × Int)) (hists xs : Sparse (List (Int × Int))) (n : Nat) : List ((Int × Int) × Bool) :=
  let terms := dpdTerms (s.model p)
  let nbs := s.neighbours p
  let back (q : Nat) := sampleBack (sparseGet [] hists q) (sparseGet [] xs q)
  (List.range n).map (fun i =>
    if s.hasModel p then dpdSample terms bank (back p i) (fun j d => back ((nbs.drop j).head?.getD 0xFF) i d)
    else bypassSample (back p i 0))

-- Selection and commit (R267 to R271)

/-- DPD_SELECT (R267). -/
def execDpdSelect (a : Act) (s : State) : Out :=
  s.onFire a (fun s =>
    let b := s.actSym a a.car.toNat (bits a.arg.toNat 8 6) (bits a.arg.toNat 5 2)
    let ps := (List.range s.part.paths).filter (fun p => a.unit.toNat == 0xFF || p / 8 == a.unit.toNat)
    { s with dpd := { s.dpd with sel := s.dpd.sel ++ ps.map (fun p => (p, b, bits a.arg.toNat 1 0)) } })

/-- COMMIT (R270). -/
def execCommit (a : Act) (s : State) : Out :=
  s.onFire a (fun s =>
    let o := bits a.arg.toNat 1 0
    let b := s.actSym a a.car.toNat (bits a.arg.toNat 8 6) (bits a.arg.toNat 5 2)
    let g := a.unit.toNat
    let changed := (s.groupPaths g).filter (fun p => (s.bankSet p o).changed)
    match changed, changed.find? (fun p => (s.bankSet p o).fail != 0) with
    | [], _ => s.count R.DPD_CNT_CIDLE.CIDLE R.DPD_CNTOVF.OVF 2
    | _, none =>
      (s.each (s.groupPaths g) (fun p t =>
        let x := t.bankSet p o
        let u := t.setBank p o { cur := x.shadow, prev := x.cur, shadow := x.shadow, ver := (x.ver + 1) % 256, at_ := b, changed := false, fail := 0 }
        if u.get (R.DPD_PATHSTAT_n.OPPT p) = o then u.showBank p o else u)).count R.DPD_CNT_COMMIT.COMMIT R.DPD_CNTOVF.OVF 0
    | l, some p =>
      let t := s.each l (fun p t => let x := t.bankSet p o; t.setBank p o { x with shadow := x.cur, changed := false, fail := 0 })
      ((((t.put R.DPD_LASTFAIL.GROUP g).put R.DPD_LASTFAIL.OPPT o).put R.DPD_LASTFAIL.PATH p).put R.DPD_LASTFAIL.MASK (s.bankSet p o).fail).count
        R.DPD_CNT_CFAIL.CFAIL R.DPD_CNTOVF.OVF 1)

-- Captures (R272 to R278)

/-- Engine rate multiple m (R221). -/
def State.eRate (s : State) : Nat := 2 ^ s.get R.TXC_RUNAHEAD.ERATE

/-- Length in ticks of the engine symbol that begins at an air tick. -/
def State.engLen (s : State) (a : Nat) : Nat := s.symNext s.grid a - a

/-- A slot's address in the granary. -/
def State.slotAddr (s : State) (g buf : Nat) : Nat :=
  0x3C00000 + leAt (s.record 6) 8 4 + (g * leAt (s.record 6) 0 1 + buf) * leAt (s.record 6) 12 4

def capLen (len : Nat) : Nat := 512 * 2 ^ len

/-- Where GLSTAT of a gleaner lies. -/
def glStat (g hi lo : Nat) : Fld := ⟨R.DPD_GLSTAT0.w.addr + 4 * g, hi, lo⟩

/-- CAPTURE (R273, R274): the selector switches, and the capture interval begins. (Log: 150 DEDUCED, 271 DESIGN CHOICE) -/
def execCapture (a : Act) (s : State) : Out :=
  s.onFire a (fun s =>
    let g := a.unit.toNat
    let w := a.arg.toNat
    let p := 8 * g + bits w 2 0
    if s.part.gleaners ≤ g then s
    else
      let t := (((s.put (glStat g 2 0) (bits w 2 0)).put (glStat g 3 3) (bits w 3 3)).put (glStat g 4 4) 1).put (glStat g 11 8) (bits w 7 4)
      { t with dpd := { t.dpd with
          attn := sparseSet 0 t.dpd.attn p (t.get (R.DPD_GATTN_n.ATTN p)),
          caps := t.dpd.caps.filter (fun c => c.gleaner != g)
            ++ [⟨g, p, bits w 7 4, bits w 9 8, bit w 3, t.tick + 64, false, (t.calChip (g / 2)).window.isSome, t.get (R.CNV_TXNCO_n.FC p)⟩] } })

/-- The engine symbol of the ring that holds an engine sample, numbered in 1/m ticks. -/
def State.engAt (s : State) (n : Nat) : Option (Nat × EngSym) :=
  s.txc.eng.find? (fun e => decide (e.1 * s.eRate ≤ n) && decide (n < (e.1 + s.engLen e.1) * s.eRate))

/-- The engine symbols that a range of engine samples touches. -/
def State.engRange (s : State) (lo hi : Nat) : List (Nat × EngSym) :=
  s.txc.eng.filter (fun e => decide (e.1 * s.eRate < hi) && decide (lo < (e.1 + s.engLen e.1) * s.eRate))

/-- A stream of engine samples of a path from the symbols of the ring; 0 where none holds them. (Log: 148 DEDUCED) -/
def State.engStream (s : State) (f : EngSym → Sparse (List (Int × Int))) (p lo n : Nat) : List (Int × Int) :=
  (List.range n).map (fun i => match s.engAt (lo + i) with
    | some e => cAt (sparseGet [] (f e.2) p) (lo + i - e.1 * s.eRate)
    | none => (0, 0))

def sampleBytes (l : List (Int × Int)) : List Byte := (l.map (fun c => leBytes 2 (unsigned 16 c.1) ++ leBytes 2 (unsigned 16 c.2))).flatten

/-- The capture-time void reason, 3 to 8 in their order (R278). -/
def State.capVoid (s : State) (c : CapRun) (lo hi overs : Nat) : Nat :=
  let syms := s.engRange lo hi
  let ps := c.path :: s.nbPresent c.path
  let first := syms.head?.map (·.1)
  if c.step then 3
  else if c.cal then 4
  else if syms.any (fun e => ps.any (fun p => e.2.muted.contains p)) then 5
  else if syms.any (fun e => ps.any (fun p => e.2.late.contains p)) then 6
  else if syms.any (fun e => ps.any (fun p => match first with
      | some f => s.opptAt p e.1 != s.opptAt p f || s.bankAt p e.1 != s.bankAt p f
      | none => false)) then 7
  else if overs ≠ 0 then 8
  else 0

/-- The samples of a capture at the engine rate (R325): the codes of the coupler input, `lead` of them before the GL window, are mixed by
the transmit NCO to which the gleaner tunes (R319), whose phase is 0 at tick 0 of a subframe (R316), and decimated. A frequency above the
ADC's own band turns the codes as they stand, so an even zone needs no further step (R315). (Log: 271 DESIGN CHOICE) -/
def State.gleaned (s : State) (c : CapRun) (codes : List Int) (lead : Nat) : List (Int × Int) :=
  let r := adcPerTick (s.cnvPlan (c.gleaner / 2))
  let ratio := r / s.eRate
  let per := subTicks * r
  let i0 := s.cyclePos c.start % subTicks * r + (per - lead % per)
  let x := (codes.zip (List.range codes.length)).map (fun v => turned (-(c.nco : Int)) (491520 * r) (i0 + v.2) (v.1, 0))
  (List.range (capLen c.len)).map (fun j =>
    let d := decimated (Config.gleanTaps ratio) x (lead + j * ratio)
    (compensated 1024 d.1, compensated 1024 d.2))

/-- Codes at overrange in the GL window of a capture (R279, R325). -/
def State.gleanOver (s : State) (c : CapRun) (codes : List Int) (lead : Nat) : Nat :=
  (((codes.drop lead).take (capLen c.len * (adcPerTick (s.cnvPlan (c.gleaner / 2)) / s.eRate))).filter
    (fun v => decide (v = -2048 ∨ v = 2047))).length

/-- CAPTURE_END (R274, R275, R278, R279, R325): `codes` are the gleaner's ADC codes, `lead` of them before the GL window. (Log: 5 DESIGN CHOICE, 15 DEDUCED, 271 DESIGN CHOICE) -/
def execCaptureEnd (gleaner : Nat) (codes : List Int) (lead : Nat) (s : State) : Out :=
  match s.dpd.caps.find? (fun c => c.gleaner == gleaner) with
  | none => .next s
  | some c =>
    let len := capLen c.len
    let span := s.capSpan c.path
    let n := len + 2 * span
    let lo := c.start * s.eRate - s.capCoarse c.path - span
    let p := c.path
    let nbs := s.neighbours p
    let overs := s.gleanOver c codes lead
    let void := s.capVoid c lo (lo + n) overs
    let at_ := ((s.engRange lo (lo + n)).head?.map (·.1)).getD 0
    let header := leBytes 1 p ++ leBytes 1 ((if c.dir then 1 else 0) + c.len * 2 + s.opptAt p at_ * 8) ++ leBytes 1 void
      ++ leBytes 1 (((List.range 4).filter (fun j => (nbs.drop j).head?.getD 0xFF != 0xFF)).foldl (fun m j => m + 2 ^ j) 0)
      ++ leBytes 1 (s.bankAt p at_).2 ++ leBytes 1 span ++ leBytes 2 (s.capCoarse p)
      ++ leBytes 4 (s.frameOf c.start + s.subOf c.start * 1024) ++ leBytes 4 (s.cyclePos c.start % subTicks)
    let t := s.setGran (s.slotAddr c.gleaner c.buf) (pad 64 header ++ sampleBytes (s.gleaned c codes lead)
      ++ sampleBytes (s.engStream (·.out) p lo n) ++ sampleBytes (s.engStream (·.x) p lo n)
      ++ ((s.nbPresent p).map (fun q => sampleBytes (s.engStream (·.x) q lo n))).flatten)
    .next (({ t with dpd := { t.dpd with
        caps := t.dpd.caps.filter (fun x => x.gleaner != c.gleaner),
        written := sparseSet 0 t.dpd.written (16 * c.gleaner + c.buf) (c.start + 1) } }.put (glStat c.gleaner 4 4) 0).countBy
      (R.DPD_CNT_GSAT_n.GSAT p) (R.DPD_CNTOVF_n.OVF p) 2 overs)

-- The bank window (R284)

/-- The coefficient that DPD_BANKSEL names; 0 beyond the model, for a path without one, and for STORE 3. -/
def State.bankShown (s : State) : Int × Int :=
  let p := s.get R.DPD_BANKSEL.PATH
  let b := s.bankSet p (s.get R.DPD_BANKSEL.OPPT)
  let i := s.get R.DPD_BANKSEL.TERM
  if !s.hasModel p ∨ (dpdTerms (s.model p)).length ≤ i then (0, 0)
  else match s.get R.DPD_BANKSEL.STORE with
    | 0 => bankCoef b.cur i
    | 1 => bankCoef b.prev i
    | 2 => bankCoef b.shadow i
    | _ => (0, 0)

/-- BANK_READ_I (R284): DPD_BANKI reads, and DPD_BANKQ is captured. -/
def execBankReadI (s : State) : Out :=
  .next ((s.putInt R.DPD_BANKI.I s.bankShown.1).putInt R.DPD_BANKQ.Q s.bankShown.2)

/-- BANK_READ_Q (R284): TERM advances, modulo 64. -/
def execBankReadQ (s : State) : Out := .next (s.put R.DPD_BANKSEL.TERM ((s.get R.DPD_BANKSEL.TERM + 1) % 64))

end Sys2Proof.Machine
end

