-- ==== Sys2Proof/Machine/Adapt.lean ====
section
/-! DEFINITION. Adaptation from gleaner captures (R278 to R283): when a step is void, its alignment, least squares and criteria in exact
arithmetic, and the measurements it leaves. -/

namespace Sys2Proof.Machine

/-- Signed samples of a stream in a capture slot. -/
def State.slotStream (s : State) (a n : Nat) : List (Int × Int) :=
  let b := s.granBytes a (4 * n)
  (List.range n).map (fun i => (signed 16 (leAt b (4 * i) 2), signed 16 (leAt b (4 * i + 2) 2)))

/-- The header of a capture slot, and its reference streams: y_p and x_p, then each neighbour's. -/
def State.slotHead (s : State) (g buf : Nat) : List Byte := s.granBytes (s.slotAddr g buf) 64
def headLen (h : List Byte) : Nat := capLen (bits (leAt h 1 1) 2 1)
def headOppt (h : List Byte) : Nat := bits (leAt h 1 1) 4 3
def headDir (h : List Byte) : Bool := bit (leAt h 1 1) 0
def State.slotRef (s : State) (g buf k : Nat) : List (Int × Int) :=
  let h := s.slotHead g buf
  let n := headLen h + 2 * leAt h 5 1
  s.slotStream (s.slotAddr g buf + 64 + 4 * headLen h + 4 * n * k) n

/-- The capture has gone stale: VER is not the latest of its path and operating point. -/
def State.capStale (s : State) (h : List Byte) : Bool := leAt h 4 1 != (s.bankSet (leAt h 0 1) (headOppt h)).ver

/-- LOWLEVEL (R278): fewer than 256 samples with |y| at most 4,096, or an RMS below -30 dBFS. -/
def lowLevel (y : List (Int × Int)) : Bool :=
  decide ((y.filter (fun c => decide (cnorm c ≤ 4096 ^ 2))).length < 256)
    || decide ((y.map cnorm).sum * 1000 < y.length * 8191 ^ 2)

/-- ADAPT (R280): decides reasons 1, 2 and 9, and takes overs what the header shows. -/
def execAdapt (a : Act) (s : State) : Out :=
  s.onFire a (fun s =>
    let g := a.unit.toNat
    let buf := bits a.arg.toNat 3 0
    let at_ := sparseGet 0 s.dpd.written (16 * g + buf)
    let h := s.slotHead g buf
    let void := if at_ = 0 then 1 else if s.capStale h then 2 else if leAt h 2 1 ≠ 0 then leAt h 2 1
      else if lowLevel (s.slotRef g buf 0) then 9 else 0
    { s with dpd := { s.dpd with adapts := s.dpd.adapts ++ [⟨g, buf, void, at_ - 1⟩] } })

/-- A rounded figure: the whole units of a quotient, or one more, as the step rounds; what a field of `w` bits cannot hold is free. (Log: 149 DESIGN CHOICE) -/
def State.figure (s : State) (w : Nat) (x : Int) : Nat :=
  let r := x + ((Config.pick s.free % 2 : Nat) : Int)
  if r < 2 ^ w then r.toNat else Config.pick s.free

/-- The squared magnitude of the order-1 gain: the sum of the own terms of ORDER 1. -/
def gainOne (terms : List Nat) (bank : List (Int × Int)) : Nat :=
  cnorm (((terms.zip (List.range terms.length)).filter (fun t => decide (tKind t.1 < 2) && tOrder t.1 == 1)).foldl (fun r t => cadd r (bankCoef bank t.2)) (0, 0))

/-- GAIN (R281): squared gains within a number of 0.1 dB of each other. -/
def gainOk (a b tol : Nat) : Bool := decide (a ^ 100 ≤ 10 ^ tol * b ^ 100) && decide (b ^ 100 ≤ 10 ^ tol * a ^ 100)

/-- STEP (R281): the squared distance against the squared norm and STEP_MAX in dB. -/
def stepOk (dist norm m : Nat) : Bool := decide (dist ^ 10 * 10 ^ m ≤ norm ^ 10)

-- Complex numbers with rational parts

abbrev CQ := Rat × Rat

def cqAdd (a b : CQ) : CQ := (a.1 + b.1, a.2 + b.2)
def cqSub (a b : CQ) : CQ := (a.1 - b.1, a.2 - b.2)
def cqMul (a b : CQ) : CQ := (a.1 * b.1 - a.2 * b.2, a.1 * b.2 + a.2 * b.1)
def cqConj (a : CQ) : CQ := (a.1, -a.2)
def cqNorm (a : CQ) : Rat := a.1 * a.1 + a.2 * a.2
def cqDiv (a b : CQ) : CQ := let q := cqMul a (cqConj b); (q.1 / cqNorm b, q.2 / cqNorm b)
def cqOf (c : Int × Int) (unit : Nat) : CQ := ((c.1 : Rat) / (unit : Rat), (c.2 : Rat) / (unit : Rat))
def cqAt (l : List CQ) (i : Nat) : CQ := (l.drop i).head?.getD (0, 0)
def cqSum (l : List CQ) : CQ := l.foldl cqAdd (0, 0)

/-- A part to the nearest whole multiple of 1 / n. -/
def nearest (n : Nat) (q : Rat) : Int := (q * (n : Rat) + 1 / 2).floor

/-- One column of the elimination: row `i` is scaled to 1 there and taken from every other row. -/
def eliminate (m : List (List CQ)) (i : Nat) : List (List CQ) :=
  let row := (m.drop i).head?.getD []
  let r := row.map (fun x => cqDiv x (cqAt row i))
  (m.zip (List.range m.length)).map (fun z =>
    if z.2 = i then r else (z.1.zip r).map (fun x => cqSub x.1 (cqMul (cqAt z.1 i) x.2)))

/-- The solution of a positive definite system whose rows end in the right-hand side. -/
def solveSystem (m : List (List CQ)) : List CQ := ((List.range m.length).foldl eliminate m).map (fun r => r.getLast?.getD (0, 0))

-- The alignment of a capture (R280): `z` holds L samples, `y` the reference from -S on

/-- r(j)², in units of one code each. -/
def corr2 (z y : List (Int × Int)) (span : Nat) (j : Int) : Nat :=
  cnorm ((z.zip (List.range z.length)).foldl (fun r x => cadd r (cmul x.1 (cconj (cAt y ((x.2 : Int) - j + (span : Int)).toNat)))) (0, 0))

/-- j: the first integer from -S to S at which r is largest. (Log: 149 DESIGN CHOICE) -/
def alignAt (z y : List (Int × Int)) (span : Nat) : Int :=
  ((List.range (2 * span + 1)).map (fun (k : Nat) => (k : Int) - (span : Int))).foldl
    (fun b j => if corr2 z y span b < corr2 z y span j then j else b) (-(span : Int))

/-- The alignment stands: j lies inside, and rho reaches 0.9 forward, 0.3 reverse. -/
def alignOk (z y : List (Int × Int)) (span : Nat) (dir : Bool) : Bool :=
  let j := alignAt z y span
  let ys := ((List.range z.length).map (fun (i : Nat) => cnorm (cAt y ((i : Int) - j + (span : Int)).toNat))).sum
  decide (j.natAbs < span) && decide ((if dir then 9 else 81) * ((z.map cnorm).sum * ys) ≤ 100 * corr2 z y span j)

/-- f, in 1/64 of a sample; a flat top gives 0. (Log: 149 DESIGN CHOICE) -/
def fracOf (z y : List (Int × Int)) (span : Nat) : Int :=
  let j := alignAt z y span
  let r (i : Int) : Int := (isqrt 96 (corr2 z y span i * 2 ^ 64) : Nat)
  let d := 2 * r j - r (j - 1) - r (j + 1)
  if d ≤ 0 then 0 else roundDiv (64 * (r (j + 1) - r (j - 1))) (2 * d).toNat

/-- w at sample `i` of z: 16 taps of the fractional-delay filter, which the rule does not give, in units of 2^-30. (Log: 149 DESIGN CHOICE) -/
def delayedAt (z : List (Int × Int)) (f : Int) (i : Nat) : CQ :=
  cqSum ((List.range 16).map (fun t => cqMul (((Config.delayTap f t : Int) : Rat) / 2 ^ 30, 0) (cqOf (cAt z (i + t - 7)) 32768)))

/-- The samples of z that the filter leaves: 8 are dropped at each end. -/
def alignedOf (len : Nat) : List Nat := (List.range len).filter (fun i => decide (8 ≤ i ∧ i + 8 < len))

/-- The streams of a capture slot: z, y_p, x_p, and x_q of neighbour slots 0 to 3. -/
def State.slotZ (s : State) (g buf : Nat) : List (Int × Int) := s.slotStream (s.slotAddr g buf + 64) (headLen (s.slotHead g buf))
def State.slotNb (s : State) (p g buf j : Nat) : List (Int × Int) :=
  let nbs := s.neighbours p
  if (nbs.drop j).head?.getD 0xFF = 0xFF then [] else s.slotRef g buf (2 + ((nbs.take j).filter (· != 0xFF)).length)

/-- The place in the reference streams that sample `i` of z is aligned with. -/
def State.slotAt (s : State) (g buf i : Nat) : Nat :=
  let span := leAt (s.slotHead g buf) 5 1
  ((i : Int) - alignAt (s.slotZ g buf) (s.slotRef g buf 0) span + (span : Int)).toNat

/-- w of a capture. -/
def State.slotW (s : State) (g buf : Nat) : Nat → CQ :=
  let z := s.slotZ g buf
  delayedAt z (fracOf z (s.slotRef g buf 0) (leAt (s.slotHead g buf) 5 1))

/-- g of R280: the loop gain over the aligned samples of `lo`, where |y_p| is at most 4,096. -/
def State.slotGain (s : State) (g buf : Nat) : CQ :=
  let y := s.slotRef g buf 0
  let at_ (i : Nat) : Int × Int := cAt y (s.slotAt g buf i)
  let lo := (alignedOf (headLen (s.slotHead g buf))).filter (fun i => decide (cnorm (at_ i) ≤ 4096 ^ 2))
  cqDiv (cqSum (lo.map (fun i => cqMul (s.slotW g buf i) (cqConj (cqOf (at_ i) 8192))))) (cqSum (lo.map (fun i => (cqNorm (cqOf (at_ i) 8192), 0))))

-- The step (R280)

/-- x_p at an aligned sample, and e = u - x_p there. -/
def State.slotX (s : State) (g buf i : Nat) : CQ := cqOf (cAt (s.slotRef g buf 1) (s.slotAt g buf i)) 32768
def State.slotErr (s : State) (g buf i : Nat) : CQ := cqSub (cqDiv (s.slotW g buf i) (s.slotGain g buf)) (s.slotX g buf i)

/-- a^k of R256, `c` a sample in Q1.15: exact for even k, and to 2^-64 of a otherwise. -/
def envelopePow (c : Int × Int) (k : Nat) : Rat :=
  let n : Rat := ((cnorm c : Nat) : Rat) / 2 ^ 30
  if k % 2 = 0 then n ^ (k / 2) else n ^ (k / 2) * (((isqrt 82 (cnorm c * 2 ^ 128) : Nat) : Rat) / 2 ^ 79)

/-- A term's basis value of R256. `xp` and `xq` give the samples some delay ago of the path and of the neighbour in a slot. -/
def exactBasis (t : Nat) (xp : Nat → Int × Int) (xq : Nat → Nat → Int × Int) : CQ :=
  let of (c e : Int × Int) : CQ := cqMul (cqOf c 32768) (envelopePow e (tOrder t - 1), 0)
  match tKind t with
  | 0 => of (xp (tD t)) (xp (tD t))
  | 1 => of (xp (tD t)) (xp (tD t + tE t))
  | 2 => of (xq (tNb t) (tD t)) (xp (tD t))
  | _ => of (xp (tD t)) (xq (tNb t) (tD t))

/-- What binary32 arithmetic may add to a number: nothing beyond a bound. -/
def offBy (bound : Nat) (x : Int) : Int := max (-(bound : Int)) (min (bound : Int) x)

/-- A row of phi: the basis of every term of a path's model at an aligned sample; what lies before the reference range is zero. (Log: 149 DESIGN CHOICE) -/
def State.slotBasis (s : State) (p g buf i : Nat) : List CQ :=
  let n := s.slotAt g buf i
  (dpdTerms (s.model p)).map (fun t =>
    exactBasis t (sampleBack [] (s.slotRef g buf 1) n) (fun j d => sampleBack [] (s.slotNb p g buf j) n d))

/-- delta of a step: the regularised least squares of MU and LAMBDA_LOG. -/
def State.slotDelta (s : State) (p g buf : Nat) : List CQ :=
  let idx := alignedOf (headLen (s.slotHead g buf))
  let rows := idx.map (fun i => (s.slotBasis p g buf i, s.slotErr g buf i))
  let k := (dpdTerms (s.model p)).length
  let rr (a b : Nat) : CQ := cqSum (rows.map (fun r => cqMul (cqConj (cqAt r.1 a)) (cqAt r.1 b)))
  let trace := (cqSum ((List.range k).map (fun a => rr a a))).1
  let lam : Rat := trace / (k : Rat) / 2 ^ leAt (s.record 6) 2 1
  solveSystem ((List.range k).map (fun a =>
    (List.range k).map (fun b => if a = b then cqAdd (rr a b) (lam, 0) else rr a b)
      ++ [cqSum (rows.map (fun r => cqMul (cqConj (cqAt r.1 a)) r.2))]))

/-- mu of the sheaf. -/
def State.stepMu (s : State) : Rat := (leAt (s.record 6) 1 1 : Nat) / 16

/-- c_new of a step in units of 2^-15, before it is limited: the bank in force less mu times delta, rounded, and off by what binary32
makes of it, 16 of those units at most. (Log: 149 DESIGN CHOICE) -/
def State.slotCoef (s : State) (p o g buf : Nat) (r : AdaptResult) : List (Int × Int) :=
  let d := s.slotDelta p g buf
  (List.range (dpdTerms (s.model p)).length).map (fun i =>
    let c := cqSub (cqOf (bankCoef (s.bankSet p o).cur i) 32768) (cqMul (s.stepMu, 0) (cqAt d i))
    cadd (nearest 32768 c.1, nearest 32768 c.2) (offBy 16 (cAt r.coef i).1, offBy 16 (cAt r.coef i).2))

/-- Sums of the squares of x_p, of e, and of e - mu phi delta over the aligned samples. -/
def State.slotNmse (s : State) (p g buf : Nat) : Rat × Rat × Rat :=
  let d := s.slotDelta p g buf
  (alignedOf (headLen (s.slotHead g buf))).foldl (fun q i =>
    let e := s.slotErr g buf i
    let fit := cqMul (s.stepMu, 0) (cqSum (((s.slotBasis p g buf i).zip d).map (fun x => cqMul x.1 x.2)))
    (q.1 + cqNorm (s.slotX g buf i), q.2.1 + cqNorm e, q.2.2 + cqNorm (cqSub e fit))) (0, 0, 0)

/-- FIT (R281): the predicted NMSE is at most -NMSE_MAX / 10 dB. -/
def fitOk (x e : Rat) (m : Nat) : Bool := decide (e ^ 100 * 10 ^ m ≤ x ^ 100)

/-- R281: the criteria that fail, for a step's coefficients before and after they are limited. (Log: 149 DESIGN CHOICE) -/
def State.failMask (s : State) (p o g buf : Nat) (raw coef : List (Int × Int)) : Nat :=
  let terms := dpdTerms (s.model p)
  let cur := (List.range terms.length).map (bankCoef (s.bankSet p o).cur)
  let cfg := s.record 6
  let q := s.slotNmse p g buf
  let x := s.slotRef g buf 1
  let peaks := ((alignedOf (headLen (s.slotHead g buf))).filter (fun i =>
    let n := s.slotAt g buf i
    (dpdSample terms coef (sampleBack [] x n) (fun j d => sampleBack [] (s.slotNb p g buf j) n d)).2)).length
  let dist : Nat := ((coef.zip cur).map (fun c => cnorm (c.1.1 - c.2.1, c.1.2 - c.2.2))).sum
  (if coef = raw then 0 else 1)
    + (if fitOk q.1 q.2.2 (leAt cfg 4 2) then 0 else 2)
    + (if gainOk (gainOne terms coef) (gainOne terms cur) (leAt cfg 6 1) then 0 else 4)
    + (if peaks ≤ leAt cfg 3 1 then 0 else 8)
    + (if stepOk dist (cur.map cnorm).sum (leAt cfg 7 1) then 0 else 16)

/-- An NMSE figure in -0.1 dB: 0 where it is positive; free where a sum is zero or the field does not hold it. (Log: 149 DESIGN CHOICE) -/
def State.nmseFigure (s : State) (x e : Rat) : Nat :=
  if x = 0 ∨ e = 0 then Config.pick s.free
  else if x < e then 0
  else s.figure 12 (logFloor 100 (x.num.toNat * e.den) (e.num.toNat * x.den))

/-- g of a step in units of 2^-32, off by what binary32 makes of it, 2^-12 of its greater part at most. (Log: 149 DESIGN CHOICE) -/
def State.stepGain (s : State) (g buf : Nat) (r : AdaptResult) : Int × Int :=
  let q := s.slotGain g buf
  let v : Int × Int := (nearest (2 ^ 32) q.1, nearest (2 ^ 32) q.2)
  let b := max v.1.natAbs v.2.natAbs / 4096
  cadd v (offBy b r.g.1, offBy b r.g.2)

/-- A valid capture's loop gain `v` in units of 2^-32, and its delay j + f in 1/64 of a sample (R282). (Log: 149 DESIGN CHOICE) -/
def State.loopGain (s : State) (p : Nat) (v : Int × Int) (delay : Int) : State :=
  let gain : Int := if v = (0, 0) then signed 16 (Config.pick s.free) else logFloor 1000 (cnorm v) (2 ^ 64) + ((Config.pick s.free % 2 : Nat) : Int)
  let phase : Int := if v = (0, 0) then signed 16 (Config.pick (s.free + 1)) else angleOf v.1 v.2 + ((Config.pick (s.free + 1) % 2 : Nat) : Int)
  ((((s.putInt (R.DPD_LOOP_n.GAIN p) gain).putInt (R.DPD_LOOP_n.PHASE p) phase).putInt (R.DPD_DELAY_n.DELAY p)
    (((64 * s.capCoarse p : Nat) : Int) + delay)).fresh).fresh

/-- The reflection estimate of a valid reverse capture (R283). (Log: 149 DESIGN CHOICE) -/
def State.reverseGain (s : State) (p at_ : Nat) (v : Int × Int) : State :=
  match sparseGet none s.dpd.loops p with
  | some (gi, gq, t) =>
    if at_ ≤ t + 49152000 then
      let num := cmul (cmul (s.kCorr p) v) (cconj (gi, gq))
      let f := cnorm (gi, gq)
      let n := cnorm num
      let rl : Nat := if f = 0 then Config.pick s.free
        else if n = 0 then 4095
        else
          let x := logFloor 100 (f * f * 2 ^ 28) n + ((Config.pick s.free % 2 : Nat) : Int)
          if x < 0 then Config.pick s.free else min x.toNat 4095
      let phase : Int := if num = (0, 0) then signed 16 (Config.pick (s.free + 1)) else angleOf num.1 num.2 + ((Config.pick (s.free + 1) % 2 : Nat) : Int)
      let t := ((((s.put (R.DPD_RL_n.RL p) rl).put (R.DPD_RL_n.VALID p) 1).putInt (R.DPD_RL_n.PHASE p) phase).fresh).fresh
      t.reflection p (t.get (R.DPD_RL_n.RL p))
    else s.put (R.DPD_RL_n.VALID p) 0
  | none => s.put (R.DPD_RL_n.VALID p) 0

/-- ADAPT_DONE (R280): the step in progress on a slot completes, as STALE where a commit has come between whatever else is wrong (R281);
`r` is what binary32 arithmetic adds to its numbers. (Log: 5 DESIGN CHOICE, 149 DESIGN CHOICE) -/
def execAdaptDone (gleaner buf : Nat) (r : AdaptResult) (s : State) : Out :=
  match s.dpd.adapts.find? (fun x => x.gleaner == gleaner && x.buf == buf) with
  | none => .next s
  | some run =>
    let h := s.slotHead gleaner buf
    let z := s.slotZ gleaner buf
    let ok := alignOk z (s.slotRef gleaner buf 0) (leAt h 5 1) (headDir h)
    let void := if run.void = 1 then 1 else if s.capStale h then 2 else if run.void ≠ 0 then run.void else if ok then 0 else 10
    let gain := s.stepGain gleaner buf r
    let p := if run.void = 1 then 8 * gleaner + s.get (glStat gleaner 2 0) else leAt h 0 1
    let o := headOppt h
    let t := { s with dpd := { s.dpd with adapts := s.dpd.adapts.erase run } }
    let u := ((t.put (R.DPD_LASTCAP_n.VOID p) void).putFlag (R.DPD_LASTCAP_n.DIR p) (headDir h)).put (R.DPD_LASTCAP_n.BUF p) buf
    .next (
      if s.part.paths ≤ p then t
      else if void ≠ 0 then u.count (R.DPD_CNT_VOID_n.VOID p) (R.DPD_CNTOVF_n.OVF p) 1
      else
        let v := u.count (R.DPD_CNT_CAP_n.CAP p) (R.DPD_CNTOVF_n.OVF p) 0
        if headDir h then v.reverseGain p run.at_ gain
        else
          let delay := 64 * alignAt z (s.slotRef gleaner buf 0) (leAt h 5 1) + fracOf z (s.slotRef gleaner buf 0) (leAt h 5 1) + offBy 1 r.f
          let w := { (v.loopGain p gain delay) with dpd := { v.dpd with loops := sparseSet none v.dpd.loops p (some (gain.1, gain.2, run.at_)) } }
          if !s.hasModel p then w
          else
            let clip (c : Int) : Int := max (-131072) (min 131071 c)
            let raw := s.slotCoef p o gleaner buf r
            let coef := raw.map (fun c => (clip c.1, clip c.2))
            let mask := s.failMask p o gleaner buf raw coef
            let nmse := s.slotNmse p gleaner buf
            let y := ((w.setBank p o { w.bankSet p o with shadow := coef, changed := true, fail := mask }).put (R.DPD_PATHSTAT_n.FAILMASK p) mask)
            let z := (y.put (R.DPD_NMSE_n.MEAS p) (y.nmseFigure nmse.1 nmse.2.1)).fresh
            (z.put (R.DPD_NMSE_n.PRED p) (z.nmseFigure nmse.1 nmse.2.2)).fresh)

end Sys2Proof.Machine
end

