-- ==== Sys2Proof/Machine/Monitor.lean ====
section
/-! DEFINITION. The monitor ADC (16_monitor_adc.md): conversions and their priority, scans, calibration, limits. -/

namespace Sys2Proof.Machine

-- Codes and values (R434, R443)

/-- A quotient rounded to nearest; where the rule leaves a tie open, either neighbour, freely. (Log: 134 DESIGN CHOICE) -/
def State.nearest (s : State) (a : Int) (b : Nat) : Int :=
  let q := a / b
  let r := a % b
  if 2 * r < b then q else if (b : Int) < 2 * r then q + 1 else q + ((Config.pick s.free % 2 : Nat) : Int)

/-- The corrected code of a raw code (R443). -/
def State.monCode (s : State) (raw : Nat) : Nat :=
  let off := s.getInt R.MON_CALCOEF.OFFSET
  let x := s.nearest ((16 * (raw : Int) - off) * s.get R.MON_CALCOEF.GAIN) (2 ^ 19)
  (max 0 (min 4095 x)).toNat

/-- Lowest value and span of a channel in mV (R434). -/
def monSpan (n : Nat) : Int × Nat :=
  if n < 64 ∨ n = 80 ∨ n = 82 then (0, 2500)
  else if n = 81 then (0, 25000)
  else if n = 94 then (0, 8000)
  else if n = 95 then (-4000, 4000)
  else (0, 1600)

/-- VALUE of a corrected code (R434). Temperatures have half as many values as codes: the lower one. Of a voltage the spec does not
say how a fraction is rounded: either neighbour, freely. (Log: 134 DESIGN CHOICE) -/
def State.monVal (s : State) (n code : Nat) : Int :=
  if 64 ≤ n ∧ n < 80 then (code / 2 : Nat) - 512
  else
    let v := monSpan n
    let x := code * v.2
    v.1 + (x / 4096 : Nat) + (if x % 4096 = 0 then 0 else ((Config.pick s.free % 2 : Nat) : Int))

-- Serving the work (R438)

/-- Show what the converter does in MON_STAT. -/
def State.monShow (s : State) : State :=
  match s.mon.cur with
  | none => (s.put R.MON_STAT.CUR 0x7F).put R.MON_STAT.CURSRC 0
  | some c => (s.put R.MON_STAT.CUR (c.ch.getD 0x7F)).put R.MON_STAT.CURSRC c.src

/-- Start a conversion. -/
def State.monStart (s : State) (c : MonConv) : State := { s with mon := { s.mon with cur := some c } }.monShow

/-- Start the next work of an idle converter, by priority (R438); the initial calibration lets nothing else through (R437). (Log: 135 DEDUCED) -/
def State.monNext (s : State) (at_ : Nat) : State :=
  if s.mon.cur.isSome ∨ !s.mon.on then s
  else match (if s.mon.initial then none else s.mon.wait) with
  | some c => { s with mon := { s.mon with wait := none } }.monStart { c with start := max at_ c.start }
  | none =>
    match (if s.mon.initial then none else s.mon.urg) with
    | some n => s.monStart ⟨some n, 3, 0, at_⟩
    | none =>
      if s.flag R.MON_STAT.CAL_RUN then s.monStart ⟨none, 4, 0, at_⟩
      else if s.flag R.MON_STAT.CAL_PEND then
        ((({ s with mon := { s.mon with codes := [] } }.put R.MON_STAT.CAL_PEND 0).put R.MON_STAT.CAL_RUN 1).put R.MON_STAT.CALSTEP 0).monStart ⟨none, 4, 0, at_⟩
      else if s.mon.initial then s
      else match s.mon.pass with
      | n :: _ => s.monStart ⟨some n, 1, 0, at_⟩
      | [] => s.monShow

/-- Abort the conversion in progress; its source serves it again later (R438). -/
def State.monAbort (s : State) : State :=
  match s.mon.cur with
  | none => s
  | some _ => { s with mon := { s.mon with cur := none } }.count R.MON_CNT_ABORT.ABORT R.MON_CNTOVF.OVF 0 |>.monShow

/-- CONVERT (R438 to R440): it starts 2 ticks on; a scheduled conversion that still has up to 2 ticks to run completes first. (Log: 135 DEDUCED) -/
def execConvert (a : Act) (s : State) : Out :=
  s.onFire a (fun s =>
    let c : MonConv := ⟨some a.unit.toNat, 2, bits a.arg.toNat 4 0, s.tick + 2⟩
    if !s.mon.on ∨ s.mon.initial then { s with mon := { s.mon with wait := some c } }
    else match s.mon.cur with
    | some x => if x.src = 2 then { s with mon := { s.mon with wait := some c } } else s.monAbort.monStart c
    | none => s.monStart c)

/-- MON_URG.GO (R441). -/
def State.urgentGo (s : State) (ch : Nat) : State :=
  let t := s.put R.MON_URG.CH ch
  if s.flag R.MON_URG.BUSY ∨ !s.part.monHas ch then t.put R.MON_URG.REFUSED 1
  else
    let u := { ((t.put R.MON_URG.BUSY 1).put R.MON_URGRES.DONE 0) with mon := { s.mon with urg := some ch } }
    match s.mon.cur with
    | some c => if (c.src = 1 ∨ c.src = 4) ∧ !s.mon.initial then u.monAbort.monNext (s.tick + 2) else u
    | none => u.monNext (s.tick + 2)

/-- URGENT_GO (R441). -/
def execUrgentGo (ch : BitVec 7) (s : State) : Out := .next (s.urgentGo ch.toNat)

/-- A calibration is requested (R444). -/
def State.monCal (s : State) : State := (s.put R.MON_STAT.CAL_PEND 1).monNext (s.tick + 2)

/-- MON_CAL (R444): a write of 1 to MON_CTRL.CAL. -/
def execMonCal (s : State) : Out := .next s.monCal

/-- Start-up step 5: the converter runs, and its initial calibration comes first (R437, R444); the factory coefficients apply, or the
nominal ones where the loft is unreadable (R443). (Log: 138 DESIGN CHOICE) -/
def State.monPower (s : State) : State :=
  let t := { s with mon := { s.mon with on := true, initial := true } }
  let u := if s.loft.readable then t.setWord R.MON_CALCOEF.w.addr (BitVec.ofNat 32 Config.monFactory)
    else (t.put R.MON_CALCOEF.OFFSET 0).put R.MON_CALCOEF.GAIN 0x8000
  u.monCal

/-- SCAN_PASS_START (R442): the gap between passes has expired. -/
def execScanPassStart (s : State) : Out :=
  if !s.mon.on ∨ s.mon.pass ≠ [] ∨ !s.flag R.MON_CTRL.SCAN_EN then .next s
  else
    let m := maskList (s.word R.MON_SCAN0.w.addr).toNat 32 ++ (maskList (s.word R.MON_SCAN1.w.addr).toNat 32).map (· + 32)
      ++ (maskList (s.word R.MON_SCAN2.w.addr).toNat 32).map (· + 64)
    .next ({ s with mon := { s.mon with pass := m.filter s.part.monHas } }.monNext (s.tick + 2))

-- Results, limits (R445) and what temperatures trigger

def almFld (n : Nat) : Fld := ⟨R.MON_ALM0.ALM.addr + 4 * (n / 32), 31, 0⟩
def State.latched (s : State) (n : Nat) : Bool := bit (s.get (almFld n)) (n % 32)

/-- The channels that drive ALERT_N low (R445). -/
def State.monDrive (s : State) (l : List Nat) : State := { s with mon := { s.mon with alerting := l } }.alertN 6 (!l.isEmpty)

/-- ALERT_N after a result of a channel: ALERT applies from the next result on (R445). -/
def State.monAlert (s : State) (n : Nat) : State :=
  let l := s.mon.alerting.filter (· != n)
  s.monDrive (if s.latched n && s.flag (R.MON_LCTL_n.ALERT n) then l ++ [n] else l)

/-- ALERT_N after latched bits have been cleared (R445). -/
def State.monRelease (s : State) : State := s.monDrive (s.mon.alerting.filter s.latched)

/-- The limit test of a result (R445). (Log: 137 DEDUCED, 206 DEDUCED) -/
def State.limitTest (s : State) (n : Nat) (v : Int) : State :=
  if !s.flag (R.MON_LCTL_n.EN n) then s
  else
    let high := decide (s.getInt (R.MON_LIM_n.HIGH n) < v)
    let out := high || decide (v < s.getInt (R.MON_LIM_n.LOW n))
    let t := s.putFlag (R.MON_LCTL_n.OUT n) out
    let k := if out && !s.latched n then sparseGet 0 s.mon.consec n + 1 else 0
    if 0 < k ∧ s.get (R.MON_LCTL_n.COUNT n) ≤ k then
      let d := n + (if high then 128 else 0) + unsigned 16 v * 65536
      ((({ t with mon := { t.mon with consec := sparseSet 0 t.mon.consec n 0 } }.setBit (almFld n) (n % 32)).count R.MON_CNT_LIMIT.LIMIT
        R.MON_CNTOVF.OVF 2).alarm 0x0021 1 d).tally 0x0032 (leBytes 8 d)
    else { t with mon := { t.mon with consec := sparseSet 0 t.mon.consec n k } }

/-- What a new temperature triggers: chiplet calibrations (R338), DRAM retraining (R403), the converter's own calibration (R444). -/
def State.tempEvents (s : State) (n : Nat) : State :=
  if 64 ≤ n ∧ n < 72 then s.tempTrigger ((n - 64) / 2)
  else if n = 78 then
    let v := s.monValue 78
    if (List.range 8).any (fun k => !s.flag (R.MEM_DQ_k.FAILED k)
        && decide (8 * s.get R.MEM_DCTL.RT_STEP ≤ (v - 8 * s.getInt (R.MEM_DQTEMP_k.TEMP k)).natAbs)) && !s.flag R.MEM_DSTAT.RETRAIN
    then s.dramRetrain else s
  else if n = 79 then
    match s.mon.ts15 with
    | some m => if s.get R.MON_CTRL.CAL_STEP ≠ 0 ∧ 8 * s.get R.MON_CTRL.CAL_STEP ≤ (s.monValue 79 - m).natAbs then s.put R.MON_STAT.CAL_PEND 1 else s
    | none => s
  else s

/-- Write a channel's result (R440 to R442). -/
def State.monResult (s : State) (n src code : Nat) (v : Int) : State :=
  let t := (((s.put (R.MON_RES_n.CODE n) code).put (R.MON_RES_n.SRC n) src).put (R.MON_RES_n.NEW n) 1).putInt (R.MON_RES_n.VALUE n) v
  ((t.limitTest n v).monAlert n).tempEvents n

/-- The coefficients that a calibration's 32 codes give (R443). Where the offset or the gain does not fit its field, or the source
codes do not exceed the offset, the field is a free value; so is the rounding of the gain. (Log: 134 DESIGN CHOICE) -/
def State.monCoef (s : State) (codes : List Nat) : State :=
  let g := (codes.take 16).sum
  let d : Int := ((codes.drop 16).sum : Int) - g
  let num : Nat := 32768 * 16 * 33554432
  let t := if g < 32768 then s.put R.MON_CALCOEF.OFFSET g else s.put R.MON_CALCOEF.OFFSET (Config.pick (s.free + 1))
  let k := num / (10000 * d.toNat) + (if num % (10000 * d.toNat) = 0 then 0 else Config.pick s.free % 2)
  let u := if 0 < d ∧ k < 65536 then t.put R.MON_CALCOEF.GAIN k else t.put R.MON_CALCOEF.GAIN (Config.pick s.free)
  u.fresh.fresh

/-- The last step of a calibration ends (R443, R444). -/
def State.monCalDone (s : State) (codes : List Nat) : State :=
  let t := (((s.monCoef codes).put R.MON_STAT.CAL_RUN 0).put R.MON_STAT.CALSTEP 0).put R.MON_STAT.CALVALID 1
  { t.count R.MON_CNT_CAL.CAL R.MON_CNTOVF.OVF 1 with mon := { t.mon with codes := [], initial := false, ts15 := some (t.monValue 79) } }

/-- CONVERSION_DONE (R437 to R445): the raw code of the conversion in progress; the next work starts. (Log: 5 DESIGN CHOICE, 136 DEDUCED) -/
def execConversionDone (raw : BitVec 12) (s : State) : Out :=
  match s.mon.cur with
  | none => .next s
  | some c =>
    let t := { s with mon := { s.mon with cur := none } }
    let code := s.monCode raw.toNat
    let done (n : Nat) : State := t.fresh.monResult n c.src code (s.monVal n code)
    let u := match c.ch, c.src with
      | none, _ =>
        let l := s.mon.codes ++ [raw.toNat]
        if l.length < 32 then { t with mon := { t.mon with codes := l } }.put R.MON_STAT.CALSTEP l.length else t.monCalDone l
      | some n, 2 =>
        let v := done n
        { ((v.put (R.MON_SRES_k.CODE c.slot) code).putInt (R.MON_SRES_k.VALUE c.slot) (s.monVal n code)) with
            mon := { v.mon with stamps := sparseSet 0 v.mon.stamps c.slot (s.frameOf c.start + s.subOf c.start * 2 ^ 10 + n * 2 ^ 14 + 2 ^ 21) } }
      | some n, 3 =>
        let v := done n
        { (((v.put R.MON_URGRES.CODE code).putInt R.MON_URGRES.VALUE (s.monVal n code)).put R.MON_URGRES.DONE 1 |>.put R.MON_URG.BUSY 0) with
            mon := { v.mon with urg := none } }
      | some n, _ =>
        let v := done n
        { v with mon := { v.mon with pass := v.mon.pass.filter (· != n) } }
    .next (u.monShow.monNext s.tick)

/-- SLOT_RESULT_READ (R446): reading MON_SRES_k captures MON_STIME_k. -/
def State.slotRead (s : State) (k : Nat) : State := s.setWord (R.MON_STIME_k.w k).addr (BitVec.ofNat 32 (sparseGet 0 s.mon.stamps k))

def execSlotResultRead (slot : BitVec 5) (s : State) : Out := .next (s.slotRead slot.toNat)

end Sys2Proof.Machine
end

