-- ==== Sys2Proof/Machine/Boot.lean ====
section
/-! DEFINITION. Power, reset and start-up (03_power_reset_startup.md): rail sequencing, the power-fail sequence, the resets of R60,
boot slot selection and recovery, the sideband, and the test access port (R449). -/

namespace Sys2Proof.Machine

-- Resets (R60, R61, R500, R543)

/-- The bias outputs that a reset finds on another range than 0 V to 2.5 V, with their safe code and range: each holds its safe voltage
for the 4 µs switching interval, and is at code 0 on range 0 from its end (R55 step 3, R61, R331). -/
def State.biasHolds (s : State) : List (Nat × Nat × Nat) :=
  ((biasOuts s.part).filter (fun o => s.get (bRange o) != 0)).map (fun o => (o, envSafeCode s.envelope o, envSafeRange s.envelope o))

/-- Everything outside VAON takes its reset value; the loft, SYS_RESETCAUSE and PWR_FAULT stay, and so do the bytes of the granary, which the
spec does not clear; those of DRAM are not guaranteed from now on (R406). The sequencer's latch goes on holding ALERT_N (R58), and the duty history ages on the oscillator
from now on (R254). (Log: 8 DESIGN CHOICE, 19 DESIGN CHOICE, 95 DESIGN CHOICE) -/
def State.resetLogic (s : State) : State :=
  let fresh : State := {
    boot := { alerts := s.boot.alerts.filter (· == 0) }
    cnv := { toZero := s.biasHolds }
    pending := s.pending
    part := s.part
    free := s.free
    vaon := { s.vaon with duty := s.vaon.duty.map (fun d => (d.1, d.2.map (fun e => { e with broken := true }))) }
    loft := s.loft
    wire := s.wire
    lnk := { up := { seen := s.wire.length }, cas := { seen := s.wire.length } }
    mem := Mem.lose { gran := s.mem.gran, poison := s.mem.poison, dramGen := s.mem.dramGen } }
  (fresh.setWord R.SYS_RESETCAUSE.w.addr (s.word R.SYS_RESETCAUSE.w.addr)).setWord R.PWR_FAULT.w.addr (s.word R.PWR_FAULT.w.addr)

/-- Set a bit of SYS_RESETCAUSE. -/
def State.cause (s : State) (f : Fld) : State := s.put f 1

/-- A pin, software or sideband reset (R60, R61): the RESET record is written at the next boot. (Log: 19 DESIGN CHOICE) -/
def State.warmReset (s : State) (f : Fld) : State :=
  let t := (s.resetLogic).cause f
  { t with vaon := { t.vaon with recordPending := true } }

/-- Rails of a sequencing group (R57). -/
def railGroup (p : Part) (g : Nat) : List Nat :=
  match g with
  | 1 => [0, 1]
  | 2 => [2, 3]
  | 3 => [4, 5, 6]
  | 4 => [7]
  | 5 => if p.paths64 then [8, 9, 10, 11] else [8, 9]
  | 6 => [12, 13]
  | _ => []

/-- The sequencer goes off, unless it is latched, and every rail with it; the bias outputs have reached code 0 long before their
supplies go (R55 steps 3 and 6). (Log: 219 DEDUCED) -/
def State.railsOff (s : State) : State :=
  let q : Sequencer := if s.vaon.seq = Sequencer.latched then Sequencer.latched else Sequencer.off
  { s with vaon := { s.vaon with seq := q }, cnv := { s.cnv with toZero := [] } }.put R.PWR_STATUS.RAIL_GOOD 0

/-- Where the log's newest event stands once the control block has been read, as the tally finds it at reset release (R487). -/
def State.scanMap (s : State) : State :=
  let a := s.loftBytes 0x386000 64
  let b := s.loftBytes 0x387000 64
  if !ctlValid a && !ctlValid b then s
  else
    let c := if ctlValid b && (!ctlValid a || later 32 (leAt b 4 4) (leAt a 4 4)) then b else a
    { s with tal := { s.tal with map := (List.range 4).map (fun i => leAt c (16 + 4 * i) 4) } }

/-- The newest event of the log: its head record. -/
def State.newestHead (s : State) : Option (List Byte) := (s.scanMap.newestSlot).map s.scanMap.logSlot

/-- The records of the last event before power goes: no remap is made, and a write that fails leaves the event invalid (R492). In
STALLED the records go to the volatile ring, which the reset loses (R494). -/
def State.writeLast (s : State) (e : TalEvent) (fails : List (Option Nat)) : State :=
  if s.get R.TAL_STAT.STATE = 3 then s
  else
    let ops := (e.records s.talMark).zipIdx.flatMap (fun r => (recordOps s.talMark r.1).map (fun o => (r.2, o.1, o.2)))
    s.each ops.zipIdx (fun x t =>
      (t.loftOp (logSlotAddr t.tal.map ((t.tal.wpos + x.1.1) % logSlots) + x.1.2.1) x.1.2.2 ((fails.drop x.2).head?.getD none)).1)

/-- The newest event of the log and of the media-fault area: its head record (R480, R494). -/
def State.newestEvent (s : State) : Option (List Byte) :=
  ((s.newestHead.toList ++ [s.loftBytes 0x384000 64, s.loftBytes 0x385000 64]).filter recHead).foldl (fun best r =>
    match best with
    | none => some r
    | some b => if recNewer r b then some r else some b) none

/-- PCC, OPTIME and the next SEQ as the newest event and the loft give them at reset release (R481); `cold` says that a power cycle begins.
The SEQ of the last event written to the log, which MEDIA_FAULT names, comes from the log's own newest (R482). (Log: 10 DEDUCED) -/
def State.tallyResume (s : State) (cold : Bool) : State :=
  let pcc := if cold then min (s.loft.pcc + 1) (2 ^ 32 - 1) else s.loft.pcc
  let head := s.newestEvent
  let logged := (s.newestHead.map (fun h => leAt h 0 4)).getD s.tal.lastSeq
  let seq := match head with
    | some h => if cold ∨ leAt h 4 4 ≠ pcc then 0 else (leAt h 0 4 + 1) % 2 ^ 32
    | none => 0
  let opt := max s.loft.optime (match head with | some h => leAt h 8 4 | none => 0)
  (({ s with loft := { s.loft with pcc := pcc }, tal := { s.tal with seq := seq, lastSeq := logged } }).put R.TAL_PCC.PCC pcc).put R.TAL_OPTIME.OPTIME opt

/-- The write position where a scan that has not ended would set it, behind the newest head (R487). (Log: 21 DEDUCED) -/
def State.scanPlace (s : State) : State :=
  let t := s.scanMap
  { t with tal := { t.tal with wpos := match t.newestSlot with | some k => (k + 1) % logSlots | none => 0 } }

/-- The loft and the digital die have power (R57 groups 1 and 2). -/
def State.tallyPowered (s : State) : Bool := [0, 1, 2, 3].all (bit (s.get R.PWR_STATUS.RAIL_GOOD))

/-- The tally and the operating time before power goes (R55 step 5, R485): the queue is discarded, counting its events, and the POWER_FAIL
event and the operating time are written, in SCAN and while the logic is in reset as well. (Log: 21 DEDUCED) -/
def State.failRecord (s : State) (f : Fld) (report : MediaReport) : State :=
  if !s.tallyPowered then s
  else
    let r := if s.boot.inReset then s.tallyResume false else s
    let u := (r.countBy R.TAL_CNT_DROP.DROP R.TAL_CNTOVF.OVF 2 r.tal.queue.length).setQueue []
    let p := if s.get R.TAL_STAT.STATE = 0 then u.scanPlace else u
    let v := p.writeLast (u.talEvent 0x0001 (leBytes 1 (2 ^ f.lo) ++ leBytes 3 0 ++ leBytes 4 (s.word R.SYS_RESETCAUSE.w.addr).toNat)) report.fails
    { v with loft := { v.loft with optime := v.get R.TAL_OPTIME.OPTIME } }

/-- The power-fail sequence (R55): the last records, then power-on reset asserts and the rails go off. (Log: 21 DEDUCED) -/
def State.powerFail (s : State) (f : Fld) (report : MediaReport) : State :=
  let u := (s.failRecord f report).resetLogic.railsOff.cause f
  { u with vaon := { u.vaon with coldPending := true, attempts := 0 } }

-- Supply and rails

/-- VIN_QUALIFIED (R53, R54, R57): VIN is valid, and sequencing starts unless the device is latched off or the 10 s of R59 still run. -/
def execVinQualified (s : State) : Out :=
  let t := { s with vaon := { s.vaon with vinValid := true } }.put R.PWR_STATUS.VIN_OK 1
  if s.vaon.seq = .off ∧ !s.vaon.thermalOff then .next { t with vaon := { t.vaon with seq := .group 1, attempts := 0 } } else .next t

/-- RAIL_GROUP_GOOD (R57). -/
def execRailGroupGood (s : State) : Out :=
  match s.vaon.seq with
  | .group g =>
    let t := s.each (railGroup s.part g) (fun k t => t.setBit R.PWR_STATUS.RAIL_GOOD k)
    if g < 6 then .next { t with vaon := { t.vaon with seq := .group (g + 1) } }
    else .next ({ t with vaon := { t.vaon with seq := .done } }.put R.PWR_FAULT.ATTEMPTS s.vaon.attempts)
  | _ => .next s

/-- RAIL_FAULT (R58): after three failed attempts the sequencer latches off. (Log: 263 DESIGN CHOICE) -/
def execRailFault (rail : Nat) (s : State) : Out :=
  match s.vaon.seq with
  | .group g =>
    if (railGroup s.part g).contains rail then
      let n := s.vaon.attempts + 1
      let t := (s.put R.PWR_STATUS.RAIL_GOOD 0).setBit R.PWR_FAULT.RAIL_FAIL rail
      if n < 3 then .next { t with vaon := { t.vaon with seq := .retryWait, attempts := n } }
      else .next ({ t with vaon := { t.vaon with seq := .latched, attempts := n } }.alertN 0 true)
    else .next s
  | _ => .next s

/-- RAIL_RETRY (R58): 100 ms have passed. -/
def execRailRetry (s : State) : Out :=
  if s.vaon.seq = .retryWait then .next { s with vaon := { s.vaon with seq := .group 1 } } else .next s

/-- RAIL_POWER_LOSS (R58). -/
def execRailPowerLoss (report : MediaReport) (s : State) : Out :=
  if s.vaon.seq = .done then .next (s.powerFail R.SYS_RESETCAUSE.RAILFAULT report) else .next s

/-- The power-fail sequence after VIN has left its range: the next start waits for VIN to qualify (R54). (Log: 219 DEDUCED) -/
def State.supplyFail (s : State) (f : Fld) (report : MediaReport) : State :=
  let u := s.powerFail f report
  { u with vaon := { u.vaon with vinValid := false } }

/-- UV_ACCEPTED (R55). (Log: 219 DEDUCED) -/
def execUvAccepted (report : MediaReport) (s : State) : Out :=
  .next ((s.supplyFail R.SYS_RESETCAUSE.BROWNOUT report).put R.PWR_STATUS.VIN_OK 0)

/-- OV_ACCEPTED (R55). (Log: 219 DEDUCED) -/
def execOvAccepted (report : MediaReport) (s : State) : Out := .next (s.supplyFail R.SYS_RESETCAUSE.OVERVOLT report)

/-- POWER_ON_RESET (R60): VIN has fallen below the POR threshold, or power is first applied; below about 3.3 V, VAON is lost too. The
latches of R58 and R59 clear. -/
def execPowerOnReset (vaonLost : Bool) (s : State) : Out :=
  let t := (s.resetLogic.put R.PWR_STATUS.RAIL_GOOD 0).put R.PWR_STATUS.VIN_OK 0
  let u : State := { t with boot := {}, cnv := {} }
  if vaonLost then
    .next ({ u with vaon := { seq := .off, vinValid := false, resetN := s.vaon.resetN } }.setWord R.SYS_RESETCAUSE.w.addr 1 |>.setWord R.PWR_FAULT.w.addr 0)
  else
    .next ({ u with vaon := { u.vaon with
      seq := .off, attempts := 0, vinValid := false, thermalOff := false, thermalRestart := false, coldPending := true } }.cause R.SYS_RESETCAUSE.POR)

/-- THERMAL_TRIP (R59). `within` says that the trip comes within 60 s of a restart that followed a thermal trip. (Log: 20 DEDUCED, 219 DEDUCED) -/
def execThermalTrip (within : Bool) (report : MediaReport) (s : State) : Out :=
  let t := s.powerFail R.SYS_RESETCAUSE.THERMAL report
  if s.vaon.seq = .latched then .next t
  else if within && s.vaon.thermalRestart then .next { t with vaon := { t.vaon with seq := .latched, thermalRestart := false } }
  else .next { t with vaon := { t.vaon with thermalOff := true, thermalRestart := false } }

/-- THERMAL_RESTART (R59): 10 s off have passed; the cold start waits for VIN where it has not qualified since (R54). -/
def execThermalRestart (s : State) : Out :=
  if s.vaon.thermalOff then
    .next { s with vaon := { s.vaon with
      thermalOff := false, thermalRestart := true, seq := if s.vaon.vinValid then .group 1 else .off, attempts := 0 } }
  else .next s

/-- A level of RESET_N that has held for a time in ns passes its filter: from 1,300 ns it does, below 700 ns it does not, and between the
two it may (R42). (Log: 228 DESIGN CHOICE) -/
def State.resetFilter (s : State) (held : Nat) : Bool := decide (1300 ≤ held) || (decide (700 ≤ held) && Config.resetBand s.free)

/-- RESET_N_ASSERT (R42, R61): RESET_N has been low for a time in ns. While another reset holds the logic, its level alone is noted. (Log: 228 DESIGN CHOICE, 229 DESIGN CHOICE) -/
def execResetNAssert (s : State) (held : Nat := 1300) : Out :=
  if !s.resetFilter held then .next s.fresh
  else
    let t : State := { s.fresh with vaon := { s.vaon with resetN := false } }
    if s.boot.inReset then .next t else .next (t.warmReset R.SYS_RESETCAUSE.PIN)

/-- A write that sets SYS_RESETCTL.SOFT (R63). -/
def State.softWrite (s : State) (key : Nat) : State :=
  if key = 0xA5 ∧ (s.run = runEmpty ∨ s.run = runReady ∨ s.run = runFaulted) then s.warmReset R.SYS_RESETCAUSE.SOFT
  else s.put R.SYS_RESETCTL.REFUSED 1

/-- SOFT_RESET (R63). -/
def execSoftReset (key : Byte) (s : State) : Out := if s.boot.inReset then .next s else .next (s.softWrite key.toNat)

/-- RESET_RELEASE (R42, R64, R73, R481): RESET_N has been high for a time in ns; the reset ends where all rails are good. `sbLow` says that
SB_CS_N is held low with no SB_SCK edge. NEXT takes LIMIT, which exhausts the indices where it is 2^25 (R472, R476). (Log: 10 DEDUCED, 202 DEDUCED, 207 DEDUCED, 228 DESIGN CHOICE) -/
def execResetRelease (sbLow : Bool) (s : State) (held : Nat := 1300) : Out :=
  if !s.resetFilter held then .next s.fresh
  else
    let s : State := { s.fresh with vaon := { s.vaon with resetN := true } }
    if !s.boot.inReset ∨ s.vaon.seq ≠ .done then .next s
    else
      let policy := (s.lock.map (·.policy)).getD 3
      let t := s.tallyResume s.vaon.coldPending
      let u : State := { t with
        boot := { t.boot with inReset := false, sbRecovery := sbLow && bit policy 0 }
        vaon := { t.vaon with coldPending := false, recordPending := false } }
      let v := (u.put R.SEC_SIGIDX.NEXT s.loft.sigLimit).put R.SYS_BOOTSTAT.STAGE 1
      let w := if s.vaon.recordPending then v.tally 0x0002 (leBytes 4 (v.word R.SYS_RESETCAUSE.w.addr).toNat) else v
      let x := if w.part.fuseFault then w.tally 0x0004 [] else w
      .next (if s.loft.sigLimit = 2 ^ 25 then x.security 7 0 1 else x)

-- Watchdog (R62)

/-- WATCHDOG (R62): the management firmware restarts; the link holds M-plane messages meanwhile. -/
def execWatchdog (s : State) : Out :=
  if s.boot.inReset ∨ s.boot.image = none then .next s
  else .next ({ (s.cause R.SYS_RESETCAUSE.WDOG) with boot := { s.boot with restarting := true } }.tally 0x0003 [])

/-- Bytes of a firmware slot. -/
def State.slotBytes (s : State) (b : Bool) : List Byte := if b then s.loft.slotB else s.loft.slotA

/-- An image starts to run from a place (SLOT). -/
def State.runImage (s : State) (b : List Byte) (slot : Nat) (trial : Bool) : State :=
  (({ s with boot := { s.boot with image := some (imageOf b) } }.put R.SYS_BOOTSTAT.SLOT slot).putFlag R.SYS_BOOTSTAT.TRIAL trial).put
    R.SEC_FWVER.VERSION (leAt b 8 4)

/-- Where the firmware area of the general partition begins: the boot ROM copies the verified slot there and runs it, and stages a recovery
image there (R391). (Log: 217 DEDUCED) -/
def recoveryBase : Nat := 0x5E00000

/-- A verified slot is copied to the firmware area and starts to run (R391). (Log: 217 DEDUCED) -/
def State.runSlot (s : State) (b : List Byte) (slot : Nat) (trial : Bool) : State :=
  (s.setGran recoveryBase (b.take 0x100000)).runImage b slot trial

/-- FIRMWARE_RESTART_DONE (R62): the active slot, verified again, runs, and the held messages come next, in order. (Log: 16 DESIGN CHOICE, 209 DEDUCED) -/
def execFirmwareRestartDone (s : State) : Out :=
  if !s.boot.restarting then .next s
  else
    let t : State := { s with boot := { s.boot with restarting := false, heldMsgs := [] }, pending := s.boot.heldMsgs ++ s.pending }
    let b := s.slotBytes s.loft.bootA.active
    if s.imageFail b 1 (imgLen b) = none then .next (t.runSlot b (if s.loft.bootA.active then 1 else 0) false) else .next t

-- Boot (R64, R66, R70 to R73)

/-- Recovery waits for the sideband: STAGE 7 and ALERT_N. -/
def State.recoveryWait (s : State) : State := { s with boot := { s.boot with recovering := false } }.put R.SYS_BOOTSTAT.STAGE 7 |>.alertN 4 true

/-- REFCLK_PRESENT (R63, R64, R66, R70, R73, R543): the tick clock runs, `ms` milliseconds after reset release, the monitor ADC starts, and
slot selection begins, or the recovery that the sideband forces. The boot control word is read from copy A, or from copy B where `badA` says
that copy A cannot be read (R397). The loft write that clears the pending slot passes. (Log: 18 DESIGN CHOICE, 23 DEDUCED, 210 DEDUCED, 231 DESIGN CHOICE, 232 DESIGN CHOICE, 233 DESIGN CHOICE) -/
def execRefclkPresent (s : State) (ms : Nat := 0) (badA : Bool := false) : Out :=
  if s.get R.SYS_BOOTSTAT.STAGE ≠ 1 then .next s
  else
    let t := { s with tim := { s.tim with running := true }, boot := { s.boot with refclkMs := ms } }.alertN 1 false |>.monPower
    if s.boot.sbRecovery then .next t.recoveryWait
    else
      let w := if badA then s.loft.bootB else s.loft.bootA
      let order := match w.pending with
        | some p => [(p, true), (w.active, false)]
        | none => [(w.active, false), (!w.active, false)]
      .next ({ t with
        loft := { t.loft with bootA := { w with pending := none }, bootB := { w with pending := none } }
        boot := { t.boot with attempt := order } }.put R.SYS_BOOTSTAT.STAGE 2)

/-- REFCLK_LATE (R66). -/
def execRefclkLate (s : State) : Out :=
  if s.get R.SYS_BOOTSTAT.STAGE = 1 then .next ((s.put R.SYS_BOOTSTAT.REFCLK_LATE 1).alertN 1 true) else .next s

/-- SLOT_VERIFY_DONE (R70): the slot runs, or is marked bad and the next slot, or recovery, follows. `corrected` words of it had a corrected
error, and `bad` says that one cannot be read, which fails the check with INTERNAL (R397). (Log: 18 DESIGN CHOICE) -/
def execSlotVerifyDone (s : State) (corrected : Nat := 0) (bad : Bool := false) : Out :=
  if s.get R.SYS_BOOTSTAT.STAGE ≠ 2 then .next s
  else match s.boot.attempt with
    | [] => .next s
    | (slot, trial) :: r =>
      let s := s.loftFixed corrected
      let b := s.slotBytes slot
      let n := if slot then 1 else 0
      match if bad then some rcInternal else s.imageFail b 1 (imgLen b) with
      | none => .next (({ s with boot := { s.boot with attempt := [] } }.runSlot b n trial).put R.SYS_BOOTSTAT.STAGE 3)
      | some reason =>
        let t := ({ s with boot := { s.boot with attempt := r, recovering := r.isEmpty } }.put
          (if slot then R.SYS_BOOTSTAT.SLOT_B_BAD else R.SYS_BOOTSTAT.SLOT_A_BAD) 1).tally 0x0005 (leBytes 1 n ++ leBytes 1 reason)
        .next t

/-- A recovery image passes R455 and runs from the granary with a SLOT; start-up goes on from step 7 with STAGE 8, and ALERT_N, which the
wait of R71 held low, is released. (Log: 17 DEDUCED, 230 DESIGN CHOICE) -/
def State.recoveryRun (s : State) (b : List Byte) (slot : Nat) : State :=
  (({ s with boot := { s.boot with recovering := false } }.runImage b slot false).put R.SYS_BOOTSTAT.STAGE 8).alertN 4 false

/-- RECOVERY_IMAGE_LOADED (R71): `image` is what the flash answered, at most 1 MiB. (Log: 217 DEDUCED) -/
def execRecoveryImageLoaded (image : List Byte) (s : State) : Out :=
  if !s.boot.recovering then .next s
  else
    let b := image.take 0x100000
    let t := s.setGran recoveryBase b
    if s.imageFail b 1 (imgLen b) = none then .next (t.recoveryRun b 2) else .next t.recoveryWait

/-- A copy of the command key record as its decryption under the device wrapping key finds it (R450); the spec names no associated data.
Where the copy is not valid, the key it holds is a free value. (Log: 195 DEDUCED) -/
def State.openKey (s : State) (c : KeyCopy) (bad : Bool) : KeyCopy :=
  match if bad then none else gcmOpen s.part.wrapKey c.iv [] c.cipher c.tag with
  | some k => { c with good := true, key := k }
  | none => { c with good := false, key := (List.range 32).map (fun i => BitVec.ofNat 8 (Config.pick (s.free + i))) }

/-- What the loft's checks find of the structures in two copies: the lock block (R459), the command key (R450) and LAST (R464). `badCopies`
names copies that cannot be read: 0 and 1 of the key record, 2 and 3 of LAST. Where neither copy of LAST can be, the spec gives it no
value. (Log: 195 DEDUCED, 223 DESIGN CHOICE) -/
def State.checkCopies (s : State) (badA badB : Bool) (badCopies : List Nat) : State :=
  let l := s.loft
  let a : CtrCopy := { l.ctrA with good := !badCopies.contains 2 && l.ctrA.good }
  let b : CtrCopy := { l.ctrB with good := !badCopies.contains 3 && l.ctrB.good }
  { s with loft := { l with
      lockA := { l.lockA with good := !badA && l.lockA.valid }
      lockB := { l.lockB with good := !badB && l.lockB.valid }
      keyA := s.openKey l.keyA (badCopies.contains 0)
      keyB := s.openKey l.keyB (badCopies.contains 1)
      ctrA := a
      ctrB := b
      lastCtr := if ctrInB a b then b.last else if a.good then a.last else Config.pick s.free % 2 ^ 64 } }

/-- LOFT_CHECKS_DONE (R67, R332, R459, R477): `badA` and `badB` say that a copy of the lock block has an uncorrectable word, `badCopies`
names other such copies, and `corrected` counts the words read with a corrected error (R397). DRAM training follows. (Log: 207 DEDUCED) -/
def execLoftChecksDone (badA badB : Bool) (s : State) (corrected : Nat := 0) (badCopies : List Nat := []) : Out :=
  if s.get R.SYS_BOOTSTAT.STAGE ≠ 3 ∧ s.get R.SYS_BOOTSTAT.STAGE ≠ 8 then .next s
  else
    let s := (s.loftFixed corrected).checkCopies badA badB badCopies
    let a := s.loft.readable && s.loft.lockA.good
    let b := s.loft.readable && s.loft.lockB.good
    let t := s.secShow.put R.SEC_CTR_HI.LAST (s.loft.lastCtr / 2 ^ 32)
    let u := match a, b with
      | true, true => t
      | true, false => (t.tally 0x0006 (leBytes 1 2)).security 0x08 0 1
      | false, true => (t.tally 0x0006 (leBytes 1 1)).security 0x08 0 1
      | false, false => (((t.tally 0x0006 (leBytes 1 3)).put R.SYS_BOOTSTAT.LOCK_BAD 1).put R.CNV_BSTAT.NOLOCK 1).alertN 2 true
    .next ((u.allBiasSafe.put R.SYS_BOOTSTAT.STAGE 4).put R.MEM_DSTAT.STATE 1)

-- Sideband (R74)

/-- SB_STATUS. (Log: 211 DEDUCED) -/
def execSbStatus (s : State) : Out :=
  .next (s.sbReturn (leBytes 4 (s.word R.SYS_BOOTSTAT.w.addr).toNat ++ leBytes 4 (s.word R.SYS_RESETCAUSE.w.addr).toNat))

/-- SB_LOAD: 256 bytes to the recovery staging area, in STAGE 7 only. (Log: 217 DEDUCED) -/
def execSbLoad (offset : BitVec 24) (data : List Byte) (s : State) : Out :=
  if s.get R.SYS_BOOTSTAT.STAGE = 7 ∧ offset.toNat % 256 = 0 ∧ offset.toNat < 0x100000 then
    .next (s.setGran (recoveryBase + offset.toNat) (pad 256 data))
  else .next s

/-- SB_BOOT: verifies the staged image and runs it, in STAGE 7 only. An image that holds a poisoned word cannot be read (R392). -/
def execSbBoot (length : BitVec 32) (s : State) : Out :=
  if s.get R.SYS_BOOTSTAT.STAGE ≠ 7 then .next s
  else
    let b := s.granBytes recoveryBase (min length.toNat 0x100000)
    if !s.granPoisoned recoveryBase b.length && s.imageFail b 1 length.toNat = none then .next (s.recoveryRun b 3) else .next s

/-- SB_RESET: the two bytes must be 0x5A and 0xA5. (Log: 24 DEDUCED) -/
def execSbReset (first second : Byte) (s : State) : Out :=
  if first = 0x5A ∧ second = 0xA5 ∧ !s.boot.inReset then .next (s.warmReset R.SYS_RESETCAUSE.SIDEBAND) else .next s

-- Test access port (R449)

/-- BYPASS: the one-bit register captures 0, and TDI passes through it. -/
def execJtagBypass (tdi : List Bool) (s : State) : Out :=
  .next { s with jtag := { s.jtag with ir := 0, driven := [], tdo := (false :: tdi).take tdi.length, bypass := tdi.getLast?.getD false } }

/-- Capture the pins into the scan register and shift TDI in. (Log: 218 DESIGN CHOICE) -/
def Jtag.scan (j : Jtag) (pins tdi : List Bool) : Jtag :=
  { j with tdo := (pins ++ tdi).take tdi.length, cells := (pins ++ tdi).drop tdi.length }

/-- SAMPLE/PRELOAD: the pins are captured and shifted out while the scan register is loaded; no pin is driven from it. (Log: 218 DESIGN CHOICE) -/
def execJtagSamplePreload (pins tdi : List Bool) (s : State) : Out :=
  .next { s with jtag := { (s.jtag.scan pins tdi) with ir := 1, driven := [] } }

/-- EXTEST: the output pins are driven from the register as last loaded; then the pins are captured, TDI is shifted in, and the
outputs follow the new content. (Log: 218 DESIGN CHOICE) -/
def execJtagExtest (pins tdi : List Bool) (s : State) : Out :=
  let j := s.jtag.scan pins tdi
  .next { s with jtag := { j with ir := 2, driven := if tdi = [] then s.jtag.cells else j.cells, cells := if tdi = [] then s.jtag.cells else j.cells } }

end Sys2Proof.Machine
end

