-- ==== Sys2Proof/Machine/Tiles.lean ====
section
/-! DEFINITION. Processing tiles (13_processing_tiles.md): bundles and their latencies, the vector, accumulator, search, scalar and
address operations, streams, kernel starts and checks, breaches and tile faults. -/

namespace Sys2Proof.Machine

def State.tile (s : State) (t : Nat) : Tile := sparseGet {} s.tiles t
def State.setTile (s : State) (t : Nat) (x : Tile) : State := { s with tiles := sparseSet {} s.tiles t x }

/-- TIL_TSTAT.STATE. -/
def tiOff : Nat := 0
def tiIdle : Nat := 1
def tiRunning : Nat := 2
def tiHalted : Nat := 3
def tiSuspended : Nat := 4
def tiFailed : Nat := 5

-- TILEIMG (R382, R383)

/-- The image descriptor of a tile. -/
def State.tileImage (s : State) (t : Nat) : Option (List Byte) :=
  let b := s.sect 4
  ((List.range (leAt b 0 2)).map (fun i => (b.drop (16 + 8 * i)).take 8)).find? (fun d => leAt d 0 1 == t)

/-- PROT_LEN of a tile (R367). -/
def State.protLen (s : State) (t : Nat) : Nat := ((s.tileImage t).map (fun d => leAt d 2 1 * 4096)).getD 0

/-- The 64-byte entry of a kernel. -/
def State.kernelEntry (s : State) (k : Nat) : List Byte := ((s.sect 4).drop (leAt (s.sect 4) 4 4 + 64 * k)).take 64

def localBytes : Nat := 0x20000

/-- KMAX of a kernel's K register (R383). -/
def State.kMax (s : State) (k r : Nat) : Nat := leAt (s.kernelEntry k) (16 + 2 * r) 2

/-- The kernels of the applied sheaf are bound; without one, the firmware's self-test uses the tiles (R373). -/
def State.bound (s : State) : Bool := s.shf.applied.isSome

/-- Drop what a range of the granary holds: it reads as 0. -/
def State.clearGran (s : State) (lo hi : Nat) : State :=
  { s with mem := { s.mem with gran := s.mem.gran.filter (fun c => decide (c.1 < lo ∨ hi ≤ c.1)),
                               poison := s.mem.poison.filter (fun w => decide (w < lo ∨ hi ≤ w)) } }

/-- The working region of a tile becomes zero (R367). -/
def State.zeroWorking (s : State) (t : Nat) : State := s.clearGran (t * localBytes + s.protLen t) ((t + 1) * localBytes)

/-- Load a tile's image. -/
def State.loadImage (s : State) (t : Nat) : State :=
  match s.tileImage t with
  | none => s
  | some d => (s.clearGran (t * localBytes) ((t + 1) * localBytes)).setGran (t * localBytes)
      (((s.sect 4).drop (leAt d 4 4)).take (leAt d 2 1 * 4096))

/-- A tile with its registers cleared and its search unit and queues empty (R368, R387); the sticky flags stay. -/
def Tile.fresh (x : Tile) (st : Nat) : Tile :=
  { st := st, ovf := x.ovf, winfault := x.winfault, protfault := x.protfault, eccu := x.eccu, kernel := x.kernel, cycles := x.cycles,
    failed := x.failed, startSub := x.startSub, c0 := x.c0, kovf := x.kovf }

/-- What apply sets (R382, R388, R389). -/
def State.tilApply (s : State) : State :=
  let b := s.sect 4
  let t := (s.put ⟨R.TIL_CFG.w.addr, 8, 0⟩ (leAt b 0 2)).put ⟨R.TIL_CFG.w.addr, 28, 16⟩ (s.hdr 44 2)
  let used := (List.range 256).filter (fun k => (s.tileImage k).isSome)
  let u := t.each (List.range 8) (fun w t =>
    (t.setWord (R.TIL_TUSED0.w.addr + 4 * w) (BitVec.ofNat 32 ((used.filter (fun k => k / 32 == w)).foldl (fun m k => m + 2 ^ (k % 32)) 0))).setWord
      (R.TIL_TFAIL0.w.addr + 4 * w) 0)
  u.each (List.range 256) (fun k t =>
    if used.contains k then (t.setTile k { (t.tile k).fresh tiIdle with failed := false }).loadImage k
    else t.setTile k { (t.tile k).fresh tiOff with failed := false })

/-- START: local memory re-initialised from the images (R136, R367). -/
def State.tilStart (s : State) : State :=
  s.each ((List.range 256).filter (fun k => (s.tileImage k).isSome)) (fun k t => t.loadImage k)

-- Registers and their latencies (R368, R370)

/-- A vector of zeros. -/
def zeroVec : List (Int × Int) := List.replicate 16 (0, 0)

def Tile.vec (x : Tile) (r : Nat) : List (Int × Int) := sparseGet zeroVec x.v r
def Tile.accLive (x : Tile) (r : Nat) : List (Int × Int) := sparseGet zeroVec x.acc r
def Tile.accRead (x : Tile) (r : Nat) : List (Int × Int) := sparseGet zeroVec x.accv r
def Tile.sReg (x : Tile) (r : Nat) : Nat := sparseGet 0 x.s r
def Tile.setS (x : Tile) (r : Nat) (w : Nat) : Tile := { x with s := sparseSet 0 x.s r (w % 2 ^ 32) }

/-- A write that has become readable. -/
def Tile.land (x : Tile) (w : TWrite) : Tile :=
  match w with
  | .v r y => { x with v := sparseSet zeroVec x.v r y }
  | .accv r y => { x with accv := sparseSet zeroVec x.accv r y }
  | .s r y => x.setS r y

/-- Put a write behind those that become readable no later. -/
def landAfter (p : Nat × TWrite) : List (Nat × TWrite) → List (Nat × TWrite)
  | [] => [p]
  | q :: l => if p.1 < q.1 then p :: q :: l else q :: landAfter p l

/-- Writes in the order in which they become readable, those of one cycle in order of issue. -/
def landing (l : List (Nat × TWrite)) : List (Nat × TWrite) := l.foldl (fun m p => landAfter p m) []

/-- Make readable what is due in the present cycle. -/
def Tile.due (x : Tile) : Tile :=
  let y := (landing (x.pend.filter (fun p => decide (p.1 ≤ x.cyc)))).foldl (fun y p => y.land p.2) x
  { y with pend := x.pend.filter (fun p => decide (x.cyc < p.1)) }

/-- A result readable after a latency. -/
def Tile.later (x : Tile) (lat : Nat) (w : TWrite) : Tile := { x with pend := x.pend ++ [(x.cyc + lat, w)] }

/-- A vector result, readable after 4 cycles. -/
def Tile.setV (x : Tile) (r : Nat) (y : List (Int × Int)) : Tile := x.later 4 (.v r y)

/-- A scalar source. -/
def Tile.src (x : Tile) : SSrc → Nat
  | .imm w => w.toNat
  | .s r => x.sReg r.toNat
  | .k r => sparseGet 0 x.k r.toNat

-- Addresses (R375)

/-- `n` bits in reverse order. -/
def revBits (n x : Nat) : Nat := (List.range n).foldl (fun m i => if bit x i then m + 2 ^ (n - 1 - i) else m) 0

/-- Bits of a count below a power of two. -/
def log2Up (x : Nat) : Nat := bitSearch (fun n => decide (2 ^ n < x)) 5 0 + (if 1 < x then 1 else 0)

/-- The updated address register of an access (R375). BREV with a length that is no power of two has no stated result. (Log: 142 DESIGN CHOICE) -/
def Tile.postMod (x : Tile) (a : TAddr) : Nat :=
  let ad := sparseGet 0 x.ad a.ad.toNat
  let of_ := sparseGet 0 x.of_ a.off.toNat
  let cb := sparseGet 0 x.cb a.ad.toNat
  let cl := sparseGet 0 x.cl a.ad.toNat
  let lin := ((ad + of_) % 2 ^ 17).toNat
  match a.mode with
  | .none => ad
  | .lin => lin
  | .circ => if cl = 0 then lin else ((cb + ((ad : Int) - cb + of_) % cl) % 2 ^ 17).toNat
  | .brev =>
    if cl = 0 then lin
    else
      let n := log2Up cl
      let y := (revBits n (((ad : Int) - cb) % cl).toNat + revBits n (of_ % cl).toNat) % 2 ^ n
      if cl = 2 ^ n then (cb + revBits n y) % 2 ^ 17 else Config.tileFree 3 [ad, of_, cb, cl] % 2 ^ 17

/-- The address an access uses: low bits below its alignment are ignored. -/
def Tile.access (x : Tile) (a : TAddr) (align : Nat) : Nat := sparseGet 0 x.ad a.ad.toNat / align * align

/-- The post-modification of an access; `pre` is the tile before the bundle, and mode NONE updates nothing. -/
def Tile.advance (x pre : Tile) (a : TAddr) : Tile :=
  match a.mode with
  | .none => x
  | _ => { x with ad := sparseSet 0 x.ad a.ad.toNat (pre.postMod a) }

-- Local memory (R366, R367)

/-- Bytes of a tile's local memory, in 64-byte or shorter pieces that wrap at its end. -/
def State.localRead (s : State) (t a n : Nat) : List Byte :=
  if n ≤ 64 then s.granBytes (t * localBytes + a % localBytes) n
  else ((List.range (n / 64)).map (fun i => s.granBytes (t * localBytes + (a + 64 * i) % localBytes) 64)).flatten

/-- The bytes meet an uncorrectable word. -/
def State.localBad (s : State) (t a n : Nat) : Bool :=
  if n ≤ 64 then s.granPoisoned (t * localBytes + a % localBytes) n
  else (List.range (n / 64)).any (fun i => s.granPoisoned (t * localBytes + (a + 64 * i) % localBytes) 64)

/-- The bytes meet an uncorrectable word of the protected region. -/
def State.protBad (s : State) (t a n : Nat) : Bool :=
  s.mem.poison.any (fun w => decide (t * localBytes + a < w + 8 ∧ w < t * localBytes + a + n ∧ w < t * localBytes + s.protLen t))

/-- A store of `n` bytes meets the protected region, past the end of local memory too, where addresses wrap (R367). -/
def State.storeBarred (s : State) (t a n : Nat) : Bool :=
  decide (a % localBytes < s.protLen t) || (decide (localBytes < a % localBytes + n) && decide (0 < s.protLen t))

def State.localWrite (s : State) (t a : Nat) (b : List Byte) : State :=
  if b.length ≤ 64 then s.setGran (t * localBytes + a % localBytes) b
  else (List.range (b.length / 64)).foldl (fun s i => s.setGran (t * localBytes + (a + 64 * i) % localBytes) ((b.drop (64 * i)).take 64)) s

/-- 16 lanes of 16+16 bits, I then Q, lane 0 first. (Log: 139 DEDUCED) -/
def vecOf (b : List Byte) : List (Int × Int) := (List.range 16).map (fun l => (signed 16 (leAt b (4 * l) 2), signed 16 (leAt b (4 * l + 2) 2)))
/-- (Log: 139 DEDUCED) -/
def vecBytes (v : List (Int × Int)) : List Byte :=
  ((List.range 16).map (fun l => leBytes 2 (unsigned 16 (cAt v l).1) ++ leBytes 2 (unsigned 16 (cAt v l).2))).flatten

/-- 16 lanes of two 64-bit components. (Log: 139 DEDUCED) -/
def accOf (b : List Byte) : List (Int × Int) := (List.range 16).map (fun l => (signed 64 (leAt b (16 * l) 8), signed 64 (leAt b (16 * l + 8) 8)))
/-- (Log: 139 DEDUCED) -/
def accBytes (v : List (Int × Int)) : List Byte :=
  ((List.range 16).map (fun l => leBytes 8 (unsigned 64 (cAt v l).1) ++ leBytes 8 (unsigned 64 (cAt v l).2))).flatten

-- Operations

/-- Apply an operation to both components of each lane. -/
def eachComp (f : Int → Int) (v : List (Int × Int)) : List (Int × Int) := v.map (fun c => (f c.1, f c.2))
def eachComp2 (f : Int → Int → Int) (v w : List (Int × Int)) : List (Int × Int) := (v.zip w).map (fun c => (f c.1.1 c.2.1, f c.1.2 c.2.2))

/-- A 40-bit accumulator component: clamped, or in WRAP mode modulo 2^40 (R372). -/
def accLimit (wrap : Bool) (v : Int) : Int := if wrap then signed 40 (unsigned 40 v) else sat 40 v

/-- Write an accumulator: CMAC and ACCADD read it in the next cycle, ACCRD and ACCST after 6. An overflow sets OVF and counts. -/
def Tile.setAcc (x : Tile) (r : Nat) (wrap : Bool) (v : List (Int × Int)) : Tile :=
  let w := eachComp (accLimit wrap) v
  let o := v.any (fun c => decide (sat 40 c.1 ≠ c.1 ∨ sat 40 c.2 ≠ c.2))
  { x.later 6 (.accv r w) with acc := sparseSet zeroVec x.acc r w, ovf := x.ovf || o, kovf := x.kovf + (if o then 1 else 0) }

/-- The product of CMAC in one lane (R371). -/
def macProduct (conj : Bool) (a b : Int × Int) : Int × Int := cmul a (if conj then cconj b else b)

/-- A key of the search unit (R379). -/
def searchKey (key : Nat) (c : Int × Int) : Int :=
  match key with
  | 0 => c.1
  | 1 => c.2
  | 2 => (max c.1.natAbs c.2.natAbs : Nat)
  | _ => (cnorm c : Nat)

/-- One SMAX or SMIN: each lane keeps a strictly better key with index 16 i + l; a stored `none` is the least favourable value. -/
def Tile.search (x : Tile) (mx : Bool) (key : Nat) (v : List (Int × Int)) : Tile :=
  let worst : Int := match mx, key with
    | true, 0 => -32768
    | true, 1 => -32768
    | true, _ => 0
    | false, 0 => 32767
    | false, 1 => 32767
    | false, 2 => 32768
    | false, _ => 2 ^ 31
  let l := (List.range 16).map (fun i =>
    let k := searchKey key (cAt v i)
    let old := ((x.keys.drop i).head?.getD none).getD worst
    if (if mx then old < k else k < old) then (some k, 16 * x.issue + i) else (some old, (x.idxs.drop i).head?.getD 0))
  { x with keys := l.map (·.1), idxs := l.map (·.2), issue := (x.issue + 1) % 2 ^ 28 }

/-- The best key over the lanes and the lowest index that has it. Between SCLR and the first SMAX or SMIN the keys are the least favourable
of a KEY that none has named: a free value. (Log: 142 DESIGN CHOICE) -/
def Tile.best (x : Tile) : Int × Nat :=
  let l := (x.keys.zip x.idxs).filterMap (fun p => p.1.map (fun k => (k, p.2)))
  match l with
  | [] => (Config.tileFree 4 [if x.searchMax then 1 else 0], 0)
  | h :: r => r.foldl (fun b p =>
      if (if x.searchMax then b.1 < p.1 else p.1 < b.1) then p else if p.1 = b.1 ∧ p.2 < b.2 then p else b) h

/-- Number of leading bits equal to the sign bit. -/
def leadingSign (w : Nat) : Nat :=
  let sgn := bit w 31
  32 - bitSearch (fun n => (List.range 32).any (fun i => decide (n ≤ i + 1) && bit w i != sgn)) 6 0

/-- A signed 32-bit reading. -/
def s32 (w : Nat) : Int := signed 32 w

/-- A condition of SCSEL. -/
def SCond.holds (c : SCond) (a b : Nat) : Bool :=
  match c with
  | .eq => a == b
  | .ne => a != b
  | .lt => decide (s32 a < s32 b)
  | .ge => decide (s32 b ≤ s32 a)

/-- Set an address-generation register. -/
def Tile.setAReg (x : Tile) (r : AReg) (w : Int) : Tile :=
  match r with
  | .ad i => { x with ad := sparseSet 0 x.ad i.toNat (w % 2 ^ 17).toNat }
  | .off i => { x with of_ := sparseSet 0 x.of_ i.toNat (signed 18 (w % 2 ^ 18).toNat) }
  | .cb i => { x with cb := sparseSet 0 x.cb i.toNat (w % 2 ^ 17).toNat }
  | .cl i => { x with cl := sparseSet 0 x.cl i.toNat (w % 2 ^ 18).toNat }

def Tile.aReg (x : Tile) (r : AReg) : Int :=
  match r with
  | .ad i => ((sparseGet 0 x.ad i.toNat : Nat) : Int)
  | .off i => sparseGet 0 x.of_ i.toNat
  | .cb i => ((sparseGet 0 x.cb i.toNat : Nat) : Int)
  | .cl i => ((sparseGet 0 x.cl i.toNat : Nat) : Int)

/-- What the compute, control or scalar operation of a bundle does to the registers. `la` and `lb` are the bundle's own loads. An operation of a load or store slot, or of the sequencer or stream unit, does nothing here. (Log: 140 DEDUCED, 141 DEDUCED, 142 DESIGN CHOICE) -/
def Tile.compute (x : Tile) (la lb : List (Int × Int)) (op : TOp) : Tile :=
  let vs : VSrc → List (Int × Int) := fun y => match y with
    | .v r => x.vec r.toNat
    | .loadA => la
    | .loadB => lb
  match op with
  | .cmac a p q clr neg conj wrap =>
    let old := if clr then zeroVec else x.accLive a.toNat
    x.setAcc a.toNat wrap (eachComp2 (fun o y => if neg then o - y else o + y) old (((vs p).zip (vs q)).map (fun z => macProduct conj z.1 z.2)))
  | .accadd a b neg wrap => x.setAcc a.toNat wrap (eachComp2 (fun o y => if neg then o - y else o + y) (x.accLive a.toNat) (x.accLive b.toNat))
  | .accrd d a sh w16 =>
    let n := x.src sh
    if n ≤ 31 then x.setV d.toNat (eachComp (fun v => sat (if w16 then 16 else 14) (shiftUp n v)) (x.accRead a.toNat))
    else
      let fr (v : Int × Int) (i : Nat) : Int := signed 16 (Config.tileFree 0 [n, v.1, v.2, i, if w16 then 16 else 14])
      x.setV d.toNat ((x.accRead a.toNat).map (fun v => (fr v 0, fr v 1)))
  | .vadd d p q => x.setV d.toNat (eachComp2 (fun a b => sat 16 (a + b)) (vs p) (vs q))
  | .vsub d p q => x.setV d.toNat (eachComp2 (fun a b => sat 16 (a - b)) (vs p) (vs q))
  | .vneg d p => x.setV d.toNat (eachComp (fun a => sat 16 (-a)) (vs p))
  | .vconj d p => x.setV d.toNat ((vs p).map (fun c => (c.1, sat 16 (-c.2))))
  | .vshr d p sh => x.setV d.toNat (eachComp (shiftUp (min (x.src sh) 64)) (vs p))
  | .vshl d p sh => x.setV d.toNat (eachComp (fun a => sat 16 (a * 2 ^ min (x.src sh) 64)) (vs p))
  | .vsel d p q m => x.setV d.toNat ((List.range 16).map (fun l => if bit (x.sReg m.toNat) l then cAt (vs p) l else cAt (vs q) l))
  | .vshuf d p i => x.setV d.toNat ((List.range 16).map (fun l => cAt (vs p) ((cAt (vs i) l).1 % 16).toNat))
  | .vmov d p => x.setV d.toNat (vs p)
  | .bfly d e p q w sc =>
    let n := 15 + (if sc then 1 else 0)
    let bw := ((vs q).zip (vs w)).map (fun z => cmul z.1 z.2)
    (x.setV d.toNat (eachComp2 (fun a b => sat 16 (shiftUp n (a * 2 ^ 15 + b))) (vs p) bw)).setV e.toNat
      (eachComp2 (fun a b => sat 16 (shiftUp n (a * 2 ^ 15 - b))) (vs p) bw)
  | .sclr mx => { x with searchMax := mx, keys := List.replicate 16 none, idxs := List.replicate 16 0, issue := 0 }
  | .smax p key => x.search true key.toNat (vs p)
  | .smin p key => x.search false key.toNat (vs p)
  | .sred k i => (x.later 4 (.s k.toNat (unsigned 32 x.best.1))).later 4 (.s i.toNat x.best.2)
  | .smov d p => x.setS d.toNat (x.src p)
  | .sadd d p q => x.setS d.toNat (x.src p + x.src q)
  | .ssub d p q => x.setS d.toNat (x.src p + 2 ^ 32 - x.src q)
  | .sand d p q => x.setS d.toNat (maskAnd (x.src p) (x.src q) 32)
  | .sor d p q => x.setS d.toNat (maskOr (x.src p) (x.src q) 32)
  | .sxor d p q => x.setS d.toNat (x.src p + x.src q - 2 * maskAnd (x.src p) (x.src q) 32)
  | .sshl d p q => x.setS d.toNat (if x.src q < 32 then x.src p * 2 ^ x.src q else Config.tileFree 1 [x.src p, x.src q])
  | .sshr d p q =>
    let n := x.src q
    let w := x.src p
    if n = 0 ∨ (n < 32 ∧ !bit w 31) then x.setS d.toNat (w / 2 ^ n)
    else if n < 32 then x.setS d.toNat (if Config.tileFree 2 [w, n] % 2 = 0 then w / 2 ^ n else unsigned 32 (s32 w / 2 ^ n))
    else x.setS d.toNat (Config.tileFree 2 [w, n])
  | .sclz d p => x.setS d.toNat (leadingSign (x.src p))
  | .scsel d c l r p q => x.setS d.toNat (if c.holds (x.src l) (x.src r) then x.src p else x.src q)
  | .amov r p => x.setAReg r (s32 (x.src p))
  | .aadd r p => x.setAReg r (x.aReg r + s32 (x.src p))
  | .ldv _ _ | .ldb _ _ | .sld _ _ | .stv _ _ | .sst _ _ | .accst _ _ | .accld _ _ _ _ | .loop _ _ | .rep _ | .done | .nop
  | .xin _ _ _ _ | .xout _ _ _ _ | .xwait => x

/-- The load of an operation: its address, length and alignment. (Log: 139 DEDUCED) -/
def TOp.load (op : TOp) : Option (TAddr × Nat × Nat) :=
  match op with
  | .ldv _ a => some (a, 64, 64)
  | .ldb _ a => some (a, 4, 4)
  | .sld _ a => some (a, 4, 4)
  | .accld _ a _ _ => some (a, 256, 64)
  | _ => none

/-- The store of an operation: its address, alignment and bytes. -/
def TOp.store (op : TOp) (x : Tile) : Option (TAddr × Nat × List Byte) :=
  match op with
  | .stv r a => some (a, 64, vecBytes (x.vec r.toNat))
  | .sst r a => some (a, 4, leBytes 4 (x.sReg r.toNat))
  | .accst r a => some (a, 64, accBytes (x.accRead r.toNat))
  | _ => none

/-- An operation of the store slot. -/
def TOp.keeps (op : TOp) : Bool := match op with | .stv _ _ | .sst _ _ | .accst _ _ => true | _ => false

/-- A load's bytes as a vector: LDB broadcasts. -/
def loadVec (b : List Byte) : List (Int × Int) := if b.length = 4 then List.replicate 16 (signed 16 (leAt b 0 2), signed 16 (leAt b 2 2)) else vecOf b

/-- What a load writes. -/
def Tile.loadTo (x : Tile) (op : TOp) (b : List Byte) : Tile :=
  match op with
  | .ldv (some r) _ => x.later 3 (.v r.toNat (loadVec b))
  | .ldb (some r) _ => x.later 3 (.v r.toNat (loadVec b))
  | .sld r _ => x.later 3 (.s r.toNat (leNat b))
  | .accld r _ sh wrap => x.setAcc r.toNat wrap (eachComp (fun v => v * 2 ^ sh.toNat) (accOf b))
  | _ => x

-- Halts (R367, R381)

/-- A fault halts the kernel. -/
def State.tileHalt (s : State) (t : Nat) (f : Tile → Tile) (ecc : Bool) : State :=
  let u := s.setTile t { f (s.tile t) with st := tiHalted, todo := [], bundle := [], code := [], need := 0, waiting := false }
  let v := if ecc then u.count R.TIL_CNT_ECCU.ECCU R.TIL_CNTOVF.OVF 1 else u
  v.count R.TIL_CNT_HALT.HALT R.TIL_CNTOVF.OVF 2

-- Streams (R380, R381, R383)

/-- The base of a window's partition. -/
def partBase (p : Nat) : Nat :=
  match p with
  | 1 => 0x2000000
  | 2 => 0x2400000
  | _ => 0x5400000

/-- Bytes of a partition that a window can name (R14). -/
def partSize (p : Nat) : Nat :=
  match p with
  | 1 => 0x400000
  | 2 => 0x1800000
  | _ => 0x800000

/-- The granary address of a transfer through a window; none when it reaches outside the window or the partition, or needs an access it lacks. -/
def State.windowAddr (s : State) (kernel w off n : Nat) (write : Bool) : Option Nat :=
  let e := s.kernelEntry kernel
  let w0 := leAt e (32 + 8 * w) 4
  let len := leAt e (36 + 8 * w) 4 * 64
  if bits w0 3 0 = 0 ∨ 3 < bits w0 3 0 ∨ !bit w0 (if write then 5 else 4) ∨ len < off + 8 * n
      ∨ partSize (bits w0 3 0) < bits w0 31 6 * 64 + off + 8 * n then none
  else some (partBase (bits w0 3 0) + bits w0 31 6 * 64 + off)

/-- Issue a stream transfer; `pre` is the tile before the bundle, whose registers it reads (R370). (Log: 143 DEDUCED, 145 DESIGN CHOICE) -/
def State.streamIssue (s : State) (t : Nat) (pre : Tile) (ad off w n : Nat) (inbound : Bool) : State :=
  let x := s.tile t
  match s.windowAddr x.kernel w (pre.sReg off / 8 * 8) n (!inbound) with
  | none => s.tileHalt t (fun x => { x with winfault := true }) false
  | some g =>
    let at_ := match x.queue.getLast? with
      | some q => max q.doneAt x.cyc
      | none => x.cyc
    s.setTile t { x with queue := x.queue ++ [⟨inbound, sparseGet 0 pre.ad ad / 8 * 8, g, n, at_ + 64 + n, 0⟩] }

/-- Words of a transfer whose access cycle has come in a cycle: one in each cycle, the last in that of its completion (R380). -/
def StreamXfer.due (q : StreamXfer) (c : Nat) : Nat := min q.words (c + q.words - q.doneAt)

/-- Bytes of a tile's local memory from an address of 17 bits on, which wraps. -/
def State.wrapRead (s : State) (t a n : Nat) : List Byte :=
  let lo := a % localBytes
  let fit := min n (localBytes - lo)
  s.granBytes (t * localBytes + lo) fit ++ s.granBytes (t * localBytes) (n - fit)

def State.wrapWrite (s : State) (t a : Nat) (b : List Byte) : State :=
  let lo := a % localBytes
  let fit := localBytes - lo
  let u := s.setGran (t * localBytes + lo) (b.take fit)
  if b.length ≤ fit then u else u.setGran (t * localBytes) (b.drop fit)

/-- An uncorrectable word among those bytes, and one of the protected region. -/
def State.wrapBad (s : State) (t a n : Nat) : Bool × Bool :=
  let lo := a % localBytes
  let fit := min n (localBytes - lo)
  (s.granPoisoned (t * localBytes + lo) fit || s.granPoisoned (t * localBytes) (n - fit), s.protBad t lo fit || s.protBad t 0 (n - fit))

/-- A stream write to shared memory: what a sounding kernel writes to the beam cache waits for the PLACE tick (R227, R383). (Log: 273 DEDUCED) -/
def State.sharedWrite (s : State) (g : Nat) (b : List Byte) : State :=
  if partBase 1 ≤ g ∧ g < partBase 2 then { s with rxc := { s.rxc with cacheHeld := s.rxc.cacheHeld ++ [(g, b)] } } else s.setGran g b

/-- The words of a queued transfer up to `n` have their access cycles (R367, R380, R381). An uncorrectable word of what it still has to move
halts the kernel and moves nothing; a word for the protected region is suppressed. (Log: 143 DEDUCED) -/
def State.moveWords (s : State) (t i : Nat) (q : StreamXfer) (n : Nat) : State :=
  let lo := q.local_ + 8 * q.moved
  let g := q.shared + 8 * q.moved
  let rest := 8 * (q.words - q.moved)
  let bad := s.wrapBad t lo rest
  if q.inbound && s.granPoisoned g rest then s.tileHalt t (fun y => { y with eccu := true }) true
  else if !q.inbound && bad.1 then s.tileHalt t (fun y => { y with eccu := true, failed := y.failed || bad.2 }) true
  else
    let stop := if q.inbound then ((List.range (n - q.moved)).map (· + q.moved)).find? (fun k => decide ((q.local_ + 8 * k) % localBytes < s.protLen t)) else none
    let m := stop.getD n
    let len := 8 * (m - q.moved)
    let u := if q.inbound then s.wrapWrite t lo (s.granBytes g len) else s.sharedWrite g (s.wrapRead t lo len)
    let v := u.setTile t { u.tile t with queue := (u.tile t).queue.set i { q with moved := m } }
    if stop.isSome then v.tileHalt t (fun y => { y with protfault := true }) false else v

/-- The stream unit up to a cycle, for transfers of one direction or both; a halt stops it. (Log: 145 DESIGN CHOICE) -/
def State.streamsTo (s : State) (t c : Nat) (dirs : List Bool) : State :=
  s.each (List.range (s.tile t).queue.length) (fun i s =>
    match (s.tile t).queue.drop i with
    | [] => s
    | q :: _ => if dirs.contains q.inbound && decide (q.moved < q.due c) && (s.tile t).st != tiHalted then s.moveWords t i q (q.due c) else s)

-- Bundles (R369 to R377)

/-- An operation of the stream unit, and one of the sequencer (R376). -/
def TOp.streams (op : TOp) : Bool := match op with | .xin _ _ _ _ | .xout _ _ _ _ | .xwait => true | _ => false
def TOp.controls (op : TOp) : Bool := match op with | .loop _ _ | .rep _ | .done | .nop => true | _ => false

/-- An issue to the stream unit's queue. -/
def TOp.issues (op : TOp) : Bool := match op with | .xin _ _ _ _ | .xout _ _ _ _ => true | _ => false

/-- The operation as a bound kernel runs it: every MAC in SAT mode (R373). -/
def TOp.saturating (op : TOp) : TOp :=
  match op with
  | .cmac a p q clr neg conj _ => .cmac a p q clr neg conj false
  | .accadd a b neg _ => .accadd a b neg false
  | .accld a m sh _ => .accld a m sh false
  | o => o

/-- A bundle holds at most one operation that is no load or store, two loads and one store (R369). -/
def bundleOk (b : List TOp) : Bool :=
  decide ((b.filter (fun op => op.load.isNone && !op.keeps)).length ≤ 1) && decide ((b.filter (fun op => op.load.isSome)).length ≤ 2)
    && decide ((b.filter (·.keeps)).length ≤ 1)

/-- The count and length of body of a bundle's LOOP, or of its REPEAT. -/
def flow (b : List TOp) : Option (TCount × Nat × Bool) :=
  b.findSome? (fun op => match op with | .loop c n => some (c, n, true) | .rep c => some (c, 1, false) | _ => none)

/-- A count is an immediate in its range, or a count register: one with KMAX above 0 (R376 to R378). -/
def countOk (kmax : Nat → Nat) : TCount → Bool
  | .imm c => decide (1 ≤ c ∧ c ≤ 65536)
  | .k r => decide (0 < kmax r.toNat)

/-- The loops and repeats of some bundles follow R376 to R378: at most 4 deep, an inner body within the enclosing one, and neither
control nor stream operations in a repeated bundle. -/
def formOk (kmax : Nat → Nat) : Nat → Nat → List (List TOp) → Bool
  | 0, _, _ => true
  | _ + 1, _, [] => true
  | f + 1, d, b :: r =>
    match flow b with
    | none => formOk kmax f d r
    | some (c, n, true) => countOk kmax c && decide (d < 4 ∧ 1 ≤ n ∧ n ≤ 4096 ∧ n ≤ r.length) && formOk kmax f (d + 1) (r.take n)
        && formOk kmax f d (r.drop n)
    | some (c, _, false) => countOk kmax c && (match r with | [] => false | x :: _ => x.all (fun op => !op.streams && !op.controls))
        && formOk kmax f d (r.drop 1)

/-- One issue of a bundle, in the present cycle (R366, R369, R370). Loads see memory from before the cycle's writes, the stream unit's word of
the cycle prevails over the store, and a store that meets the protected region is suppressed (R367). Overflows of one issue count once (R372). -/
def State.bundleRun (s : State) (t : Nat) (b : List TOp) : State :=
  let s := (s.streamsTo t ((s.tile t).cyc - 1) [true, false]).streamsTo t (s.tile t).cyc [false]
  if (s.tile t).st ≠ tiRunning then s
  else
  let b := if s.bound then b.map (·.saturating) else b
  let x := (s.tile t).due
  let loads := b.filterMap (fun op => op.load.map (fun l => (op, l)))
  let stores := b.filterMap (fun op => op.store x)
  let bad := loads.find? (fun l => s.localBad t (x.access l.2.1 l.2.2.2) l.2.2.1)
  match bad with
  | some l => s.tileHalt t (fun y => { y with eccu := true, failed := y.failed || s.protBad t (x.access l.2.1 l.2.2.2) l.2.2.1 }) true
  | none =>
    if stores.any (fun st => s.storeBarred t (x.access st.1 st.2.1) st.2.2.length) then s.tileHalt t (fun y => { y with protfault := true }) false
    else
      let data := loads.map (fun l => (l.1, l.2.1, s.localRead t (x.access l.2.1 l.2.2.2) l.2.2.1))
      let vecs := (data.filter (fun d => d.2.2.length != 256)).map (fun d => loadVec d.2.2)
      let y1 := b.foldl (fun y op => y.compute (vecs.head?.getD zeroVec) ((vecs.drop 1).head?.getD zeroVec) op) x
      let y2 := data.foldl (fun y d => (y.loadTo d.1 d.2.2).advance x d.2.1) y1
      let y3 := stores.foldl (fun y st => y.advance x st.1) y2
      let y4 := { y3 with kovf := min y3.kovf (x.kovf + 1) }
      let u := stores.foldl (fun s st => s.localWrite t (x.access st.1 st.2.1) st.2.2) (s.setTile t y4)
      let v := b.foldl (fun s op => match op with
        | .xin ad off w n => s.streamIssue t x ad.toNat off.toNat w.toNat n true
        | .xout ad off w n => s.streamIssue t x ad.toNat off.toNat w.toNat n false
        | _ => s) (u.streamsTo t x.cyc [true])
      let z := v.tile t
      if z.st ≠ tiRunning then v
      else if b.contains .done then
        v.setTile t { z with st := if v.bound then tiIdle else tiOff, ended := true, cycles := z.cyc + 1, cyc := z.cyc + 1, pend := [] }
      else v.setTile t { z with cyc := z.cyc + 1, waiting := b.contains .xwait && z.queue.any (fun q => decide (z.cyc < q.doneAt)) }

/-- The bundle cannot issue yet: XWAIT waits, or it issues a transfer to a full queue (R369, R380). -/
def Tile.stalled (x : Tile) (b : List TOp) : Bool :=
  x.waiting || (decide (4 ≤ (x.queue.filter (fun q => decide (x.cyc ≤ q.doneAt))).length) && b.any (·.issues))

/-- Issue bundles in order until one stalls or the kernel stops. -/
def State.runBundles (t : Nat) : List (List TOp) → State → State
  | [], s => s.setTile t { s.tile t with todo := [] }
  | b :: r, s =>
    if (s.tile t).st ≠ tiRunning then s
    else if (s.tile t).stalled b then s.setTile t { s.tile t with todo := b :: r }
    else State.runBundles t r (s.bundleRun t b)

/-- A count of LOOP or REPEAT. -/
def Tile.count (x : Tile) : TCount → Nat
  | .imm c => c
  | .k r => sparseGet 0 x.k r.toNat

/-- The CLR flag of a repeated CMAC acts on the first repetition only (R376). -/
def TOp.again (op : TOp) : TOp :=
  match op with
  | .cmac a p q _ neg conj wrap => .cmac a p q false neg conj wrap
  | o => o

/-- What a LOOP's bundle issues besides the LOOP, which has no overhead of its own (R377). -/
def besideLoop (b : List TOp) : List (List TOp) :=
  match b.filter (fun op => match op with | .loop _ _ => false | _ => true) with
  | [] => []
  | l => [l]

/-- Lay out the bundles that loops and repeats issue (R376, R377); each REPEAT takes a cycle of its own. (Log: 144 DESIGN CHOICE) -/
def Tile.unroll (x : Tile) : Nat → List (List TOp) → List (List TOp)
  | 0, _ => []
  | _ + 1, [] => []
  | f + 1, b :: r =>
    match flow b with
    | none => b :: x.unroll f r
    | some (c, n, true) => besideLoop b ++ ((List.replicate (x.count c) (x.unroll f (r.take n))).flatten ++ x.unroll f (r.drop n))
    | some (c, _, false) =>
      let body := r.head?.getD []
      b :: ((if x.count c = 0 then [] else body :: List.replicate (x.count c - 1) (body.map TOp.again)) ++ x.unroll f (r.drop 1))

/-- KMAX as a tile's count registers see it: any register counts while no kernel is bound. -/
def State.kMaxOf (s : State) (t r : Nat) : Nat := if s.bound then s.kMax (s.tile t).kernel r else 1

/-- A bundle is complete: it issues, or joins the body of an open LOOP or REPEAT. What R369 and R376 to R378 do not allow is no bundle of any
kernel and does nothing. (Log: 144 DESIGN CHOICE) -/
def State.bundleDone (s : State) (t : Nat) : State :=
  let x := s.tile t
  let b := x.bundle
  let y := { x with bundle := [] }
  if !bundleOk b then s.setTile t y
  else if 0 < x.need then
    let code := x.code ++ [b]
    if x.need = 1 then
      let z := s.setTile t { y with code := [], need := 0 }
      if formOk (s.kMaxOf t) (code.length + 1) 0 code then State.runBundles t (x.todo ++ x.unroll (code.length + 1) code) z else z
    else s.setTile t { y with code := code, need := x.need - 1 }
  else
    match flow b with
    | some (_, n, _) => s.setTile t (if n = 0 then y else { y with code := [b], need := n })
    | none => State.runBundles t (x.todo ++ [b]) (s.setTile t y)

/-- An operation of a running tile: it joins the bundle being assembled, and the last one issues the bundle. While no sheaf is applied the
firmware's self-test may use a tile, from its first operation to END (R373). (Log: 144 DESIGN CHOICE) -/
def State.tileOp (s : State) (t : Byte) (last : Bool) (op : TOp) : State :=
  let x := s.tile t.toNat
  let y := if x.st = tiOff ∧ !s.bound then x.fresh tiRunning else x
  if y.st ≠ tiRunning then s
  else
    let u := s.setTile t.toNat { y with bundle := y.bundle ++ [op] }
    if last then u.bundleDone t.toNat else u

/-- LDV (R370). -/
def execTileLdv (tile : Byte) (last : Bool) (dst : Option (BitVec 5)) (a : TAddr) (s : State) : Out := .next (s.tileOp tile last (.ldv dst a))

/-- LDB (R370). -/
def execTileLdb (tile : Byte) (last : Bool) (dst : Option (BitVec 5)) (a : TAddr) (s : State) : Out := .next (s.tileOp tile last (.ldb dst a))

/-- SLD (R370). -/
def execTileSld (tile : Byte) (last : Bool) (dst : BitVec 4) (a : TAddr) (s : State) : Out := .next (s.tileOp tile last (.sld dst a))

/-- STV (R367). -/
def execTileStv (tile : Byte) (last : Bool) (src : BitVec 5) (a : TAddr) (s : State) : Out := .next (s.tileOp tile last (.stv src a))

/-- SST (R367). -/
def execTileSst (tile : Byte) (last : Bool) (src : BitVec 4) (a : TAddr) (s : State) : Out := .next (s.tileOp tile last (.sst src a))

/-- CMAC (R371). -/
def execTileCmac (tile : Byte) (last : Bool) (acc : BitVec 3) (x y : VSrc) (clr neg conj wrap : Bool) (s : State) : Out := .next (s.tileOp tile last (.cmac acc x y clr neg conj wrap))

/-- ACCRD (R374). -/
def execTileAccrd (tile : Byte) (last : Bool) (dst : BitVec 5) (acc : BitVec 3) (sh : SSrc) (w16 : Bool) (s : State) : Out := .next (s.tileOp tile last (.accrd dst acc sh w16))

/-- ACCADD (R372). -/
def execTileAccadd (tile : Byte) (last : Bool) (acc other : BitVec 3) (neg wrap : Bool) (s : State) : Out := .next (s.tileOp tile last (.accadd acc other neg wrap))

/-- ACCST (R370). -/
def execTileAccst (tile : Byte) (last : Bool) (acc : BitVec 3) (a : TAddr) (s : State) : Out := .next (s.tileOp tile last (.accst acc a))

/-- ACCLD (R372). -/
def execTileAccld (tile : Byte) (last : Bool) (acc : BitVec 3) (a : TAddr) (sh : BitVec 5) (wrap : Bool) (s : State) : Out := .next (s.tileOp tile last (.accld acc a sh wrap))

/-- VADD (R370). -/
def execTileVadd (tile : Byte) (last : Bool) (dst : BitVec 5) (x y : VSrc) (s : State) : Out := .next (s.tileOp tile last (.vadd dst x y))

/-- VSUB (R370). -/
def execTileVsub (tile : Byte) (last : Bool) (dst : BitVec 5) (x y : VSrc) (s : State) : Out := .next (s.tileOp tile last (.vsub dst x y))

/-- VNEG (R370). -/
def execTileVneg (tile : Byte) (last : Bool) (dst : BitVec 5) (x : VSrc) (s : State) : Out := .next (s.tileOp tile last (.vneg dst x))

/-- VCONJ (R370). -/
def execTileVconj (tile : Byte) (last : Bool) (dst : BitVec 5) (x : VSrc) (s : State) : Out := .next (s.tileOp tile last (.vconj dst x))

/-- VSHR (R370). -/
def execTileVshr (tile : Byte) (last : Bool) (dst : BitVec 5) (x : VSrc) (sh : SSrc) (s : State) : Out := .next (s.tileOp tile last (.vshr dst x sh))

/-- VSHL (R370). -/
def execTileVshl (tile : Byte) (last : Bool) (dst : BitVec 5) (x : VSrc) (sh : SSrc) (s : State) : Out := .next (s.tileOp tile last (.vshl dst x sh))

/-- VSEL (R370). -/
def execTileVsel (tile : Byte) (last : Bool) (dst : BitVec 5) (x y : VSrc) (mask : BitVec 4) (s : State) : Out := .next (s.tileOp tile last (.vsel dst x y mask))

/-- VSHUF (R370). -/
def execTileVshuf (tile : Byte) (last : Bool) (dst : BitVec 5) (x idx : VSrc) (s : State) : Out := .next (s.tileOp tile last (.vshuf dst x idx))

/-- VMOV (R370). -/
def execTileVmov (tile : Byte) (last : Bool) (dst : BitVec 5) (x : VSrc) (s : State) : Out := .next (s.tileOp tile last (.vmov dst x))

/-- BFLY (R370). -/
def execTileBfly (tile : Byte) (last : Bool) (dst1 dst2 : BitVec 5) (x y w : VSrc) (sc : Bool) (s : State) : Out := .next (s.tileOp tile last (.bfly dst1 dst2 x y w sc))

/-- SCLR (R379). -/
def execTileSclr (tile : Byte) (last : Bool) (max : Bool) (s : State) : Out := .next (s.tileOp tile last (.sclr max))

/-- SMAX (R379). -/
def execTileSmax (tile : Byte) (last : Bool) (x : VSrc) (key : BitVec 2) (s : State) : Out := .next (s.tileOp tile last (.smax x key))

/-- SMIN (R379). -/
def execTileSmin (tile : Byte) (last : Bool) (x : VSrc) (key : BitVec 2) (s : State) : Out := .next (s.tileOp tile last (.smin x key))

/-- SRED (R379). -/
def execTileSred (tile : Byte) (last : Bool) (key idx : BitVec 4) (s : State) : Out := .next (s.tileOp tile last (.sred key idx))

/-- SMOV (R370). -/
def execTileSmov (tile : Byte) (last : Bool) (dst : BitVec 4) (x : SSrc) (s : State) : Out := .next (s.tileOp tile last (.smov dst x))

/-- SADD (R370). -/
def execTileSadd (tile : Byte) (last : Bool) (dst : BitVec 4) (x y : SSrc) (s : State) : Out := .next (s.tileOp tile last (.sadd dst x y))

/-- SSUB (R370). -/
def execTileSsub (tile : Byte) (last : Bool) (dst : BitVec 4) (x y : SSrc) (s : State) : Out := .next (s.tileOp tile last (.ssub dst x y))

/-- SAND (R370). -/
def execTileSand (tile : Byte) (last : Bool) (dst : BitVec 4) (x y : SSrc) (s : State) : Out := .next (s.tileOp tile last (.sand dst x y))

/-- SOR (R370). -/
def execTileSor (tile : Byte) (last : Bool) (dst : BitVec 4) (x y : SSrc) (s : State) : Out := .next (s.tileOp tile last (.sor dst x y))

/-- SXOR (R370). -/
def execTileSxor (tile : Byte) (last : Bool) (dst : BitVec 4) (x y : SSrc) (s : State) : Out := .next (s.tileOp tile last (.sxor dst x y))

/-- SSHL (R370). -/
def execTileSshl (tile : Byte) (last : Bool) (dst : BitVec 4) (x y : SSrc) (s : State) : Out := .next (s.tileOp tile last (.sshl dst x y))

/-- SSHR (R370). -/
def execTileSshr (tile : Byte) (last : Bool) (dst : BitVec 4) (x y : SSrc) (s : State) : Out := .next (s.tileOp tile last (.sshr dst x y))

/-- SCLZ (R370). -/
def execTileSclz (tile : Byte) (last : Bool) (dst : BitVec 4) (x : SSrc) (s : State) : Out := .next (s.tileOp tile last (.sclz dst x))

/-- SCSEL (R370). -/
def execTileScsel (tile : Byte) (last : Bool) (dst : BitVec 4) (c : SCond) (l r x y : SSrc) (s : State) : Out := .next (s.tileOp tile last (.scsel dst c l r x y))

/-- AMOV (R375). -/
def execTileAmov (tile : Byte) (last : Bool) (r : AReg) (x : SSrc) (s : State) : Out := .next (s.tileOp tile last (.amov r x))

/-- AADD (R375). -/
def execTileAadd (tile : Byte) (last : Bool) (r : AReg) (x : SSrc) (s : State) : Out := .next (s.tileOp tile last (.aadd r x))

/-- LOOP (R377). -/
def execTileLoop (tile : Byte) (last : Bool) (c : TCount) (n : Nat) (s : State) : Out := .next (s.tileOp tile last (.loop c n))

/-- REPEAT (R376). -/
def execTileRepeat (tile : Byte) (last : Bool) (c : TCount) (s : State) : Out := .next (s.tileOp tile last (.rep c))

/-- END (R384). -/
def execTileEnd (tile : Byte) (last : Bool) (s : State) : Out := .next (s.tileOp tile last .done)

/-- NOP (R369). -/
def execTileNop (tile : Byte) (last : Bool) (s : State) : Out := .next (s.tileOp tile last .nop)

/-- XIN (R380). -/
def execTileXin (tile : Byte) (last : Bool) (ad : BitVec 3) (off : BitVec 4) (w : BitVec 2) (n : Nat) (s : State) : Out := .next (s.tileOp tile last (.xin ad off w n))

/-- XOUT (R380). -/
def execTileXout (tile : Byte) (last : Bool) (ad : BitVec 3) (off : BitVec 4) (w : BitVec 2) (n : Nat) (s : State) : Out := .next (s.tileOp tile last (.xout ad off w n))

/-- XWAIT (R380). -/
def execTileXwait (tile : Byte) (last : Bool) (s : State) : Out := .next (s.tileOp tile last .xwait)

/-- XFER_DONE (R380, R381): the running transfer moves what is left of its words, the next begins, and what waited for it issues. Local addresses
have 17 bits: words past the end of local memory are those from 0, which is protected. (Log: 15 DEDUCED, 143 DEDUCED, 145 DESIGN CHOICE) -/
def execXferDone (tile : Byte) (s : State) : Out :=
  let t := tile.toNat
  match (s.tile t).queue with
  | [] => .next s
  | q :: _ =>
    let u := if q.moved < q.words then s.moveWords t 0 q q.words else s
    let x := u.tile t
    let r := x.queue.drop 1
    let go := x.waiting && r != []
    let y := { x with queue := r, waiting := go, cyc := if go then x.cyc else max x.cyc (if x.waiting || x.todo != [] then q.doneAt + 1 else x.cyc) }
    .next (if x.st = tiRunning then State.runBundles t y.todo (u.setTile t y) else u.setTile t y)

-- Kernels (R384 to R388)

/-- Ticks of `n` consecutive symbols of a carrier from one on. -/
def State.symRun (s : State) (car : Nat) : Nat → Nat → List Nat
  | 0, _ => []
  | n + 1, a => a :: s.symRun car n (s.symNext car a)

/-- The symbols that a check names, by air tick; `ahead` ticks lie between this subframe and the one in which it fires. -/
def State.checkSyms (s : State) (a : Act) (ahead : Nat) : List Nat :=
  let w := a.arg.toNat
  s.symRun a.car.toNat (bits w 22 19 + 1) (s.actSym a a.car.toNat (bits w 18 16) (bits w 15 12) + ahead)

/-- Start a kernel on its tile, its PARAM block from a word on (R384, R387): suppressed on a SUSPENDED or FAILED tile, and nothing on a
tile that is OFF. An uncorrectable word of the protected region halts it at its fetch. -/
def State.kernelBegin (s : State) (t k base : Nat) : State :=
  let x := s.tile t
  if x.st = tiOff then s
  else if x.st = tiSuspended ∨ x.st = tiFailed then (s.setTile t { x with missed := true }).count R.TIL_CNT_SUPPR.SUPPR R.TIL_CNTOVF.OVF 3
  else
    let sub := s.subStart s.tick
    let u := s.setTile t { x.fresh tiRunning with
      kernel := k, startSub := sub, c0 := ((s.tick - sub + 2) * 3125 + 1023) / 1024,
      k := (List.range 8).foldl (fun m i => sparseSet 0 m i (s.param (base + i))) [] }
    if x.failed then u.tileHalt t (fun y => { y with eccu := true }) true else u

/-- KERNEL_START (R384, R387).
`check` is the class 4 action that follows in the furrows for the same kernel and tile (R386), which names the symbols served
(R385); `later`: it fires in the following subframe. (Log: 156 DEDUCED, 186 DESIGN CHOICE) -/
def execKernelStart (a check : Act) (later : Bool) (s : State) : Out :=
  s.onFire a (fun s =>
    let t := a.unit.toNat
    let k := bits a.arg.toNat 11 0
    let e := s.kernelEntry k
    let st := (s.tile t).st
    let u := s.kernelBegin t k (leAt e 12 4 + 8 * bits a.arg.toNat 22 12)
    if leAt e 3 1 = 1 ∧ check.car.toNat < 4 ∧ st ≠ tiOff ∧ st ≠ tiSuspended ∧ st ≠ tiFailed then
      u.beginPrep check.car.toNat (s.checkSyms check (if later then subTicks else 0))
    else u)

/-- Replace the output of a failed check's symbols by the kernel's DIR (R387). -/
def State.replaceOut (s : State) (a : Act) : State :=
  let car := a.car.toNat
  let arg := a.arg.toNat
  if car = 7 then s
  else
    let l := s.checkSyms a 0
    match leAt (s.kernelEntry (bits arg 11 0)) 3 1 with
    | 1 => { s with txc := { s.txc with zeroed := s.txc.zeroed ++ l.map (fun x => (car, x)) } }
    | 2 => { s with rxc := { s.rxc with inval := s.rxc.inval ++ l.flatMap (fun x => s.rxPaths.map (fun n => ⟨n, car, x, some (s.symNext car x), false, false⟩)) } }
    | 3 => s.setSounds (fun x => if x.car = car ∧ l.contains x.symT then some { x with invalid := true } else some x)
    | _ => s

/-- Add to a kernel's overflow count: 31 bits, saturating (R145, R373). -/
def State.addKovf (s : State) (k n : Nat) : State :=
  let c := sparseGet 0 s.shf.kovf k
  if c + n < 2 ^ 31 then { s with shf := { s.shf with kovf := sparseSet 0 s.shf.kovf k (c + n) } }
  else { s with shf := { s.shf with kovf := sparseSet 0 s.shf.kovf k (2 ^ 31 - 1),
                                    kovfOvf := if s.shf.kovfOvf.contains k then s.shf.kovfOvf else s.shf.kovfOvf ++ [k] } }

/-- The check of R385 passes: END has executed, and in time. -/
def State.checkOk (s : State) (x : Tile) (k : Nat) : Bool :=
  x.ended && x.kernel == k && decide (x.c0 + x.cycles ≤ (s.tick - x.startSub) * 3125 / 1024)

/-- KERNEL_CHECK (R385, R387, R388). A replacement counts as complete preparation (R241). (Log: 156 DEDUCED) -/
def execKernelCheck (a : Act) (s : State) : Out :=
  s.onFire a (fun s =>
    let s := if leAt (s.kernelEntry (bits a.arg.toNat 11 0)) 3 1 = 1 ∧ a.car.toNat < 4 then s.prepDone a.car.toNat (s.checkSyms a 0) else s
    let t := a.unit.toNat
    let x := s.tile t
    let k := bits a.arg.toNat 11 0
    if x.st = tiOff then s
    else if x.st = tiSuspended ∨ x.st = tiFailed ∨ x.missed then (s.setTile t { x with missed := false }).replaceOut a
    else
      let u := (s.addKovf k x.kovf).setTile t { x with kovf := 0 }
      if s.checkOk x k then u
      else
        let y := { x.fresh (if x.failed then tiFailed else tiSuspended) with kovf := 0 }
        let v := ((u.setTile t y).zeroWorking t).count R.SHF_CNT_TILEBRK.TILEBRK R.SHF_CNTOVF.OVF 4
        let w := (v.tally 0x0021 (leBytes 1 t ++ leBytes 1 0 ++ leBytes 2 k)).replaceOut a
        if x.failed then (w.setBit ⟨R.TIL_TFAIL0.w.addr + 4 * (t / 32), 31, 0⟩ (t % 32)).tally 0x0022 (leBytes 1 t) else w)

/-- TILE_RESUME (R387): tick 0 of the next subframe. -/
def execTileResume (tile : Byte) (s : State) : Out :=
  let x := s.tile tile.toNat
  if x.st = tiSuspended then .next (s.setTile tile.toNat { x with st := tiIdle }) else .next s

/-- GRANARY_SCRUB (R393, R388): a granary word, read as background work and corrected under R392; in tile local memory the tile's
counters count it too, and an uncorrectable word of the protected region marks the tile. -/
def execGranaryScrub (addr : Nat) (ecc : EccResult) (s : State) : Out :=
  if 0x6000000 ≤ addr ∨ s.boot.inReset then .next s
  else
    let u := s.granEcc addr ecc
    if 256 * localBytes ≤ addr then .next u
    else
      let t := addr / localBytes
      match ecc with
      | .good => .next u
      | .corrected => .next (u.count R.TIL_CNT_ECCC.ECCC R.TIL_CNTOVF.OVF 0)
      | .uncorrectable =>
        let x := u.tile t
        .next ((u.setTile t { x with eccu := true, failed := x.failed || decide (addr % localBytes < s.protLen t) }).count R.TIL_CNT_ECCU.ECCU R.TIL_CNTOVF.OVF 1)

-- Class 19 (R304, R386)

/-- A class 19 action starts shipped sounding kernels: each has DIR 3 in its entry, which names its tile. Which of them serves an
operation of a descriptor, and from which PARAM block, the sheaf format does not say. (Log: 259 DESIGN CHOICE) -/
def State.soundKernels (s : State) (op desc : Nat) : State :=
  s.each ((List.range (s.hdr 44 2)).filter (fun k => leAt (s.kernelEntry k) 3 1 == 3)) (fun k t =>
    match Config.soundBlock (s.sect 4) op desc k with
    | none => t
    | some psel => t.kernelBegin (leAt (s.kernelEntry k) 2 1) k (leAt (s.kernelEntry k) 12 4 + 8 * (psel % 2048)))

/-- COVAR (R304, R306, R386): `adc` holds the ADC codes of each path over the sounding symbol. A MODE 0 descriptor runs only for an accepted
SOUND_REQ. (Log: 5 DESIGN CHOICE, 259 DESIGN CHOICE) -/
def execCovar (a : Act) (adc : List (List Int)) (s : State) : Out :=
  s.onFire a (fun s =>
    let s := s.soundKernels 0 a.arg.toNat
    let d := s.soundAct a
    let car := a.car.toNat
    let slotT := s.slotStart car d.1
    let inv := (s.symValid car slotT (bits d.2.1 3 0)).2.1
    let used := (List.range (12 * s.nPrb car)).map (s.antenna car (s.fftWindows car d.1 adc))
    let new : Sounding := ⟨a.arg.toNat, car, d.1, none, bits d.2.1 12 8, bits d.2.1 15 13, bits d.2.1 20 16, bit d.2.1 21, bits d.2.2 17 0,
      used, [], inv, false, [], 0⟩
    if bit d.2.1 7 then
      { s with rxc := { s.rxc with sounds := s.rxc.sounds.filter (fun x => !x.is a d.1) ++ [new] } }
    else s.setSounds (fun x => if x.is a d.1 then some { x with y := used, invalid := inv } else some x))

/-- SOLVE (R306). (Log: 133 DEDUCED, 259 DESIGN CHOICE) -/
def execSolve (a : Act) (s : State) : Out :=
  s.onFire a (fun s =>
    let s := s.soundKernels 1 a.arg.toNat
    let d := s.soundAct a
    if s.rxc.sounds.any (fun x => x.is a d.1 && x.y != []) then
      (s.setSounds (fun x => if x.is a d.1 then some { x with beams := s.solveAll x } else some x)).count R.RXC_CNT_SOUND.SOUND R.RXC_CNTOVF.OVF 3
    else s)

/-- What sounding kernels have written to the beam cache enters it, oldest first, at a PLACE tick (R383). (Log: 273 DEDUCED) -/
def State.placeHeld (s : State) : State :=
  s.rxc.cacheHeld.foldl (fun u w => u.setGran w.1 w.2) { s with rxc := { s.rxc with cacheHeld := [] } }

/-- PLACE (R307). A scheduled descriptor sends no result and is done with. (Log: 259 DESIGN CHOICE) -/
def execPlace (a : Act) (s : State) : Out :=
  s.onFire a (fun s =>
    let s := (s.placeHeld).soundKernels 2 a.arg.toNat
    let d := s.soundAct a
    match s.rxc.sounds.find? (fun x => x.is a d.1 && x.beams != []) with
    | none => s
    | some x =>
      let t := if x.place && !x.invalid then s.placeBeams x else s
      if x.req.isNone then t.setSounds (fun y => if y.is a d.1 then none else some y) else t)

end Sys2Proof.Machine
end

