-- ==== Sys2Proof/Machine/Transmit.lean ====
section
/-! DEFINITION. The transmit chain (08_transmit_chain.md): beam fetch, CFR, engine windows and passes, horizons and recomputation,
the ring read with its mute causes, regulatory tests and duty accounting. -/

namespace Sys2Proof.Machine

-- Beam fetch (R223 to R227, R246)

/-- 256 bytes of the beam library (R400). -/
def State.library (s : State) (id : Nat) : List Byte := s.dramBytes (id * 256) 256

/-- Distinct elements, in order of first occurrence. -/
def distinct (l : List Nat) : List Nat := l.foldl (fun r x => if r.contains x then r else r ++ [x]) []

/-- Sections in ascending SECT_ID order. -/
def bySect (l : List Sect) : List Sect :=
  l.foldr (fun x r => r.takeWhile (fun y => decide (y.id < x.id)) ++ x :: r.dropWhile (fun y => decide (y.id < x.id))) []

/-- The beam IDs that a symbol's downlink sections name, the default beam aside. -/
def State.namedBeams (s : State) (car t : Nat) : List Nat := distinct ((bySect (s.dlSects car t)).filterMap (·.beam))

/-- The beam IDs that a FETCH of a symbol loads: those of its accepted sections, uplink ones among them (R225, R297). (Log: 251 DEDUCED) -/
def State.fetchIds (s : State) (car t : Nat) : List Nat :=
  distinct ((bySect (s.dlSects car t ++ s.con.sects.filter (fun x => !x.dl && x.car == car && s.symOfSlot x.car x.slotT x.sym == t))).filterMap (·.beam))

/-- The loop of R225. `written` are the entries this action has written, `n` the beams it has loaded. (Log: 152 DEDUCED, 153 DEDUCED) -/
def State.fetchBeams (maxBeams : Nat) (lost : List (Nat × Nat)) : List Nat → List Nat → Nat → State → State
  | [], _, _, s => s
  | id :: r, written, n, s =>
    let e := id % beamEntries
    if s.beamPresent id then State.fetchBeams maxBeams lost r written n s
    else if s.beamPinned id || written.contains e then State.fetchBeams maxBeams lost r written n s
    else if n = maxBeams then State.fetchBeams maxBeams lost r written n (s.count R.TXC_CNT_FETCHMISS.MISS R.TXC_CNTOVF.OVF 3)
    else if !s.dramOk then State.fetchBeams maxBeams lost r written n s
    else match lost.find? (fun x => x.1 == id) with
    | some x => State.fetchBeams maxBeams lost r written (n + 1) (s.linkLost x.2).dramUsed
    | none => State.fetchBeams maxBeams lost r (e :: written) (n + 1) (s.setBeam id (s.library id)).dramUsed

/-- FETCH (R225, R226): `lost` are the beams whose burst fails, each with the byte lane, and `fixed` the lanes of the errors that the link's
code corrects (R407). (Log: 152 DEDUCED, 159 DEDUCED) -/
def execFetch (a : Act) (lost : List (Nat × Nat)) (s : State) (fixed : List Nat := []) : Out :=
  s.onFire a (fun s =>
    let car := a.car.toNat
    let t := s.actBound a
    let held := if (s.symRec car t).fetched then [] else s.con.beams.filter (fun x => x.at_ == t && x.car == car)
    let u := { s with con := { s.con with beams := s.con.beams.filter (fun x => !held.contains x) } }.each held (fun x u => u.setBeam x.id x.weights)
    let v := State.fetchBeams (bits a.arg.toNat 17 7) lost (u.fetchIds car t) (held.map (fun x => x.id % beamEntries)) 0 u
    ((v.setSym car t (fun r => { r with fetched := true, absent := v.absentIds car t })).prepared t).each (if s.dramOk then fixed else [])
      (fun k t => t.linkFixed k))

/-- Transmitting paths. -/
def State.txPaths (s : State) : List Nat := (List.range s.part.paths).filter s.used

def State.depth (s : State) : Nat := s.get R.TXC_RUNAHEAD.DEPTH

/-- Where the recompute beam buffer of a carrier begins in the granary (R240). -/
def State.rbufAddr (s : State) (car : Nat) : Nat :=
  0x2400000 + leAt (s.record 2) 12 4 + (if s.depth = 0 then 2 else s.depth + 2) * 1536 * s.txPaths.length
    + 16384 * (s.carriers.filter (fun c => decide (c < car) && decide (0 < s.budget c))).length

/-- Set DEFBEAM of a symbol and count its substitutions: the sections whose beam is among the absent ones (R225). (Log: 155 DEDUCED) -/
def State.defBeamNote (s : State) (car t : Nat) (absent : List Nat) : State :=
  let n := ((s.dlSects car t).filter (fun x => !x.mute && (match x.beam with | some id => absent.contains id | none => false))).length
  (s.setSym car t (fun r => { r with defbeam := decide (n ≠ 0), absent := absent })).countBy R.SHF_CNT_DEFBEAM.DEFBEAM R.SHF_CNTOVF.OVF 3 n

/-- RECOMPUTE_FETCH (R246): for a symbol that awaits recomputation. (Log: 153 DEDUCED, 154 DEDUCED) -/
def execRecomputeFetch (a : Act) (lost : List (Nat × Nat)) (s : State) (fixed : List Nat := []) : Out :=
  s.onFire a (fun s =>
    let car := a.car.toNat
    let t := s.actBound a
    if !(s.symRec car t).await then s
    else
      let ids := (s.namedBeams car t).filter (fun id => !s.beamPresent id)
      let n := min 64 (bits a.arg.toNat 17 7)
      let fails := if s.dramOk then lost.filter (fun x => (ids.take n).contains x.1) else []
      let load := if s.dramOk then (ids.take n).filter (fun id => !fails.any (fun x => x.1 == id)) else []
      let s := (s.each fails (fun x t => t.linkLost x.2)).each (if s.dramOk then fixed else []) (fun k t => t.linkFixed k)
      let u := { s with txc := { s.txc with rbuf := sparseSet [] s.txc.rbuf car load } }.setGran (s.rbufAddr car)
        ((load.map (fun id => pad 256 (s.library id))).flatten)
      (u.countBy R.TXC_CNT_FETCHMISS.MISS R.TXC_CNTOVF.OVF 3 (ids.length - n)).defBeamNote car t (ids.filter (fun id => !load.contains id)))

-- Crest-factor reduction (R229 to R233)

/-- A CFR set body: INITBANK replaces the STRUCT record of the same number (R230). -/
def State.cfrSet (s : State) (n : Nat) : List Byte :=
  match s.initBank.find? (fun e => e.1 == 1 && leAt e.2 0 1 == n) with
  | some e => e.2
  | none => ((s.recsOf 3).find? (fun b => leAt b 0 1 == n)).getD []

/-- CFR_SELECT (R233). -/
def execCfrSelect (a : Act) (s : State) : Out :=
  s.onFire a (fun s =>
    let b := s.actSym a a.car.toNat (bits a.arg.toNat 9 7) (bits a.arg.toNat 6 3)
    let ps := (List.range s.part.paths).filter (fun p => a.unit.toNat == 0xFF || p / 8 == a.unit.toNat)
    { s with txc := { s.txc with sel := s.txc.sel ++ ps.map (fun p => (p, b, bits a.arg.toNat 2 0)) } })

/-- The CFR set of a path for the engine symbol at an air tick: that of the SELECT with the latest boundary at or before it. (Log: 151 DEDUCED, 157 DESIGN CHOICE) -/
def State.cfrAt (s : State) (p a : Nat) : List Byte :=
  let n := ((s.txc.sel.filter (fun x => x.1 == p && decide (x.2.1 ≤ a))).foldl
    (fun (b : Nat × Nat) x => if b.1 ≤ x.2.1 then (x.2.1, x.2.2) else b) (0, Config.cfrFirst p)).2
  s.cfrSet n

/-- A quotient of the CFR engine, rounded. (Log: 157 DESIGN CHOICE) -/
def cfrDiv (num : Int) (den : Nat) : Int := num / den + (if num % (den : Int) = 0 then 0 else ((Config.cfrRound num den % 2 : Nat) : Int))

/-- |x| in units of 2^-16. (Log: 157 DESIGN CHOICE) -/
def cfrMag (c : Int × Int) : Nat :=
  let n := cnorm c * 2 ^ 32
  let r := isqrt 40 n
  if r * r = n then r else r + Config.cfrRound n 0 % 2

/-- Insert a candidate by descending magnitude; equal ones keep ascending order. -/
def candInsert (x : Nat × Nat) (l : List (Nat × Nat)) : List (Nat × Nat) :=
  l.takeWhile (fun y => decide (x.2 ≤ y.2)) ++ x :: l.dropWhile (fun y => decide (x.2 ≤ y.2))

/-- The peaks that one stage takes: index and magnitude (R231). (Log: 157 DESIGN CHOICE) -/
def cfrPeaks (body : List Byte) (mags : List Nat) (left right : Nat) : List (Nat × Nat) :=
  let thresh := leAt body 6 2 * 2 ^ 16
  let m (i : Nat) : Nat := (mags.drop i).head?.getD right
  let cand := (List.range mags.length).filter (fun n =>
    decide (thresh < m n) && decide ((if n = 0 then left else m (n - 1)) ≤ m n) && decide (m (n + 1) < m n))
  let sorted := cand.foldl (fun l n => candInsert (n, m n) l) []
  sorted.foldl (fun taken x =>
    if taken.any (fun y => decide (x.1 < y.1 + leAt body 3 1) && decide (y.1 < x.1 + leAt body 3 1))
        || decide (leAt body 4 1 ≤ (taken.filter (fun y => y.1 / 1024 == x.1 / 1024)).length)
    then taken else taken ++ [x]) []

/-- Subtract one cancellation pulse, scaled by the sample as the pulses before have left it (R231). `l` runs past the symbol's last
sample by the tail. (Log: 157 DESIGN CHOICE) -/
def cfrCancel (body : List Byte) (l : List (Int × Int)) (n : Nat) : List (Int × Int) :=
  let x := cAt l n
  let mag := cfrMag x
  let len := leAt body 2 1
  let scale := cfrDiv (((mag : Int) - leAt body 6 2 * 2 ^ 16) * 2 ^ 16) mag
  let a := (x.1 * scale, x.2 * scale)
  (l.zip (List.range l.length)).map (fun y =>
    let i := y.2 + (len - 1) / 2
    if n ≤ i ∧ i < n + len then
      let tap := (signed 16 (leAt body (12 + 4 * (i - n)) 2), signed 16 (leAt body (14 + 4 * (i - n)) 2))
      let q := cmul a tap
      (y.1.1 - cfrDiv q.1 (2 ^ 31), y.1.2 - cfrDiv q.2 (2 ^ 31))
    else y.1)

/-- One stage. -/
def cfrStage (body : List Byte) (n left right : Nat) (l : List (Int × Int)) : List (Int × Int) :=
  (cfrPeaks body ((l.take n).map cfrMag) left right).foldl (fun l x => cfrCancel body l x.1) l

/-- The CFR output of an engine symbol of `n` samples, the pulse tail it leaves, and the counts of clipped samples and of samples
left above THRESH (R231, R232). An empty set passes the composite. (Log: 277 DESIGN CHOICE) -/
def cfrRun (body : List Byte) (n : Nat) (tail comp : List (Int × Int)) : List (Int × Int) × List (Int × Int) × Nat × Nat :=
  let x := (comp.zip (List.range comp.length)).map (fun c => cadd c.1 (cAt tail c.2)) ++ List.replicate 128 (0, 0)
  if body = [] then ((x.take n).map (fun c => (sat 16 c.1, sat 16 c.2)), [], 0, 0)
  else
    let y := iterate (cfrStage body n (Config.cfrEdge (x.take n) 0) (Config.cfrEdge (x.take n) 1)) (leAt body 1 1) x
    let z := (y.take n).map (fun c => (sat 16 c.1, sat 16 c.2))
    let clip := leAt body 8 2
    let out := z.map (fun c => if clip ≠ 0 ∧ clip * 2 ^ 16 < cfrMag c
      then (cfrDiv (c.1 * (clip * 2 ^ 16 : Nat)) (cfrMag c), cfrDiv (c.2 * (clip * 2 ^ 16 : Nat)) (cfrMag c)) else c)
    (out, if (y.drop n).all (· == (0, 0)) then [] else y.drop n,
      (z.filter (fun c => decide (clip ≠ 0) && decide (clip * 2 ^ 16 < cfrMag c))).length,
      (z.filter (fun c => decide (leAt body 6 2 * 2 ^ 16 < cfrMag c))).length)

-- Engine windows and passes (R234 to R242)

def State.eng (s : State) (a : Nat) : EngSym := sparseGet {} s.txc.eng a
def State.setEng (s : State) (a : Nat) (e : EngSym) : State := { s with txc := { s.txc with eng := sparseSet {} s.txc.eng a e } }

/-- Carriers with a downlink. -/
def State.dlCarriers (s : State) : List Nat := s.carriers.filter (fun c => decide (0 < s.dlLayers c))

/-- The engine symbols from one on. -/
def State.engFrom (s : State) : Nat → Nat → List Nat
  | 0, _ => []
  | n + 1, a => a :: s.engFrom n (s.symNext s.grid a)

/-- The engine symbol before one that begins at a tick. -/
def State.engBefore (s : State) (a : Nat) : Nat := s.symBegin s.grid (a - 1)

/-- The chain restarts from zero checkpoints at an engine symbol (R250): at any without a checkpoint, or after a forward step at one whose
predecessor has played or is not precoded, so that no pass can still come to it. -/
def State.restartsAt (s : State) (a : Nat) : Bool :=
  let p := s.engBefore a
  s.txc.restart && !(s.eng a).ckpt
    && (!s.txc.gap || (s.eng p).played || ((s.eng p).busy == 0 && !(s.dlCarriers.all (fun c => (s.symRec c (s.symBegin c p)).ready))))

/-- R237: the engine symbol at an air tick is eligible in a window. -/
def State.eligible (s : State) (a win : Nat) : Bool :=
  s.covers a
    && (s.dlCarriers.all (fun c => let r := s.symRec c (s.symBegin c a); r.ready && !r.await))
    && ((s.eng a).ckpt || s.restartsAt a || (win == 2 && (s.eng (s.engBefore a)).busy == 1))

/-- A window of an interval exists: window 2 always, window 1 when some carrier's BUDGET is above 0 (R235, R238). -/
def State.windowExists (s : State) (win : Nat) : Bool := win == 2 || (win == 1 && s.carriers.any (fun c => decide (0 < s.budget c)))

/-- ENGINE_WINDOW (R235, R237, R238): the window of W(x) for the engine symbol x at an air tick takes the earliest void and eligible
symbol. (Log: 159 DEDUCED) -/
def execEngineWindow (at_ win : Nat) (s : State) : Out :=
  if s.run < runStarting ∨ s.run = runFaulted ∨ s.symBegin s.grid at_ ≠ at_ ∨ ¬ s.windowExists win then .next s
  else
    match (s.engFrom (s.depth + 1) at_).find? (fun a => let e := s.eng a; !e.done && !e.played && e.busy == 0 && s.eligible a win) with
    | none => .next s
    | some a =>
      let e := s.eng a
      let t := if s.restartsAt a then s.setEng a { e with busy := win, stale := false, ckpt := true, tails := [], hist := [], inter := [] }
        else s.setEng a { e with busy := win, stale := false }
      .next ({ t with txc := { t.txc with restart := s.txc.restart && !s.restartsAt a } }.prepared a)

/-- x(n) of R228 for the subcarriers `f`, the middle of the list at the carrier centre: the sum is exact to 2^-40. (Log: 225 DESIGN CHOICE) -/
def ifftSample (f : List (Int × Int)) (shift size n : Nat) : Int × Int :=
  let v := (f.zip (List.range f.length)).foldl (fun r z =>
    cadd r (cmul z.1 (circle ((z.2 + f.length / 2 * (size - 1)) * n % size) size))) (0, 0)
  (sat 16 (roundTie (40 + shift) (roundDiv v.1 (2 ^ 56))), sat 16 (roundTie (40 + shift) (roundDiv v.2 (2 ^ 56))))

/-- The carrier-rate samples of a carrier on a path over an engine symbol (R228), from its symbol's antenna-domain samples; empty
where all are zero, and where a kernel breach zeroes them. (Log: 224 DEDUCED) -/
def State.carrierSamples (s : State) (car a p : Nat) : List (Int × Int) :=
  let t := s.symBegin car a
  let f := ((s.symRec car t).freq.drop p).head?.getD []
  if f.isEmpty || s.txc.zeroed.contains (car, t) then []
  else
    let k := 2 ^ s.rateK car
    let n := 32768 / 2 ^ s.scs car / k
    let cp := (s.symNext car a - t) / k - n
    let l := (List.range (s.engLen a / k)).map (fun i => ifftSample f (s.ifftShift car) n (((a - t) / k + i + n - cp) % n))
    if l.all (fun v => v == (0, 0)) then [] else l

/-- The samples of a carrier on a path at the engine rate, before the shift (R229): zeros from zeros, else a free function of the
interpolator's input and history, whose taps the spec does not give. (Log: 226 DESIGN CHOICE) -/
def State.interpolated (s : State) (car a p n : Nat) : List (Int × Int) :=
  let h := sparseGet [] (s.eng a).inter (64 * car + p)
  let x := s.carrierSamples car a p
  if h.isEmpty && x.isEmpty then []
  else (List.range n).map (Config.interpolate (s.eRate * 2 ^ s.rateK car) h x)

/-- The samples of a carrier at the engine rate, shifted by its OFFSET, from engine sample `i0` of the subframe on: the phase is 0 at its
tick 0 (R229). -/
def State.carShifted (s : State) (car i0 : Nat) (l : List (Int × Int)) : List (Int × Int) :=
  (l.zip (List.range l.length)).map (fun x => turned (s.carOffset car / 1000) (491520 * s.eRate) (i0 + x.2) x.1)

/-- The composite of a path (R229): the sum of its carriers' interpolated and shifted samples, with an ADD_PRE tone. (Log: 226 DESIGN CHOICE) -/
def State.composite (s : State) (a p n : Nat) (tone : Nat → Int × Int) (pre : Bool) : List (Int × Int) :=
  let l := s.dlCarriers.map (fun c => s.carShifted c ((a - s.subStart a) * s.eRate) (s.interpolated c a p n))
  (List.range n).map (fun i =>
    let x := l.foldl (fun r y => cadd r (cAt y i)) (0, 0)
    let y := (sat 16 x.1, sat 16 x.2)
    if pre then (sat 16 (y.1 + 4 * (tone i).1), sat 16 (y.2 + 4 * (tone i).2)) else y)

/-- What a pass computes for a path: CFR output, DPD output, tail, clipped, residual, limited samples (R231, R257, R324). -/
def State.passCfr (s : State) (a p n : Nat) : List (Int × Int) × List (Int × Int) × Nat × Nat :=
  let tn := s.toneAt p a
  let i0 := (a - s.subStart a) * s.eRate
  cfrRun (s.cfrAt p a) n (sparseGet [] (s.eng a).tails p)
    (s.composite a p n (fun i => toneSample tn.1 tn.2.1 s.eRate (i0 + i)) (tn.2.2 == 1))

/-- The tone after DPD (R324). -/
def State.toneAfter (s : State) (a p : Nat) (y : List (Int × Int)) : List (Int × Int) :=
  let tn := s.toneAt p a
  let i0 := (a - s.subStart a) * s.eRate
  (y.zip (List.range y.length)).map (fun c =>
    let t := toneSample tn.1 tn.2.1 s.eRate (i0 + c.2)
    match tn.2.2 with
    | 2 => (sat 14 (c.1.1 + t.1), sat 14 (c.1.2 + t.2))
    | 3 => t
    | _ => c.1)

/-- The last 23 of a memory and the samples after it (R258). -/
def dpdMemory (hist x : List (Int × Int)) : List (Int × Int) := (hist ++ x).drop ((hist ++ x).length - 23)

/-- The pass on the engine symbol at an air tick completes (R242, R252). (Log: 158 DEDUCED, 226 DESIGN CHOICE) -/
def State.passDone (s : State) (a : Nat) (poison : List Nat) : State :=
  let n := s.engLen a * s.eRate
  let e := s.eng a
  let ps := s.txPaths
  let cfr := ps.map (fun p => (p, s.passCfr a p n))
  let xs : Sparse (List (Int × Int)) := cfr.foldl (fun m c => sparseSet [] m c.1 c.2.1) []
  let ys := ps.map (fun p => (p, s.dpdRun p (s.bankAt p a).1 e.hist xs n))
  let outs := ys.map (fun y => (y.1, s.toneAfter a y.1 (y.2.map (·.1))))
  let out : Sparse (List (Int × Int)) := outs.foldl (fun m y => sparseSet [] m y.1 y.2) []
  let energy : Sparse Nat := outs.foldl (fun m y => sparseSet 0 m y.1 (y.2.map cnorm).sum) []
  let e2 : EngSym := { e with done := true, busy := 0, poisoned := poison, x := xs, out := out, energy := energy }
  let b := s.symNext s.grid a
  let t := s.setEng a e2
  let tails : Sparse (List (Int × Int)) := cfr.foldl (fun m c => sparseSet [] m c.1 c.2.2.1) []
  let hist : Sparse (List (Int × Int)) := ps.foldl (fun m p => sparseSet [] m p (dpdMemory (sparseGet [] e.hist p) (sparseGet [] xs p))) []
  let inter : Sparse (List (Int × Int)) := s.dlCarriers.foldl (fun m c => ps.foldl (fun m p => sparseSet [] m (64 * c + p) (s.carrierSamples c a p)) m) []
  let u := t.setEng b { t.eng b with ckpt := true, tails := tails, hist := hist, inter := inter }
  let v := u.each cfr (fun c u => (u.countBy (R.TXC_CNT_CLIP_n.CLIP c.1) (R.TXC_CNTOVF_n.OVF c.1) 1 c.2.2.2.1).countBy
    (R.TXC_CNT_RESID_n.RESID c.1) (R.TXC_CNTOVF_n.OVF c.1) 2 c.2.2.2.2)
  v.each ys (fun y v => v.countBy (R.DPD_CNT_OSAT_n.OSAT y.1) (R.DPD_CNTOVF_n.OVF y.1) 3 (y.2.filter (·.2)).length)

/-- ENGINE_PASS_DONE (R242, R245): the pass of a window completes; on a voided symbol its output is discarded. `poison` names
the paths whose inputs held a poisoned word (R392). (Log: 5 DESIGN CHOICE) -/
def execEnginePassDone (win : Nat) (poison : List Nat) (s : State) : Out :=
  match s.txc.eng.find? (fun e => e.2.busy == win && win != 0) with
  | none => .next s
  | some e => .next (if e.2.stale then s.setEng e.1 { e.2 with busy := 0, stale := false } else s.passDone e.1 poison)

-- Horizon and recomputation (R236, R243 to R247)

/-- The section's first symbol in its slot, by its air tick (R183); none where no such section stands. -/
def State.firstSym (s : State) (car slotT id : Nat) : Option Nat :=
  match (s.con.sects.filter (fun x => x.dl && x.car == car && x.slotT == slotT && x.id == id && !x.revoked)).map (·.sym) with
  | [] => none
  | k :: l => some (s.symOfSlot car slotT (l.foldl min k))

/-- Held samples go at the horizon of their section's first symbol, and at that of their own: their generation has not become current
(R183, R236). (Log: 247 DEDUCED) -/
def State.dropsAt (s : State) (car t : Nat) (d : HeldData) : Bool :=
  d.car == car && (s.symOfSlot car d.slotT d.sym == t || s.firstSym car d.slotT d.id == some t)

/-- The content of a carrier symbol is final (R197, R183, R225): held data of a generation that is not current is dropped, and
missing data of a replaced section is filled, layers not carried aside (R164). (Log: 70 DEDUCED, 74 DEDUCED, 92 DEDUCED, 155 DEDUCED, 164 DEDUCED) -/
def State.closeSymbol (s : State) (car t : Nat) : State :=
  let drop := s.con.data.filter (s.dropsAt car t)
  let u : State := { s with con := { s.con with data := s.con.data.filter (fun d => !drop.contains d) } }.countBy
    R.LNK_CNT_ORPHAN.ORPHAN R.LNK_PCNTOVF.OVF 6 drop.length
  let short := (u.dlSects car t).filter (fun x => !x.mute && decide (0 < x.gen) && decide ((x.pieces.map (·.num)).sum < x.num)
    && !(u.shedLayers car t).contains x.layer)
  let v := if short.isEmpty then u else
    (u.setSym car t (fun r => { r with filled := true })).countBy R.SHF_CNT_FILL.FILL R.SHF_CNTOVF.OVF 2 short.length
  let r := v.symRec car t
  if r.marked then
    let w := (v.setSym car t (fun r => { r with closed := true, await := true })).winnowFrom t (some t)
    w
  else (v.setSym car t (fun r => { r with closed := true })).defBeamNote car t r.absent

/-- HORIZON (R239, R245): for every carrier symbol that begins with the one the mark names. -/
def execHorizon (a : Act) (s : State) : Out :=
  s.onFire a (fun s =>
    let t := s.actBound a
    s.each (s.dlCarriers.filter (fun c => s.symBegin c t == t)) (fun c u => u.closeSymbol c t))

/-- The weights of a section for a recomputation: from the cache, else from the recompute beam buffer, else the default beam (R246). -/
def State.recomputeWeights (s : State) (car : Nat) (x : Sect) : List (Int × Int) :=
  match x.beam with
  | some id =>
    let buf := sparseGet [] s.txc.rbuf car
    if !s.beamPresent id && buf.contains id then weightsOf (s.granBytes (s.rbufAddr car + 256 * (buf.takeWhile (fun y => y != id)).length) 256)
    else s.sectWeights x
  | none => s.sectWeights x

/-- RECOMPUTE_DONE (R245): the symbol is precoded again from what is held. (Log: 208 DEDUCED, 224 DEDUCED) -/
def execRecomputeDone (car at_ : Nat) (s : State) : Out :=
  if (s.symRec car at_).await then
    let f := s.precode (s.recomputeWeights car) car at_
    .next ((s.setSym car at_ (fun r => { r with await := false, recomputed := true, ready := true, freq := f })).count R.TXC_CNT_RECOMP.RECOMP R.TXC_CNTOVF.OVF 1)
  else .next s

-- Ring read (R248 to R254)

/-- The power-step entry in force for a path at an air tick: PROT_STEP in protection, else the last request, INIT from the START boundary on
(R343, R356). -/
def State.pstepAt (s : State) (p a : Nat) : Nat :=
  let prot := ((s.rfe.prot.filter (fun x => x.path == p && decide (x.at_ ≤ a))).foldl
    (fun (b : Nat × Bool) x => if b.1 ≤ x.at_ then (x.at_, x.on) else b) (0, s.rfe.protOn.contains p)).2
  if prot then s.protStep p
  else ((s.rfe.steps.filter (fun x => x.path == p && !x.fem && decide (x.at_ ≤ a))).foldl
    (fun (b : Nat × Nat) x => if b.1 ≤ x.at_ then (x.at_, x.index) else b) (0, if s.run = runStarting then s.pstepInit else s.get (R.RFE_PATH_n.PSREQ p))).2

/-- 2^128 * 10^(k / 1,000), rounded down. -/
def pow10Milli (k : Nat) : Nat := bitSearch (fun v => decide (v ^ 1000 ≤ 10 ^ k * 2 ^ 128000)) 360 0

/-- The energy of an engine symbol exceeds a limit, in 0.01 dBm, at a full-scale power (R252, R253), exactly. -/
def overLimit (energy samples : Nat) (fs limit : Int) : Bool :=
  decide ((samples * 8191 ^ 2) ^ 1000 * 10 ^ (limit - fs).toNat < energy ^ 1000 * 10 ^ (fs - limit).toNat)

/-- Conducted power in 0.01 dBm (R252), rounded down; `fs` is at least -32,768. (Log: 160 DESIGN CHOICE) -/
def powerCenti (energy samples : Nat) (fs : Int) : Int := logFloor 1000 energy (samples * 8191 ^ 2) + fs

/-- The sum of linear powers, scaled by 2^128, samples and 10^32.768; exact to 2^-120 of itself. -/
def linearSum (l : List (Nat × Int)) : Nat := (l.map (fun x => x.1 * pow10Milli (x.2 + 32768).toNat)).sum

/-- Write a measured power, rounded; where there is no energy the result is free. (Log: 160 DESIGN CHOICE) -/
def State.putPower (s : State) (f : Fld) (energy : Nat) (x : Int) : State :=
  (s.putInt f (if energy = 0 then signed 16 (Config.pick s.free) else x + ((Config.pick s.free % 2 : Nat) : Int))).fresh

/-- A duty entry carries weight for a frame (R254). -/
def DutyFrame.weighs (d : DutyFrame) (frame osc : Nat) : Bool :=
  if d.broken then decide (osc < d.osc + 26000000) else decide (frame < d.frame + 491520000)

/-- A path's transmit time over the last 100 frames and in the current one, what it sent in that frame before a time step included, in
tenths of a tick. (Log: 163 DEDUCED) -/
def dutySecond (l : List DutyFrame) (frame osc : Nat) : Nat := ((l.filter (·.weighs frame osc)).map (·.sent)).sum
def dutyFrame (l : List DutyFrame) (frame : Nat) : Nat := ((l.filter (fun d => d.frame == frame)).map (·.sent)).sum

/-- Add transmit time to the current frame's entry; entries without weight go. (Log: 163 DEDUCED) -/
def dutyAdd (l : List DutyFrame) (frame osc len : Nat) : List DutyFrame :=
  let m := l.filter (·.weighs frame osc)
  match m with
  | d :: r => if d.frame = frame ∧ !d.broken then { d with sent := d.sent + 10 * len } :: r else ⟨frame, osc, 10 * len, false⟩ :: m
  | [] => [⟨frame, osc, 10 * len, false⟩]

/-- Registers TXC_PATHSTAT_n and TXC_DUTY_n as a read returns them at a tick (R255): the mute causes in force for the engine symbol at
the balls, bit 3 the regulatory one, and the transmit time of the current frame and of the last 100, in 0.1 % units, whose rounding the
spec leaves open. (Log: 249 DEDUCED) -/
def State.muteShown (s : State) (p : Nat) : Nat :=
  if !s.used p then 0 else
    let a := s.symBegin s.grid s.tick
    let m := s.mutesAt a
    m % 8 + if m = 0 ∧ (sparseGet {} s.txc.eng a).muted.contains p then 8 else 0

def State.dutyShown (s : State) (p : Nat) : Word :=
  let l := sparseGet [] s.vaon.duty p
  let f := s.frameStart s.tick
  BitVec.ofNat 32 (s.figure 10 (dutyFrame l f * 1000 / (10 * frameTicks) : Nat)
    + s.figure 10 (dutySecond l f s.vaon.osc * 1000 / (1000 * frameTicks) : Nat) * 2 ^ 16)

/-- A path's symbol is zeroed by a test of R253. (Log: 43 DEDUCED, 162 DEDUCED) -/
def State.regulate (s : State) (p test : Nat) : State :=
  let t := (s.count (R.TXC_CNT_REG_n.REG p) (R.TXC_CNTOVF_n.OVF p) 0).setBit (R.TXC_PATHSTAT_n.MUTE p) 3
  match test with
  | 0 => (t.put (R.TXC_PATHSTAT_n.PWR_LIMIT p) 1).alarm 0x0013 2 p
  | 1 => t
  | 2 => (t.put (R.TXC_PATHSTAT_n.DUTY10 p) 1).alarm 0x0013 2 (p + 2 * 256)
  | _ => (t.put (R.TXC_PATHSTAT_n.DUTY1S p) 1).alarm 0x0013 2 (p + 3 * 256)

/-- The DAC of a path is in the quiet state for the engine symbol at an air tick, judged by what is fixed for that tick: the START
boundary, and DAC_QUIET and DAC_ACTIVE up to it (R253, R320). (Log: 250 DEDUCED) -/
def State.quietAt (s : State) (p a : Nat) : Bool :=
  let l := s.cnv.pend.filter (fun x => x.path == p && (x.op == 2 || x.op == 3) && decide (x.at_ ≤ a))
  let active := match l with
    | [] => s.cnv.active.contains p || (s.run == runStarting && s.used p && decide (s.shf.startAt ≤ a))
    | x :: r => (r.foldl (fun b y => if b.at_ ≤ y.at_ then y else b) x).op == 3 && s.used p
  !active || s.cnv.held.contains (chipOf p)

/-- The tests of R253 on the paths that would send: the paths each zeroes, with its test number. (Log: 162 DEDUCED) -/
def State.regTests (s : State) (a : Nat) (ps : List Nat) : List (Nat × Nat) :=
  let e := s.eng a
  let env := s.envelope
  let n := s.engLen a * s.eRate
  let len := s.engLen a
  let frame := s.frameStart a
  let en (p : Nat) : Nat := sparseGet 0 e.energy p
  let fs (p : Nat) : Int := s.fsDbm (s.pstepAt p a) p
  let t0 := ps.filter (fun p => overLimit (en p) n (fs p) (envPPath env p))
  let r := ps.filter (fun p => !t0.contains p)
  let tot := decide (n * 8191 ^ 2 * pow10Milli (envPTotal env + 32768).toNat < linearSum (r.map (fun p => (en p, fs p))))
  if tot then t0.map (fun p => (p, 0)) ++ r.map (fun p => (p, 1))
  else
    t0.map (fun p => (p, 0)) ++ r.filterMap (fun p =>
      let l := sparseGet [] s.vaon.duty p
      if envDuty10 env * (10 * frameTicks) < (dutyFrame l frame + 10 * len) * 1000 then some (p, 2)
      else if envDuty1s env * (1000 * frameTicks) < (dutySecond l frame s.vaon.osc + 10 * len) * 1000 then some (p, 3)
      else none)

/-- A chiplet's symbols stay from the DAC for a calibration overrun or a loss of lock (R335, R340). -/
def State.chipLate (s : State) (k a : Nat) : Bool :=
  decide (a < sparseGet 0 s.txc.zeroUntil k) || (s.calChip k).unlocked
    || (match (s.calChip k).run with | some r => r.overrun || r.forLock | none => false)

/-- Keep what a capture or a report can still ask for. (Log: 161 DESIGN CHOICE) -/
def State.ringPrune (s : State) (a : Nat) : State :=
  { s with txc := { s.txc with
      eng := s.txc.eng.filter (fun e => decide (a ≤ e.1 + 2 * subTicks)),
      syms := s.txc.syms.filter (fun r => decide (a ≤ r.1 / 4 + 10 * subTicks)),
      zeroed := s.txc.zeroed.filter (fun z => decide (a ≤ z.2 + 2 * subTicks)) } }

/-- The ring read of the engine symbol at an air tick. (Log: 162 DEDUCED, 278 DESIGN CHOICE) -/
def State.ringRead (s : State) (a : Nat) : State :=
  let e := s.eng a
  let ps := s.txPaths
  let n := s.engLen a * s.eRate
  let mutes := s.mutesAt a
  let late := ps.filter (fun p => !e.done || e.poisoned.contains p || s.chipLate (chipOf p) a)
  let quiet := ps.filter (fun p => s.quietAt p a)
  let cand := if mutes = 0 then ps.filter (fun p => !late.contains p && !quiet.contains p) else []
  let reg := s.regTests a cand
  let zero (p : Nat) : Bool := !cand.contains p || reg.any (fun r => r.1 == p)
  let measured := if e.done then ps else []
  let fs (p : Nat) : Int := s.fsDbm (s.pstepAt p a) p
  let en (p : Nat) : Nat := sparseGet 0 e.energy p
  -- measurement, before the tests
  let t := s.each (measured.filter (fun p => s.flag (R.TXC_PATHCTL_n.PWR_MON p))) (fun p t => t.putPower (R.TXC_PATHPWR_n.PWR p) (en p) (powerCenti (en p) n (fs p)))
  let t := if measured = [] then t else
    let sum := linearSum (measured.map (fun p => (en p, fs p)))
    t.putPower R.TXC_TOTPWR.PWR sum (logFloor 1000 sum (n * 8191 ^ 2 * 2 ^ 128) - 32768)
  -- mute causes and tests
  let t := t.each ps (fun p t => t.put (R.TXC_PATHSTAT_n.MUTE p) mutes)
  let t := t.each reg (fun r t => t.regulate r.1 r.2)
  let t := if reg.any (fun r => r.2 == 1) then (t.put R.TXC_TOTPWR.TOT_LIMIT 1).alarm 0x0013 2 (0xFF + 256) else t
  -- duty
  let frame := s.frameStart a
  let t := t.each ps (fun p t =>
    let l := sparseGet [] t.vaon.duty p
    let m := if zero p then l.filter (·.weighs frame t.vaon.osc) else dutyAdd l frame t.vaon.osc (s.engLen a)
    { t with vaon := { t.vaon with duty := sparseSet [] t.vaon.duty p m } })
  -- what leaves, and the flags
  let held := ps.filter (fun p => mutes != 0 || reg.any (fun r => r.1 == p))
  let t := t.each s.dlCarriers (fun c t => t.setSym c (s.symBegin c a) (fun r => { r with late := r.late || late != [], muted := r.muted || held != [] }))
  let t := t.setEng a { e with played := true, muted := held, late := late, sent := ps.filter (fun p => !zero p) }
  let t := t.each ps (fun p t => t.showBank p (t.opptAt p a))
  ({ t with txc := { t.txc with dac := (ps.filter (fun p => !zero p)).foldl (fun m p => sparseSet [] m p (sparseGet [] e.out p)) [] } }).ringPrune a

/-- PLAYOUT (R239, R248): the ring read of an engine symbol begins; `osc` is the count of the always-on oscillator (R254). -/
def execPlayout (a : Act) (osc : Nat) (s : State) : Out :=
  s.onFire a (fun s => { s with vaon := { s.vaon with osc := osc } }.ringRead (s.actBound a))

-- What apply and START do

/-- What apply sets in the transmit registers (R255). -/
def State.txcApply (s : State) : State :=
  let b := s.record 2
  let t := ((s.put R.TXC_RUNAHEAD.DEPTH (leAt b 0 1)).put R.TXC_RUNAHEAD.ERATE (leAt b 1 1)).put R.TXC_RUNAHEAD.GRID (leAt b 2 1)
  let u := if b = [] then (t.put R.TXC_TSLOT.T 0).put R.TXC_HLEAD.HLEAD 0
    else (t.put R.TXC_TSLOT.T (engWin (t.scs t.grid))).put R.TXC_HLEAD.HLEAD t.hlead
  u.put R.TXC_BUDGET.BUDGET (((List.range 4).map (fun c => u.budget c * 16 ^ c)).sum)

/-- The beam cache holds the default beam alone (R223, R136). -/
def State.beamStart (s : State) : State :=
  let d := s.defBeam
  { s with txc := { s.txc with tags := [], pinned := some d } }.setBeam d ((s.sect 9).drop 4)

/-- START: zero checkpoints, empty ring and budgets (R136, R250). (Log: 93 DEDUCED) -/
def State.txcStart (s : State) : State :=
  { s with txc := { s.txc with eng := [], syms := s.txc.syms.filter (fun e => decide (s.shf.startAt ≤ e.1 / 4)), rbuf := [], sel := [], spent := [], zeroed := [], restart := true, gap := false } }

end Sys2Proof.Machine
end

