-- ==== Sys2Proof/Machine/Content.lean ====
section
/-! DEFINITION. Content from the host: sections and their amendment (R187 to R189, R195 to R199, R243), samples and partial sums (R182,
R183, R299), beams (R190, R226), power steps and FEM states (R191), tine weights (R192, R361), sounding requests (R193, R305). -/

namespace Sys2Proof.Machine

-- C-plane messages

/-- A C-plane message after checks 1 to 6: body checks, run state, what depends on the sheaf, the window; then `act`. -/
def State.cplane (s : State) (typ : Nat) (m : Msg) (body : List (Option (Nat × Nat))) (sheaf : State → List (Option (Nat × Nat)))
    (window : State → Option (Nat × Nat)) (act : State → State) : State :=
  match s.rx 2 typ m with
  | .done t => t
  | .take t =>
    let a := m.asker 2 typ
    match firstFail body with
    | some r => t.nackAt a r.1 r.2
    | none =>
      match firstFail (t.airChecks m.air ++ sheaf t ++ [window t]) with
      | some r => t.refuseC a r
      | none => act t

/-- The effect of a message once its semantic checks pass: POS, the effect, the ACK it asks for. (Log: 79 DESIGN CHOICE) -/
def State.accept (s : State) (plane typ : Nat) (m : Msg) (sem : List (Option (Nat × Nat))) (eff : State → State) : State :=
  match firstFail sem with
  | some r => s.refuseC (m.asker plane typ) r
  | none => (eff (s.passed plane m)).ackIf plane typ m false 0

/-- Tick 0 of the slot that an AIRREF names. -/
def State.airSlotTick (s : State) (a : BitVec 32) : Nat :=
  s.airTick a - (symStart (s.scs (airCar a)) (airSlot a) (airSym a) - symStart (s.scs (airCar a)) (airSlot a) 0)

/-- The horizon of the carrier symbol that begins at a tick (R236). -/
def State.horizonOf (s : State) (a : Nat) : Nat := a - s.get R.TXC_HLEAD.HLEAD

-- Section entries (R188, R195)

/-- Entry `i` of a DL_SECTIONS, UL_SECTIONS or AMEND. -/
def entryAt (b : List Byte) (i : Nat) : List Byte := (b.drop (4 + 16 * i)).take 16

/-- Message offset of a field of entry `i`. -/
def entryOff (i f : Nat) : Nat := 20 + 16 * i + f

/-- The ranges of one entry that do not depend on the sheaf. (Log: 73 DEDUCED) -/
def entryChecks (flags i : Nat) (e : List Byte) : List (Option (Nat × Nat)) :=
  [chk (decide (leAt e 0 2 ≤ 4095)) rcRange (entryOff i 0), chk (decide (1 ≤ leAt e 4 2)) rcRange (entryOff i 4),
   chk (decide (leAt e 7 1 ≤ 3)) rcRange (entryOff i 7), chk (decide (leAt e 8 4 < 2 ^ 19)) rcRange (entryOff i 8),
   chk (decide (-48 ≤ signed 8 (leAt e 12 1) ∧ signed 8 (leAt e 12 1) ≤ 0)) rcRange (entryOff i 12),
   chk (decide (leAt e 13 1 ≤ flags)) rcRange (entryOff i 13), chk (zeroAt e 14 2) rcRange (entryOff i 14)]

/-- The 4-byte prefix, with its count from `lo` to 64, and what the message's length follows from. -/
def prefixChecks (m : Msg) (lo : Nat) : List (Option (Nat × Nat)) :=
  [chk (decide (1 ≤ leAt m.body 0 1 ∧ leAt m.body 0 1 + airSym m.air ≤ 14)) rcRange 16,
   chk (decide (lo ≤ leAt m.body 1 1 ∧ leAt m.body 1 1 ≤ 64)) rcRange 17, chk (zeroAt m.body 2 2) rcRange 18]

/-- Checks of a field or entry that ends at body byte `hi`; one that the message is too short to hold fails by LEN_W alone. (Log: 63 DEDUCED) -/
def Msg.within (m : Msg) (hi : Nat) (l : List (Option (Nat × Nat))) : List (Option (Nat × Nat)) := if hi ≤ m.body.length then l else []

/-- Check 7 of a message of section entries. (Log: 63 DEDUCED) -/
def sectionBody (m : Msg) (flags : Nat) : List (Option (Nat × Nat)) :=
  let n := leAt m.body 1 1
  prefixChecks m 1 ++ (List.range (min n 64)).flatMap (fun i => m.within (20 + 16 * i) (entryChecks flags i (entryAt m.body i))) ++ [m.lenIs (4 + 16 * n)]

/-- Check 9 of its entries: PRB range and layer on the carrier. -/
def State.sectionSheaf (s : State) (m : Msg) (layers : Nat) : List (Option (Nat × Nat)) :=
  let n := s.nPrb (airCar m.air)
  (List.range (leAt m.body 1 1)).flatMap (fun i =>
    let e := entryAt m.body i
    [chk (decide (leAt e 2 2 < n)) rcRange (entryOff i 2), chk (decide (leAt e 2 2 + leAt e 4 2 ≤ n)) rcRange (entryOff i 4),
     chk (decide (leAt e 6 1 < layers)) rcLayer (entryOff i 6)])

/-- The section of an entry on a symbol. -/
def sectOf (dl : Bool) (car slotT sym gen : Nat) (e : List Byte) : Sect :=
  { dl := dl, car := car, slotT := slotT, sym := sym, id := leAt e 0 2, start := leAt e 2 2, num := leAt e 4 2, layer := leAt e 6 1,
    fmt := leAt e 7 1, beam := if bit (leAt e 8 4) 18 then none else some (leAt e 8 4 % 2 ^ 18), gain := signed 8 (leAt e 12 1),
    mute := bit (leAt e 13 1) 0, gen := gen, revoked := false, pieces := [] }

/-- Two sections share a PRB of a layer. -/
def Sect.meets (x y : Sect) : Bool := x.layer == y.layer && decide (x.start < y.start + y.num ∧ y.start < x.start + x.num)

/-- The sections of a carrier's slot and direction that stand: a revoked one does not. (Log: 76 DEDUCED) -/
def State.slotSects (s : State) (dl : Bool) (car slotT : Nat) : List Sect :=
  s.con.sects.filter (fun x => x.dl == dl && x.car == car && x.slotT == slotT && !x.revoked)

/-- R189 for entry `i`: its PRBs against the sections of `stand` on the symbols covered and against the earlier entries. (Log: 72 DEDUCED) -/
def overlapCheck (stand : List Sect) (syms : List Nat) (news : List Sect) (i : Nat) : Option (Nat × Nat) :=
  match news.drop i with
  | [] => none
  | e :: _ => chk (!(stand.any (fun x => syms.contains x.sym && x.meets e)) && !((news.take i).any (fun x => x.meets e))) rcOverlap (entryOff i 2)

/-- R189: more than 1,024 sections on a symbol in one direction. (Log: 72 DEDUCED) -/
def limitCheck (stand : List Sect) (syms : List Nat) (n : Nat) : Option (Nat × Nat) :=
  chk (syms.all (fun k => decide ((stand.filter (fun x => x.sym == k)).length + n ≤ 1024))) rcLimit 17

/-- The symbols that a message covers. -/
def coveredSyms (m : Msg) : List Nat := (List.range (leAt m.body 0 1)).map (· + airSym m.air)

/-- Put sections in place of any of the same carrier, symbol, direction and SECT_ID. -/
def State.putSects (s : State) (l : List Sect) : State :=
  let same (x y : Sect) : Bool := x.dl == y.dl && x.car == y.car && x.slotT == y.slotT && x.sym == y.sym && x.id == y.id
  { s with con := { s.con with sects := s.con.sects.filter (fun x => !l.any (same x)) ++ l } }

-- DL_DATA (R183)

/-- The tests of samples against their section, in field order. -/
def pieceChecks (x : Sect) (d : HeldData) : List (Option (Nat × Nat)) :=
  let lo := d.piece.start
  let hi := lo + d.piece.num
  [chk (decide (x.start ≤ lo ∧ lo < x.start + x.num)) rcOverlap 18, chk (decide (hi ≤ x.start + x.num)) rcOverlap 20,
   chk (x.pieces.all (fun p => decide (hi ≤ p.start ∨ p.start + p.num ≤ lo))) rcOverlap 18,
   chk (d.layer == x.layer) rcRange 22, chk (d.fmt == x.fmt) rcFormat 23]

/-- The section is the one that samples name, on their symbol. -/
def HeldData.names (d : HeldData) (x : Sect) : Bool := x.dl && x.car == d.car && x.slotT == d.slotT && x.sym == d.sym && x.id == d.id

/-- Why samples whose section and generation are known are refused; none where they are not known, or fit. -/
def State.dataRefusal (s : State) (d : HeldData) : Option (Nat × Nat) :=
  match s.con.sects.find? (fun x => d.names x && !x.revoked) with
  | some x => if x.gen = d.gen then firstFail (pieceChecks x d) else none
  | none => none

/-- Place samples with their section, hold them until it or their generation is known, or discard them. (Log: 74 DEDUCED, 76 DEDUCED, 77 DEDUCED, 78 DEDUCED) -/
def State.placeData (s : State) (d : HeldData) : State :=
  let hold : State := { s with con := { s.con with data := s.con.data ++ [d] } }
  let orphan : State := s.count R.LNK_CNT_ORPHAN.ORPHAN R.LNK_PCNTOVF.OVF 6
  match s.con.sects.find? (fun x => d.names x && !x.revoked) with
  | some x =>
    if x.gen < d.gen then hold
    else if d.gen < x.gen then orphan
    else match s.dataRefusal d with
      | some r => s.nackAt d.asker r.1 r.2
      | none =>
        let t : State := { s with con := { s.con with sects := s.con.sects.map (fun y => if y = x then { y with pieces := y.pieces ++ [d.piece] } else y) } }
        if d.ackReq then t.ack d.asker else t
  | none =>
    if s.con.sects.any d.names then s
    else if d.gen = 0 ∧ ((s.symOfSlot d.car d.slotT d.sym : Nat) : Int) - (s.window d.car 0).2 < (s.tick : Int) then orphan
    else hold

/-- Sections or generations of a carrier's symbols are known: what was held for them is tested and placed. (Log: 78 DEDUCED) -/
def State.releaseData (s : State) (car slotT : Nat) (syms : List Nat) : State :=
  let l := s.con.data.filter (fun d => d.car == car && d.slotT == slotT && syms.contains d.sym)
  ({ s with con := { s.con with data := s.con.data.filter (fun d => !l.contains d) } }).each l (fun d t => t.placeData d)

/-- The exponent bytes of a run of PRBs in a format are in range. -/
def exponentChecks (b : List Byte) (fmt n : Nat) : List (Option (Nat × Nat)) :=
  if fmt = 0 then [] else (List.range n).map (fun i => chk (decide (leAt b (16 + i * prbBytes fmt) 1 ≤ maxExp fmt)) rcRange (32 + i * prbBytes fmt))

/-- Check 7 of the 16-byte body header of R182 and of the PRBs that follow; `host` is a DL_DATA, whose status fields are 0. (Log: 63 DEDUCED, 73 DEDUCED) -/
def sampleBody (m : Msg) (host : Bool) : List (Option (Nat × Nat)) :=
  let b := m.body
  let fmt := leAt b 7 1
  let n := leAt b 4 2
  [chk (decide (leAt b 0 2 ≤ 4095)) rcRange 16, chk (decide (1 ≤ n)) rcRange 20, chk (fmtKnown fmt) rcRange 23,
   chk (if host then leAt b 8 1 == 0 || decide (2 ≤ m.rev) else leAt b 8 1 == 0) rcRange 24,
   chk (decide (leAt b 9 1 ≤ if host then 0 else 31)) rcRange 25, chk (!host || leAt b 10 2 == 0) rcRange 26,
   chk (decide (leAt b 12 1 ≤ if host then 0 else 15)) rcRange 28, chk (zeroAt b 13 3) rcRange 29, m.lenIs (16 + n * prbBytes fmt)]
    ++ (if 16 + n * prbBytes fmt ≤ b.length then exponentChecks b fmt n else [])

/-- Check 9 of samples: PRB range, layer, and a format that the type and revision allow. (Log: 73 DEDUCED) -/
def State.sampleSheaf (s : State) (m : Msg) (layers : Nat) (allowed : Nat → Bool) : List (Option (Nat × Nat)) :=
  let b := m.body
  let n := s.nPrb (airCar m.air)
  [chk (decide (leAt b 2 2 < n)) rcRange 18, chk (decide (leAt b 2 2 + leAt b 4 2 ≤ n)) rcRange 20,
   chk (decide (leAt b 6 1 < layers)) rcLayer 22, chk (allowed (leAt b 7 1)) rcFormat 23]

/-- The window of a DL_DATA: that of R128 for generation 0; a later one is accepted up to the tick before the horizon (R197). -/
def State.dataWindow (s : State) (m : Msg) : Option (Nat × Nat) :=
  let car := airCar m.air
  let a := s.airTick m.air
  if leAt m.body 8 1 = 0 then s.windowCheck car 1 a
  else if (s.tick : Int) < (a : Int) - (s.window car 1).1 then some (rcEarly, noField)
  else if s.horizonOf a ≤ s.tick then some (rcHorizon, noField)
  else none

/-- DL_DATA (R181 to R183). -/
def execDlData (m : Msg) (s : State) : Out :=
  match s.rx 3 0x01 m with
  | .done t => .next t
  | .take t =>
    let a := m.asker 3 0x01
    let car := airCar m.air
    match firstFail (sampleBody m true) with
    | some r => .next (t.nackAt a r.1 r.2)
    | none =>
      match firstFail (t.airChecks m.air ++ t.sampleSheaf m (t.dlLayers car) (fun f => decide (f ≤ 3)) ++ [t.dataWindow m]) with
      | some r => .next (t.refuseU a r)
      | none =>
        let b := m.body
        let n := leAt b 4 2
        let d : HeldData := ⟨a, m.ackReq, car, t.airSlotTick m.air, airSym m.air, leAt b 0 2, leAt b 8 1, leAt b 6 1, leAt b 7 1,
          ⟨leAt b 2 2, n, (b.drop 16).take (n * prbBytes (leAt b 7 1))⟩⟩
        .next ((if (t.dataRefusal d).isNone then t.passed 3 m else t).placeData d)

-- Sections (R188, R189)

/-- DL_SECTIONS and UL_SECTIONS. (Log: 72 DEDUCED, 79 DESIGN CHOICE) -/
def State.sections (s : State) (dl : Bool) (m : Msg) : State :=
  let typ := if dl then 0x01 else 0x02
  let car := airCar m.air
  s.cplane typ m (sectionBody m 1)
    (fun t => t.sectionSheaf m (if dl then t.dlLayers car else t.ulLayers car))
    (fun t => t.windowCheck car (if dl then 0 else 2) (t.airTick m.air))
    (fun t =>
      let slotT := t.airSlotTick m.air
      let syms := coveredSyms m
      let n := leAt m.body 1 1
      let news := (List.range n).map (fun i => sectOf dl car slotT (airSym m.air) 0 (entryAt m.body i))
      let stand := t.slotSects dl car slotT
      let dup (i : Nat) : Option (Nat × Nat) :=
        match news.drop i with
        | [] => none
        | e :: _ => chk (!(stand.any (fun x => x.id == e.id)) && !((news.take i).any (fun x => x.id == e.id))) rcDup (entryOff i 0)
      t.accept 2 typ m ((List.range n).flatMap (fun i => [dup i, overlapCheck stand syms news i]) ++ [limitCheck stand syms n])
        (fun t =>
          let u := t.putSects (syms.flatMap (fun k => news.map (fun x => { x with sym := k })))
          if dl then u.releaseData car slotT syms else u))

/-- DL_SECTIONS. -/
def execDlSections (m : Msg) (s : State) : Out := .next (s.sections true m)

/-- UL_SECTIONS. -/
def execUlSections (m : Msg) (s : State) : Out := .next (s.sections false m)

-- Amendment (R195 to R199, R243)

/-- Check 10 of an AMEND or REVOKE: the opening of the downlink C-plane window, and the horizon of the first symbol, which is the
earliest of those covered. -/
def State.amendWindow (s : State) (m : Msg) : Option (Nat × Nat) :=
  let a := s.airTick m.air
  if (s.tick : Int) < (a : Int) - (s.window (airCar m.air) 0).1 then some (rcEarly, noField)
  else if s.horizonOf a ≤ s.tick then some (rcHorizon, noField)
  else none

/-- Ticks of the symbols covered. -/
def State.coveredTicks (s : State) (m : Msg) : List Nat := (coveredSyms m).map (s.symOfSlot (airCar m.air) (s.airSlotTick m.air))

/-- The symbols that the message would newly mark: their first precoding has begun, and they are not marked yet (R243). -/
def State.newlyMarked (s : State) (m : Msg) : List Nat :=
  (s.coveredTicks m).filter (fun a => let r := s.symRec (airCar m.air) a; r.begun && !r.marked)

/-- The amendment budget that is left in the slot. -/
def State.budgetLeft (s : State) (m : Msg) : Nat :=
  s.budget (airCar m.air) - sparseGet 0 s.txc.spent (symKey (airCar m.air) (s.airSlotTick m.air))

/-- The cost fits what is left of the slot's budget. -/
def State.budgetCheck (s : State) (m : Msg) : Option (Nat × Nat) := chk (decide ((s.newlyMarked m).length ≤ s.budgetLeft m)) rcBudget noField

/-- What an accepted AMEND or REVOKE does beside its sections: marks, budget, AMENDED, its count (R243, R255). -/
def State.amended (s : State) (m : Msg) : State :=
  let car := airCar m.air
  let key := symKey car (s.airSlotTick m.air)
  let new := s.newlyMarked m
  let t := { s with txc := { s.txc with spent := sparseSet 0 s.txc.spent key (sparseGet 0 s.txc.spent key + new.length) } }
  (t.each (s.coveredTicks m) (fun a t => t.setSym car a (fun r => { r with amended := true, marked := r.marked || r.begun }))).count
    R.TXC_CNT_AMEND.AMEND R.TXC_CNTOVF.OVF 0

/-- AMEND (R195 to R197): the conditions of R196 in their order, then the entries take generation n. (Log: 92 DEDUCED) -/
def execAmend (m : Msg) (s : State) : Out :=
  let car := airCar m.air
  .next (s.cplane 0x04 m (sectionBody m 7) (fun t => t.sectionSheaf m (t.dlLayers car)) (fun t => t.amendWindow m) (fun t =>
    let slotT := t.airSlotTick m.air
    let syms := coveredSyms m
    let n := leAt m.body 1 1
    let key := symKey car slotT
    let gen := sparseGet 0 t.con.gens key + 1
    let flags (i : Nat) : Nat := leAt (entryAt m.body i) 13 1
    let news := (List.range n).map (fun i => sectOf true car slotT (airSym m.air) gen (entryAt m.body i))
    let at_ (i : Nat) : Sect := (news.drop i).head?.getD (sectOf true car slotT 0 gen [])
    let all := t.slotSects true car slotT
    let olds (id : Nat) : List Sect := all.filter (fun x => x.id == id && syms.contains x.sym)
    let target (i : Nat) : Option (Nat × Nat) :=
      let id := (at_ i).id
      if (news.take i).any (fun x => x.id == id) then some (rcDup, entryOff i 0)
      else if bit (flags i) 1 then chk (!all.any (fun x => x.id == id)) rcDup (entryOff i 0)
      else chk (syms.all (fun k => all.any (fun x => x.id == id && x.sym == k))) rcNoTarget (entryOff i 0)
    let removed := ((List.range n).filter (fun i => !bit (flags i) 1)).map (fun i => (at_ i).id)
    let stand := all.filter (fun x => !(removed.contains x.id && syms.contains x.sym))
    let keep (i : Nat) : Option (Nat × Nat) :=
      let e := at_ i
      chk (!bit (flags i) 2 || (!bit (flags i) 1 &&
        (olds e.id).all (fun x => x.layer == e.layer && x.start == e.start && x.num == e.num && x.fmt == e.fmt))) rcRange (entryOff i 13)
    let idx := List.range n
    match firstFail (idx.map target ++ idx.map (overlapCheck stand syms news) ++ [limitCheck stand syms n] ++ idx.map keep
        ++ [t.budgetCheck m, chk (decide (gen ≤ 255)) rcBudget noField]) with
    | some r => t.refuseC (m.asker 2 0x04) r
    | none =>
      let data (i k : Nat) : List Piece := if bit (flags i) 2 then ((olds (at_ i).id).filter (fun x => x.sym == k)).flatMap (·.pieces) else []
      let u := (t.passed 2 m).amended m
      let v := { u with con := { u.con with gens := sparseSet 0 u.con.gens key gen } }.putSects
        (syms.flatMap (fun k => idx.map (fun i => { at_ i with sym := k, pieces := data i k })))
      (v.ackIf 2 0x04 m true (gen + u.budgetLeft m % 256 * 256)).releaseData car slotT syms))

/-- REVOKE (R198): revoked sections send nothing, and what is held for them goes. (Log: 76 DEDUCED) -/
def execRevoke (m : Msg) (s : State) : Out :=
  let car := airCar m.air
  let n := leAt m.body 1 1
  let ids := (List.range n).map (fun i => leAt m.body (4 + 2 * i) 2)
  .next (s.cplane 0x05 m
    (prefixChecks m 0 ++ (List.range (min n 64)).flatMap (fun i => m.within (6 + 2 * i) [chk (decide (leAt m.body (4 + 2 * i) 2 ≤ 4095)) rcRange (20 + 2 * i)]) ++ [m.lenIs (4 + 2 * n)])
    (fun _ => []) (fun t => t.amendWindow m) (fun t =>
      let slotT := t.airSlotTick m.air
      let syms := coveredSyms m
      let all := t.slotSects true car slotT
      match firstFail ((List.range n).map (fun i =>
          chk (syms.all (fun k => all.any (fun x => x.id == leAt m.body (4 + 2 * i) 2 && x.sym == k))) rcNoTarget (20 + 2 * i)) ++ [t.budgetCheck m]) with
      | some r => t.refuseC (m.asker 2 0x05) r
      | none =>
        let hit (x : Sect) : Bool := x.dl && x.car == car && x.slotT == slotT && syms.contains x.sym && (n == 0 || ids.contains x.id)
        let gone (d : HeldData) : Bool := all.any (fun x => hit x && x.sym == d.sym && x.id == d.id && d.car == car && d.slotT == slotT)
        let u := (t.passed 2 m).amended m
        { u with con := { u.con with
            sects := u.con.sects.map (fun x => if hit x then { x with revoked := true, pieces := [] } else x)
            data := u.con.data.filter (fun d => !gone d) } }.ackIf 2 0x05 m true (u.budgetLeft m % 256 * 256)))

-- Beams (R190, R223, R226)

/-- BEAM_WRITE: TARGET bit 0 the cache, from the FETCH of the symbol named; bit 1 the library, at once. `link` are the link-ECC errors that
the library write meets, of which an uncorrectable one refuses it as a failed DRAM does (R407). (Log: 80 DEDUCED, 81 DEDUCED) -/
def execBeamWrite (m : Msg) (s : State) (link : LinkErrs := []) : Out :=
  let n := leAt m.body 0 1
  let target := leAt m.body 1 1
  let id (i : Nat) : Nat := leAt m.body (4 + 260 * i) 4
  let w (i : Nat) : List Byte := (m.body.drop (8 + 260 * i)).take 256
  let idx := List.range (min n 16)
  let body := [chk (decide (1 ≤ n ∧ n ≤ 16)) rcRange 16, chk (decide (1 ≤ target ∧ target ≤ 3)) rcRange 17, chk (zeroAt m.body 2 2) rcRange 18]
    ++ idx.flatMap (fun i => m.within (8 + 260 * i) [chk (decide (id i < 2 ^ 18)) rcRange (20 + 260 * i)]) ++ [m.lenIs (4 + 260 * n)]
  let act (t : State) : State :=
    let a := t.airTick m.air
    let cache := idx.map (fun i => chk (!bit target 0 || !t.beamPinned (id i) || t.txc.pinned == some (id i)) rcRange (20 + 260 * i))
    let t := if bit target 1 && !t.dramFailed && linkBad link then t.dramReq.linkMeets link else t
    t.accept 2 0x03 m (cache ++ [chk (!bit target 1 || !(t.dramFailed || linkBad link)) rcDram noField]) (fun t =>
      let u := if bit target 1 then (t.dramReq.linkMeets link).each idx (fun i t => t.setDram (id i * 256) (w i)) else t
      if bit target 0 then { u with con := { u.con with beams := u.con.beams ++ idx.map (fun i => ⟨a, id i, w i, airCar m.air⟩) } } else u)
  if bit target 0 then
    .next (s.cplane 0x03 m body (fun _ => []) (fun t => t.windowCheck (airCar m.air) 3 (t.airTick m.air)) act)
  else
    match s.rx 2 0x03 m with
    | .done t => .next t
    | .take t =>
      match firstFail body with
      | some r => .next (t.nackAt (m.asker 2 0x03) r.1 r.2)
      | none => .next (act t)

-- Power steps and FEM states (R191, R342 to R344, R346)

/-- The paths that a PATHS field names. -/
def namedPaths (b : List Byte) : List Nat := maskList (leAt b 0 8) 64

/-- A POWER_STEP or FEM_STATE: `bad` is the check of INDEX against the sheaf, `sem` the last check. (Log: 68 DEDUCED) -/
def State.frontMsg (s : State) (typ : Nat) (m : Msg) (fem : Bool) (top : Nat) (bad : State → Bool) (sem : State → List (Option (Nat × Nat))) : State :=
  let i := leAt m.body 8 1
  s.cplane typ m [chk (decide (i ≤ top)) rcRange 24, chk (zeroAt m.body 9 7) rcRange 25]
    (fun t => [chk ((namedPaths m.body).all (fun p => decide (p < t.part.paths))) rcFeature 16, chk (!bad t) rcRange 24])
    (fun t => t.windowCheck (airCar m.air) 0 (t.airTick m.air))
    (fun t =>
      let a := t.airTick m.air
      t.accept 2 typ m (sem t) (fun t =>
        { t with rfe := { t.rfe with steps := t.rfe.steps ++ (namedPaths m.body).map (fun p => ⟨p, a, fem, i⟩) } }))

/-- POWER_STEP: INDEX below COUNT, and within the regulatory envelope on every path named. -/
def execPowerStep (m : Msg) (s : State) : Out :=
  let i := leAt m.body 8 1
  .next (s.frontMsg 0x06 m false 63 (fun t => decide (t.pstepCount ≤ i)) (fun t =>
    [chk ((namedPaths m.body).all (fun p => decide (t.fsDbm i p ≤ envFsMax t.envelope p))) rcEnvelope 24]))

/-- FEM_STATE: refused without a FEMTAB record. -/
def execFemState (m : Msg) (s : State) : Out := .next (s.frontMsg 0x07 m true 15 (fun t => !t.hasFemtab) (fun _ => []))

-- Tine weights (R192, R361)

/-- Chips held for a chain and boundary. -/
def State.chipsHeld (s : State) (chain a : Nat) : Nat :=
  ((s.rfe.tineHeld.filter (fun x => x.chain == chain && x.at_ == a)).map (fun x => x.words.length / 16)).sum

/-- TINE_WEIGHTS: held for the SEND of its chain and boundary; bits [15:13] of an element word are 0 (R358). (Log: 68 DEDUCED) -/
def execTineWeights (m : Msg) (s : State) : Out :=
  let chain := leAt m.body 0 1
  let first := leAt m.body 2 2
  let n := leAt m.body 4 2
  .next (s.cplane 0x08 m
    ([chk (decide (chain ≤ 15)) rcRange 16, chk (zeroAt m.body 1 1) rcRange 17, chk (decide (first ≤ 511)) rcRange 18,
      chk (decide (1 ≤ n ∧ first + n ≤ 512)) rcRange 20, chk (zeroAt m.body 6 2) rcRange 22]
      ++ (List.range (16 * min n 512)).flatMap (fun i => m.within (10 + 2 * i) [chk (decide (leAt m.body (8 + 2 * i) 2 < 2 ^ 13)) rcRange (24 + 2 * i)])
      ++ [m.lenIs (8 + 32 * n)])
    (fun t => [chk t.part.tine rcFeature 1, chk (decide (first + n ≤ t.get (R.RFE_TINE_k.LEN chain))) rcRange 20])
    (fun t => t.windowCheck (airCar m.air) 0 (t.airTick m.air))
    (fun t =>
      let a := t.airTick m.air
      let most := t.maxChips chain (t.cyclePos a)
      t.accept 2 0x08 m [chk (decide (0 < most)) rcRange 16, chk (decide (t.chipsHeld chain a + n ≤ most)) rcRange 20] (fun t =>
        { t with rfe := { t.rfe with tineHeld := t.rfe.tineHeld ++
            [⟨chain, a, first, (List.range (16 * n)).map (fun i => leAt m.body (8 + 2 * i) 2)⟩] } })))

-- Sounding requests (R193, R305)

/-- The MODE 0 descriptor that names a carrier's symbol: 1 + its PARAM index, or 0 (R305). -/
def State.soundSlot (s : State) (car a : Nat) : Nat := s.soundSlotAt car (s.cyclePos a)

/-- The tick of the COVAR that serves a carrier's symbol has passed (R305). -/
def State.covarPast (s : State) (car a : Nat) : Bool :=
  (s.soundCovar car (s.cyclePos a)).any (fun f => decide (s.subStart a + subTicks + f.tick < s.tick + f.served * subTicks))

/-- SOUND_REQ (R193, R305). (Log: 68 DEDUCED, 82 DEDUCED) -/
def execSoundReq (m : Msg) (s : State) : Out :=
  let group := leAt m.body 0 1
  let vec := leAt m.body 1 1
  let iter := leAt m.body 2 1
  let place := leAt m.body 3 1
  let base := leAt m.body 4 4
  let car := airCar m.air
  .next (s.cplane 0x09 m
    [chk (group == 4 || group == 8 || group == 16) rcRange 16, chk (decide (1 ≤ vec ∧ vec ≤ 4)) rcRange 17,
     chk (decide (1 ≤ iter ∧ iter ≤ 16)) rcRange 18, chk (decide (place ≤ 1)) rcRange 19, chk (decide (base < 2 ^ 18)) rcRange 20]
    (fun t => [chk t.part.ex rcFeature 1, chk (place == 0 || decide (base + t.groups car group * vec ≤ 2 ^ 18)) rcRange 20])
    (fun t =>
      let w := if t.ulLayers car = 0 then none else t.windowCheck car 2 (t.airTick m.air)
      if w.isNone && t.covarPast car (t.airTick m.air) then some (rcLate, noField) else w)
    (fun t =>
      let a := t.airTick m.air
      let d := t.soundSlot car a
      let w := t.param (d - 1)
      let new : Sounding := ⟨d - 1, car, a, some (m.asker 2 0x09), group, vec, iter, place == 1, base, [], [], false, false, [], 0⟩
      t.accept 2 0x09 m
        [chk (decide (3 ≤ t.sheafClass)) rcSheafClass noField, chk (!t.flag R.RXC_SOUND.BUSY) rcBusy noField,
         chk (decide (0 < d)) rcRange 8, chk (decide (bits w 12 8 ≤ group)) rcRange 16, chk (decide (vec ≤ bits w 15 13)) rcRange 17,
         chk (decide (iter ≤ bits w 20 16)) rcRange 18]
        (fun t => { t with rxc := { t.rxc with sounds := t.rxc.sounds ++ [new] } }.put R.RXC_SOUND.BUSY 1)))

-- Partial sums (R186, R209, R299)

/-- Samples from the device below: the section it must match whole. -/
def partialChecks (m : Msg) (x : Sect) (again : Bool) : List (Option (Nat × Nat)) :=
  let b := m.body
  [chk (!again) rcOverlap 16, chk (leAt b 2 2 == x.start) rcRange 18, chk (leAt b 4 2 == x.num) rcRange 20, chk (leAt b 6 1 == x.layer) rcRange 22]

/-- PARTIAL: a segment boundary re-addresses it as SEGMENT (R209) or, without the segment reserve, discards it (R210); any other
device keeps it for its own sum. (Log: 83 DEDUCED, 84 DEDUCED) -/
def execPartialSum (m : Msg) (s : State) : Out :=
  if s.flag R.LNK_SEG.BOUNDARY && s.route 3 0x04 m == .consume then
    match s.rxHead 3 0x04 m with
    | some t => .next t
    | none =>
      let s := s.synced m.port
      if !s.flag R.LNK_SEG.RESERVE then .next (s.count R.LNK_CNT_ORPHAN.ORPHAN R.LNK_PCNTOVF.OVF 6)
      else if !s.portUp .up then .next (s.nackAt (m.asker 3 0x04) rcUnreach 4)
      else if s.shedOn .up 3 0x05 m then .next s
      else .next (s.sendOn .up 3 0x05 { m with dest := 0x80 } m.body m.crc)
  else
    match s.rx 3 0x04 m with
    | .done t => .next t
    | .take t =>
      let a := m.asker 3 0x04
      let b := m.body
      let car := airCar m.air
      match firstFail (sampleBody m false) with
      | some r => .next (t.nackAt a r.1 r.2)
      | none =>
        match firstFail (t.airChecks m.air ++ t.sampleSheaf m (t.ulLayers car) (fun f => f == 5 || (f == 6 && decide (3 ≤ m.rev)))
            ++ [if t.expectsPartial then t.windowCheck car 4 (t.airTick m.air) else none]) with
        | some r => .next (t.refuseU a r)
        | none =>
          let slotT := t.airSlotTick m.air
          let sym := airSym m.air
          let id := leAt b 0 2
          let again := t.rxc.partials.any (fun p => p.car == car && p.slotT == slotT && p.sym == sym && p.id == id)
          match (t.slotSects false car slotT).find? (fun x => x.sym == sym && x.id == id) with
          | none => .next (t.count R.LNK_CNT_ORPHAN.ORPHAN R.LNK_PCNTOVF.OVF 6)
          | some x =>
            match firstFail (partialChecks m x again) with
            | some r => .next (t.nackAt a r.1 r.2)
            | none =>
              let n := leAt b 4 2
              let p : PartialSum := ⟨car, slotT, sym, id, leAt b 9 1, leAt b 10 2, leAt b 12 1, leAt b 7 1, n, (b.drop 16).take (n * prbBytes (leAt b 7 1))⟩
              let u := t.passed 3 m
              .next ({ u with rxc := { u.rxc with partials := u.rxc.partials ++ [p] } }.ackIf 3 0x04 m false 0)

end Sys2Proof.Machine
end

