-- ==== Sys2Proof/Machine/Command.lean ====
section
/-! DEFINITION. Critical commands (R203, R462 to R464): their checks under R172, authentication, and the command counter. -/

namespace Sys2Proof.Machine

/-- LAST written to the copy that is not in force (R464). (Log: 223 DESIGN CHOICE) -/
def Loft.withLast (l : Loft) (n : Nat) : Loft :=
  if ctrInB l.ctrA l.ctrB then { l with ctrA := ⟨true, l.ctrB.seq + 1, n⟩, lastCtr := n }
  else { l with ctrB := ⟨true, l.ctrA.seq + 1, n⟩, lastCtr := n }

/-- A write of LAST that fails: the copy that it was to replace cannot be relied on, and LAST stays as the other holds it (R464). (Log: 223 DESIGN CHOICE) -/
def Loft.tornLast (l : Loft) : Loft :=
  if ctrInB l.ctrA l.ctrB then { l with ctrA := { l.ctrA with good := false } } else { l with ctrB := { l.ctrB with good := false } }

/-- LAST in the loft and in its register (R464, R477). (Log: 223 DESIGN CHOICE) -/
def State.setLast (s : State) (n : Nat) : State :=
  (({ s with loft := s.loft.withLast n }.put R.SEC_CTR_LO.LAST (n % 2 ^ 32))).putFlag R.SEC_STAT.CTR_MAX (n == 2 ^ 64 - 1)

/-- R463: the reason code and the SECURITY event of a counter that is refused. -/
def ctrRefusal (last ctr cmd : Nat) : Option (Nat × Nat) :=
  if last = 2 ^ 64 - 1 ∧ cmd ≠ 6 then some (rcExhausted, 3)
  else if last = 2 ^ 64 - 1 then (if ctr = 2 ^ 64 - 1 then none else some (rcReplay, 2))
  else if ctr ≤ last then some (rcReplay, 2)
  else none

/-- Copy B of the command key record is in force (R450). (Log: 195 DEDUCED) -/
def State.keyInB (s : State) : Bool := s.loft.keyB.good && (!s.loft.keyA.good || decide (s.loft.keyA.seq < s.loft.keyB.seq))

/-- The command key: that of the copy in force (R450). -/
def State.cmdKey (s : State) : List Byte := if s.keyInB then s.loft.keyB.key else s.loft.keyA.key

/-- The tag of a body (R462). -/
def State.commandTag (s : State) (body : List Byte) (plen : Nat) : List Byte :=
  (hmac s.cmdKey (leBytes 8 s.part.serial.toNat ++ body.take (16 + plen))).take 16

/-- SHF_STATE.LAST_REASON shows why the last SHEAF_LOAD, START or STOP was refused: commands 1 to 3, at whichever check of their own
(R145). (Log: 48 DEDUCED) -/
def State.runRefused (s : State) (cmd reason : Nat) : State := if cmd = 1 ∨ cmd = 2 ∨ cmd = 3 then s.put R.SHF_STATE.LAST_REASON reason else s

/-- A loft write of the security block fails somewhere in a range of words: MEM_LVF_ADDR names a free word of it (R396). (Log: 193 DESIGN CHOICE) -/
def State.loftFailed (s : State) (base words : Nat) : State :=
  (s.fresh.count R.MEM_CNT_LVFAIL.LVFAIL R.MEM_CNTOVF.OVF 3).put R.MEM_LVF_ADDR.ADDR (base + 8 * (Config.pick s.free % words))

/-- Such a failure refuses the command (R460, R464). (Log: 192 DEDUCED, 193 DESIGN CHOICE) -/
def State.secFail (s : State) (a : Asker) (cmd base words : Nat) : State :=
  ((s.loftFailed base words).secShow.security 9 cmd 1).critNack a rcInternal

/-- Authenticate a command (R462 to R464), then let it test its own conditions. (Log: 166 DEDUCED, 204 DEDUCED, 223 DESIGN CHOICE) -/
def State.authenticate (s : State) (a : Asker) (body : List Byte) (cmd plen ctr : Nat) (lastFails : Bool) (act : State → State) : State :=
  let t := ({ s with sec := { s.sec with last := some a } }.put R.SEC_LASTCMD.CMD cmd).put R.SEC_LASTCMD.REASON 0
  if t.commandTag body plen ≠ (body.drop (16 + plen)).take 16 then
    ((t.count R.SEC_CNT_TAGFAIL.TAGFAIL R.SEC_CNTOVF.OVF 1).security 1 cmd 1 |>.runRefused cmd rcTag).critNackAt a rcTag (32 + plen)
  else match ctrRefusal t.loft.lastCtr ctr cmd with
    | some r => ((t.count R.SEC_CNT_REPLAY.REPLAY R.SEC_CNTOVF.OVF 2).security r.2 cmd 1 |>.runRefused cmd r.1).critNackAt a r.1 24
    | none =>
      if lastFails then ({ t with loft := t.loft.tornLast }.runRefused cmd rcInternal).secFail a cmd 0x398000 2048
      else
        let u := (t.setLast ctr).count R.SEC_CNT_ACCEPT.ACCEPT R.SEC_CNTOVF.OVF 0
        act (if ctr = 2 ^ 64 - 1 then u.security 5 cmd 0 else u)

/-- A CRITICAL message: `bad` names the first parameter byte out of range, by its offset in PARAMS; `act` gets the asker and PARAMS. The
keep-alive counts what passes R172 (R200), POS what is accepted (R174). (Log: 53 DEDUCED) -/
def State.critical (s : State) (m : Crit) (cmd : Nat) (disc : List Byte) (plen : Nat) (bad : List Byte → Option Nat)
    (act : Asker → List Byte → State → State) : State :=
  let w := m.msg cmd disc
  match s.rxVia 1 6 w false (fun p s => s.forwardMsg p 1 6 w) with
  | .done t => t
  | .take t =>
    let a := w.asker 1 6
    let p := (w.body.drop 16).take plen
    match firstFail [chk (m.plen.toNat == plen) rcRange 18, chk (m.resv == 0) rcRange 20, (bad p).map (fun o => (rcRange, 32 + o)), w.lenIs (32 + plen)] with
    | some r => (t.runRefused cmd r.1).nackAt a r.1 r.2
    | none =>
      let v := (if w.src = 0x80 then t.keepaliveSeen else t).authenticate a w.body cmd plen m.ctr.toNat m.lastFails (act a p)
      if v.get R.SEC_LASTCMD.REASON = 0 then v.learnPos w else v

/-- The offset of `n` parameter bytes that a command leaves unused, where one of them is not 0. (Log: 204 DEDUCED) -/
def badZero (p : List Byte) (o n : Nat) : Option Nat := if zeroAt p o n then none else some o

-- Refusals of SHEAF_LOAD, START and STOP

/-- Refuse one of them by its own conditions (SHF_STATE.LAST_REASON); a boundary that is refused names FRAME. (Log: 48 DEDUCED, 204 DEDUCED) -/
def State.refuseRun (s : State) (a : Asker) (reason : Nat) : State :=
  (s.put R.SHF_STATE.LAST_REASON reason).critNackAt a reason (if reason = rcBoundary then 32 else noField)

end Sys2Proof.Machine
end

