-- ==== Sys2Proof/Machine/Dma.lean ====
section
/-! DEFINITION. The DMA engine (15_dma_engine.md): descriptors, chains, bursts, reshuffling, rings, barriers and halts. -/

namespace Sys2Proof.Machine

def State.chan (s : State) (n : Nat) : Chan := sparseGet {} s.dma.chans n
def State.setChan (s : State) (n : Nat) (c : Chan) : State := { s with dma := { s.dma with chans := sparseSet {} s.dma.chans n c } }

/-- Channel states (DMA_CHSTAT_n.STATE). -/
def chIdle : Nat := 0
def chRunning : Nat := 1
def chBarrier : Nat := 2
def chHalted : Nat := 3

def State.chState (s : State) (n : Nat) : Nat := s.get (R.DMA_CHSTAT_n.STATE n)
def State.setChState (s : State) (n st : Nat) : State := s.put (R.DMA_CHSTAT_n.STATE n) st

/-- The DMACFG record of the applied sheaf (R426): descriptor count and maximum ring length. -/
def State.dmaCount (s : State) : Nat := leAt (s.record 0x0F) 0 2
def State.dmaRlen (s : State) (n : Nat) : Nat := leAt (s.record 0x0F) (8 + 4 * n) 4

/-- The channel is scheduled by the applied sheaf (R413). -/
def State.scheduled (s : State) (n : Nat) : Bool := bit (s.get R.DMA_STAT.SCHED) n

-- Descriptors (R415, R416, R422)

def descBase : Nat := 0x5F80000

/-- The four words of a descriptor. -/
def State.desc (s : State) (i : Nat) : List Nat := (List.range 4).map (fun k => leNat (s.granBytes (descBase + 32 * i + 8 * k) 8))

def dWord (d : List Nat) (k : Nat) : Nat := (d.drop k).head?.getD 0
def dNext (d : List Nat) : Nat := bits (dWord d 0) 13 0
def dEnd (d : List Nat) : Bool := bit (dWord d 0) 14
def dKind (d : List Nat) : Nat := bits (dWord d 0) 17 16
def dSrcSp (d : List Nat) : Nat := bits (dWord d 0) 18 18
def dDstSp (d : List Nat) : Nat := bits (dWord d 0) 19 19
def dShuf (d : List Nat) : Nat := bits (dWord d 0) 23 22
def dLen (d : List Nat) : Nat := bits (dWord d 0) 63 32
def dSrc (d : List Nat) : Nat := bits (dWord d 1) 39 0
def dDst (d : List Nat) : Nat := bits (dWord d 2) 39 0
def dNstr (d : List Nat) : Nat := bits (dWord d 3) 6 0
def dEs (d : List Nat) : Nat := if bit (dWord d 3) 7 then 8 else 4
def dStride (d : List Nat) : Nat := bits (dWord d 3) 63 32

/-- Elements of one stream of an INTERLEAVE or DEINTERLEAVE. -/
def dElems (d : List Nat) : Nat := dLen d / (dNstr d * dEs d)

/-- The fields of a RESHUFFLE's PARAM, and its source and length (R422). -/
def shufOk (d : List Nat) : Bool :=
  dSrcSp d == 0 && bits (dWord d 3) 31 8 == 0 && decide (dShuf d ≤ 2)
    && (if dShuf d = 2 then dNstr d == 0 && dStride d == 0 && dLen d % 128 == 0
        else decide (1 ≤ dNstr d ∧ dNstr d ≤ 64) && dLen d % (dNstr d * dEs d) == 0 && dStride d % 8 == 0
          && decide (dElems d * dEs d ≤ dStride d))

/-- The check of R416 against R415 and the descriptor's kind. -/
def descOk (d : List Nat) : Bool :=
  bits (dWord d 0) 15 15 == 0 && bits (dWord d 0) 21 20 == 0 && bits (dWord d 0) 31 24 == 0 && decide (dShuf d ≤ 2)
    && bits (dWord d 1) 63 40 == 0 && bits (dWord d 2) 63 40 == 0 && dSrc d % 8 == 0 && dDst d % 8 == 0
    && (if dKind d = 3 then dLen d == 0 else decide (8 ≤ dLen d) && dLen d % 8 == 0)
    && (match dKind d with
        | 1 => shufOk d
        | 3 => true
        | _ => dWord d 3 == 0)

/-- Spans of a reshuffle, as first and last byte (R423). -/
def shufSpans (d : List Nat) : (Nat × Nat) × (Nat × Nat) :=
  let flat (a : Nat) : Nat × Nat := (a, a + dLen d - 1)
  let strided (a : Nat) : Nat × Nat := (a, a + (dNstr d - 1) * dStride d + dElems d * dEs d - 1)
  match dShuf d with
  | 0 => (strided (dSrc d), flat (dDst d))
  | 1 => (flat (dSrc d), strided (dDst d))
  | _ => (flat (dSrc d), flat (dDst d))

/-- The spans share a byte of one space. -/
def shufOverlap (d : List Nat) : Bool :=
  let p := shufSpans d
  dDstSp d == 0 && decide (p.1.1 ≤ p.2.2) && decide (p.2.1 ≤ p.1.2)

-- Halts (R432)

/-- Halt codes (DMA_CHERR_n.CODE). -/
def haltAddr : Nat := 1
def haltOverlap : Nat := 2
def haltDesc : Nat := 3
def haltPoison : Nat := 4
def haltEcc : Nat := 5
def haltFail : Nat := 6
def haltRing : Nat := 7
def haltPreempt : Nat := 8

/-- Halt a channel at a descriptor; `off` is the first byte of it not moved. -/
def State.dmaHalt (s : State) (n code desc off : Nat) : State :=
  let t := (((s.setChState n chHalted).put (R.DMA_CHERR_n.CODE n) code).put (R.DMA_CHERR_n.DESC n) desc).put (R.DMA_CHEOFS_n.OFFSET n) off
  let u := (t.setChan n { t.chan n with cur := none, pos := 0, tries := 0 }).count R.DMA_CNT_HALT.HALT R.DMA_CNTOVF.OVF 1
  u.tally 0x0026 (leBytes 1 n ++ leBytes 3 0 ++ leBytes 4 (u.word (R.DMA_CHERR_n.w n).addr).toNat)

-- Regions (R417)

/-- A granary byte lies in the gleaner slots or the extraction areas that the applied sheaf's records place (R276, R310). -/
def State.captureArea (s : State) (a : Nat) : Bool :=
  let g := s.record 6
  let r := s.record 7
  let o := a - 0x3C00000
  (g != [] && decide (leAt g 8 4 ≤ o ∧ o < leAt g 8 4 + leAt g 0 1 * leAt g 12 4 * s.part.gleaners))
    || (r != [] && decide (leAt r 12 4 ≤ o ∧ o < leAt r 12 4 + 8 * leAt r 16 4))

/-- A byte may be read or written by a channel of the kind: space 0 granary, 1 DRAM. (Log: 50 DESIGN CHOICE) -/
def State.dmaRegion (s : State) (sched : Bool) (space a : Nat) : Bool :=
  let res := match s.shf.applied with
    | some sh => Config.reserved sh.digest space a || (space == 0 && decide (0x3C00000 ≤ a) && s.captureArea a)
    | none => false
  if space = 0 then
    if a < 0x2000000 then sched && res
    else if 0x3C00000 ≤ a ∧ a < 0x5400000 then (if sched then res else !res)
    else if 0x5F00000 ≤ a ∧ a < 0x5F80000 then !sched
    else false
  else decide (0xC200000 ≤ a ∧ a < s.dramTop) && (if sched then res else !res)

-- Rings (R424, R425)

/-- Free bytes of a channel's ring: 8 always stay free. Beyond the length in force RPTR is still on its old pass, and the whole ring past
WPTR is free until WPTR wraps (R425). -/
def State.ringFree (s : State) (n : Nat) : Nat :=
  let w := s.get (R.DMA_WPTR_n.WPTR n)
  let r := s.get (R.DMA_RPTR_n.RPTR n)
  let l := s.get (R.DMA_RCUR_n.LEN n)
  if r ≤ w then l - (w - r) - 8 else min r l - w - 8

/-- Unread bytes of a channel's ring. -/
def State.ringUnread (s : State) (n : Nat) : Nat :=
  let w := s.get (R.DMA_WPTR_n.WPTR n)
  let r := s.get (R.DMA_RPTR_n.RPTR n)
  if r ≤ w then w - r else s.get (R.DMA_RPEND_n.END n) - r + w

/-- A staged length comes into force as WPTR wraps (R425). -/
def State.ringLength (s : State) (n : Nat) : State :=
  if s.flag (R.DMA_RLEN_n.PEND n) then
    let new := s.get (R.DMA_RLEN_n.LEN n)
    let old := s.get (R.DMA_RCUR_n.LEN n)
    let r := s.get (R.DMA_RPTR_n.RPTR n)
    let t := (s.put (R.DMA_RCUR_n.LEN n) new).put (R.DMA_RLEN_n.PEND n) 0
    if new ≤ r ∧ new ≤ old then
      let u := ((t.put (R.DMA_RDISC_n.DISC n) (old - r)).put (R.DMA_RPTR_n.RPTR n) 0).put (R.DMA_RPEND_n.END n) new
      if 0 < old - r then u.put (R.DMA_CHSTAT_n.DISC n) 1 else u
    else t.put (R.DMA_RDISC_n.DISC n) 0
  else s

/-- Advance WPTR by the bytes of a burst. -/
def State.ringAdvance (s : State) (n k : Nat) : State :=
  let w := s.get (R.DMA_WPTR_n.WPTR n) + k
  if s.get (R.DMA_RCUR_n.LEN n) ≤ w then (s.put (R.DMA_WPTR_n.WPTR n) 0).ringLength n else s.put (R.DMA_WPTR_n.WPTR n) w

/-- RING_LENGTH_WRITE (R425, R433). With no ring in force there is no wrap to wait for: the length is in force at once. (Log: 108 DEDUCED) -/
def execRingLengthWrite (n : Nat) (len : BitVec 30) (s : State) : Out :=
  let l := len.toNat
  if 16 ≤ n ∨ ¬ (l = 0 ∨ (256 ≤ l ∧ l % 8 = 0)) then .next s
  else if s.scheduled n ∧ s.dmaRlen n < l then .next (s.put (R.DMA_CHCTL_n.REFUSED n) 1)
  else
    let t := (s.put (R.DMA_RLEN_n.LEN n) l).put (R.DMA_RLEN_n.PEND n) 1
    .next (if s.get (R.DMA_RCUR_n.LEN n) = 0 then (t.ringLength n).put (R.DMA_RPEND_n.END n) l else t)

/-- RING_ACK (R424, R425). -/
def execRingAck (n : Nat) (bytes : BitVec 30) (s : State) : Out :=
  let b := bytes.toNat
  if 16 ≤ n ∨ b % 8 ≠ 0 then .next s
  else if s.ringUnread n < b then .next (s.put (R.DMA_CHCTL_n.REFUSED n) 1)
  else
    let r := s.get (R.DMA_RPTR_n.RPTR n) + b
    let e := s.get (R.DMA_RPEND_n.END n)
    .next (if e ≤ r ∧ 0 < b then (s.put (R.DMA_RPTR_n.RPTR n) (r - e)).put (R.DMA_RPEND_n.END n) (s.get (R.DMA_RCUR_n.LEN n))
           else s.put (R.DMA_RPTR_n.RPTR n) r)

-- Starting and stopping

/-- Start a channel at a descriptor. -/
def State.dmaStart (s : State) (n head : Nat) : State :=
  ((s.setChan n { s.chan n with next := head, cur := none, pos := 0, tries := 0 }).setChState n chRunning).put (R.DMA_CHSTAT_n.LAST_VALID n) 0

/-- DMA_GO (R420, R433). (Log: 110 DEDUCED) -/
def execDmaGo (n : Nat) (s : State) : Out :=
  if 16 ≤ n then .next s
  else if s.scheduled n then (if s.running then .next s else .next (s.put (R.DMA_CHCTL_n.REFUSED n) 1))
  else if s.chState n = chIdle then .next (s.dmaStart n (s.get (R.DMA_CHCTL_n.HEAD n)))
  else .next (s.put (R.DMA_CHCTL_n.REFUSED n) 1)

/-- DMA_CLEAR (R432), a host write, which a scheduled channel discards in a run (R28, R433). -/
def execDmaClear (n : Nat) (s : State) : Out :=
  if n < 16 ∧ s.chState n = chHalted ∧ !(s.scheduled n && s.running) then .next (s.setChState n chIdle) else .next s

/-- DMA_OPEN (R427): ARG [13:0] is the head. (Log: 111 DEDUCED) -/
def execDmaOpen (a : Act) (s : State) : Out :=
  let n := a.unit.toNat
  if !s.fires a || !s.scheduled n then .next s
  else
    let t := if s.chState n = chHalted then s.count R.DMA_CNT_HALT.HALT R.DMA_CNTOVF.OVF 1 else s
    let u := t.dmaStart n (bits a.arg.toNat 13 0)
    .next (u.setChan n { u.chan n with slotOpen := true })

/-- DMA_CLOSE (R427). A channel that is neither IDLE nor HALTED is cut. (Log: 111 DEDUCED) -/
def execDmaClose (a : Act) (s : State) : Out :=
  let n := a.unit.toNat
  if !s.fires a || !s.scheduled n then .next s
  else
    let t := s.setChan n { s.chan n with slotOpen := false, cur := none, pos := 0, tries := 0 }
    if s.chState n = chRunning ∨ s.chState n = chBarrier then
      .next (((t.setChState n chIdle).put (R.DMA_CHSTAT_n.CUT n) 1).count R.DMA_CNT_CUT.CUT R.DMA_CNTOVF.OVF 2)
    else .next t

-- The descriptor window (R418)

/-- Where the word lies that the descriptor window selects. -/
def State.windowWord (s : State) : Nat := descBase + 32 * s.get R.DMA_DWIN_SEL.INDEX + 8 * s.get R.DMA_DWIN_SEL.WORD

/-- DESCRIPTOR_STORE. -/
def execDescriptorStore (hi : BitVec 32) (s : State) : Out :=
  let i := s.get R.DMA_DWIN_SEL.INDEX
  if i < s.dmaCount then .next (s.put R.DMA_STAT.DWIN_REFUSED 1)
  else .next (s.setGran s.windowWord (leBytes 4 (s.get R.DMA_DWIN_LO.LO) ++ leBytes 4 hi.toNat))

/-- DESCRIPTOR_READ. Of a poisoned word nothing is read, and the operation fails (R392). (Log: 274 DEDUCED) -/
def execDescriptorRead (s : State) : Out :=
  if s.granPoisoned s.windowWord 8 then .next s
  else
    let w := leNat (s.granBytes s.windowWord 8)
    .next ((s.put R.DMA_DWIN_RDLO.LO w).put R.DMA_DWIN_RDHI.HI (w / 2 ^ 32))

-- Chains (R419)

/-- A channel leaves a descriptor: to NEXT, or at END = 1, after word 0 is read once more, to NEXT or IDLE. (Log: 105 DESIGN CHOICE) -/
def State.dmaLeave (s : State) (n i : Nat) (d : List Nat) : State :=
  let t := (((s.count (R.DMA_CNT_DESC_n.DESC n) (R.DMA_CNTOVF_n.OVF n) 1).put (R.DMA_CHSTAT_n.LAST n) i).put (R.DMA_CHSTAT_n.LAST_VALID n) 1)
  let go (nx : Nat) : State := (t.setChan n { t.chan n with next := nx, cur := none, pos := 0, tries := 0 }).setChState n chRunning
  if !dEnd d then go (dNext d)
  else
    let w := s.desc i
    if s.granPoisoned (descBase + 32 * i) 8 then t.dmaHalt n haltPoison i (dLen d)
    else if dEnd w then (t.setChan n { t.chan n with cur := none, pos := 0, tries := 0 }).setChState n chIdle
    else go (dNext w)

/-- Take up the descriptor a channel has reached (R416, R423, R424, R430); one that moves nothing is dealt with here. (Log: 105 DESIGN CHOICE, 107 DEDUCED) -/
def State.dmaFetch (s : State) (n : Nat) : State :=
  let i := (s.chan n).next
  let d := s.desc i
  if s.granPoisoned (descBase + 32 * i) 32 then s.dmaHalt n haltPoison i 0
  else if !descOk d || (!s.scheduled n && (decide (i < s.dmaCount) || decide (dNext d < s.dmaCount))) then s.dmaHalt n haltDesc i 0
  else
    let t := s.setChan n { s.chan n with cur := some (i, d), pos := 0, tries := 0 }
    match dKind d with
    | 1 => if shufOverlap d then s.dmaHalt n haltOverlap i 0 else t
    | 2 =>
      if s.get (R.DMA_RCUR_n.LEN n) < dLen d + 8 then s.dmaHalt n haltRing i 0
      else if s.ringFree n < dLen d then
        ((s.countBy (R.DMA_RDROP_n.DROP n) (R.DMA_CNTOVF_n.OVF n) 0 (dLen d)).put (R.DMA_CHSTAT_n.RING_OVR n) 1).dmaLeave n i d
      else t
    | 3 => t.setChState n chBarrier
    | _ => t

-- Bursts (R414, R421, R422)

/-- LINEAR moves its bursts in descending order (R421). (Log: 106 DEDUCED) -/
def dDescending (d : List Nat) : Bool :=
  dKind d == 0 && dSrcSp d == dDstSp d && decide (dSrc d < dDst d) && decide (dDst d < dSrc d + dLen d)

/-- Source of the byte `o` of a RESHUFFLE in the order of its destination, and that byte's destination; BITPLANE apart. -/
def shufPair (d : List Nat) (o : Nat) : Nat × Nat :=
  let es := dEs d
  if dShuf d = 0 then
    let t := o / es
    (dSrc d + t % dNstr d * dStride d + t / dNstr d * es + o % es, dDst d + o)
  else
    let row := dElems d * es
    let p := o / row
    let e := o % row / es
    (dSrc d + (e * dNstr d + p) * es + o % es, dDst d + p * dStride d + o % row)

/-- The bytes of the next burst of a channel as pairs of addresses, source and destination: at most 128, and none beyond a
128-byte boundary of the destination, the end of the ring or of a stream. -/
def State.dmaPairs (s : State) (n : Nat) (d : List Nat) (pos : Nat) : List (Nat × Nat) :=
  let left := dLen d - pos
  match dKind d with
  | 2 =>
    let w := s.get (R.DMA_WPTR_n.WPTR n)
    let k := min (min left (128 - (dDst d + w) % 128)) (s.get (R.DMA_RCUR_n.LEN n) - w)
    (List.range k).map (fun i => (dSrc d + pos + i, dDst d + w + i))
  | 1 =>
    if dShuf d = 2 then
      (List.range (min left (128 - (dDst d + pos) % 128))).map (fun i => (dSrc d, dDst d + pos + i))
    else
      let k := if dShuf d = 0 then left else min left (dElems d * dEs d - pos % (dElems d * dEs d))
      (List.range (min k (128 - (shufPair d pos).2 % 128))).map (fun i => shufPair d (pos + i))
  | _ =>
    if dDescending d then
      let lo := max (dDst d) ((dDst d + left - 1) / 128 * 128)
      (List.range (dDst d + left - lo)).map (fun i => (dSrc d + (lo - dDst d) + i, lo + i))
    else (List.range (min left (128 - (dDst d + pos) % 128))).map (fun i => (dSrc d + pos + i, dDst d + pos + i))

/-- Byte `o` of a BITPLANE destination: eight bits of eight source words (R422). -/
def planeByte (read : Nat → Byte) (d : List Nat) (o : Nat) : Byte :=
  let row := dLen d / 16
  let b := 15 - o / row
  let i := o % row
  BitVec.ofNat 8 (((List.range 8).map (fun j =>
    let w := (read (dSrc d + 2 * (8 * i + j))).toNat + 256 * (read (dSrc d + 2 * (8 * i + j) + 1)).toNat
    if bit w b then 2 ^ j else 0)).sum)

/-- Source addresses of a burst. -/
def dmaSources (d : List Nat) (ps : List (Nat × Nat)) : List Nat :=
  if dKind d = 1 ∧ dShuf d = 2 then
    (ps.map (fun p => (List.range 16).map (fun k => dSrc d + 16 * ((p.2 - dDst d) % (dLen d / 16)) + k))).flatten
  else ps.map (·.1)

/-- A byte of a space. -/
def State.spaceByte (s : State) (sp a : Nat) : Byte := if sp = 0 then sparseGet 0 s.mem.gran a else s.dramByte a

/-- The first byte of a descriptor not yet moved: the lowest one. (Log: 106 DEDUCED) -/
def dmaOffset (d : List Nat) (pos : Nat) : Nat := if dDescending d then 0 else pos

/-- A CIRCULAR copy that a shorter ring has met at its wrap goes on only where the ring and its free space hold what is left: it halts with
RING, or drops the rest, as R424 states at the descriptor's beginning. (Log: 275 DESIGN CHOICE) -/
def State.ringStops (s : State) (n i : Nat) (d : List Nat) : Option State :=
  let pos := (s.chan n).pos
  let left := dLen d - pos
  if dKind d ≠ 2 then none
  else if s.get (R.DMA_RCUR_n.LEN n) < left + 8 then some (s.dmaHalt n haltRing i pos)
  else if s.ringFree n < left then
    some (((s.countBy (R.DMA_RDROP_n.DROP n) (R.DMA_CNTOVF_n.OVF n) 0 left).put (R.DMA_CHSTAT_n.RING_OVR n) 1).dmaLeave n i d)
  else none

/-- One burst of a channel that has a descriptor, with the outcome of the link's error code on the lane it names (R407, R431). -/
def State.dmaMove (s : State) (n i : Nat) (d : List Nat) (ecc : EccResult) (lane : Nat) : State :=
  let pos := (s.chan n).pos
  let ps := s.dmaPairs n d pos
  let src := dmaSources d ps
  let dram := dSrcSp d == 1 || dDstSp d == 1
  let off := dmaOffset d pos
  if !(src.all (s.dmaRegion (s.scheduled n) (dSrcSp d)) && (ps.map (·.2)).all (s.dmaRegion (s.scheduled n) (dDstSp d))) then
    s.dmaHalt n haltAddr i off
  else if dSrcSp d = 0 ∧ src.any (fun a => s.granPoisoned a 1) then s.dmaHalt n haltPoison i off
  else
    let s := if dram then s.dramReq else s
    if dram && !s.dramOk then s.dmaHalt n haltFail i off
    else
      let s := if dram && ecc == .corrected then s.linkFixed lane else s
      if dram && ecc == .uncorrectable then
        let t := s.linkLost lane
        if (s.chan n).tries < s.get R.DMA_CFG.RETRY then
          (t.setChan n { t.chan n with tries := (t.chan n).tries + 1 }).count R.DMA_CNT_RETRY.RETRY R.DMA_CNTOVF.OVF 0
        else t.dmaHalt n haltEcc i off
      else
        let data := if dKind d = 1 ∧ dShuf d = 2 then ps.map (fun p => planeByte (s.spaceByte (dSrcSp d)) d (p.2 - dDst d))
          else ps.map (fun p => s.spaceByte (dSrcSp d) p.1)
        let dst := (ps.head?.map (·.2)).getD 0
        let t := if dDstSp d = 0 then s.setGran dst data else s.setDram dst data
        let u := if dKind d = 2 then t.ringAdvance n ps.length else t
        let v := u.setChan n { u.chan n with pos := pos + ps.length, tries := 0 }
        if dLen d ≤ pos + ps.length then v.dmaLeave n i d else v

/-- A background burst of a descriptor may use the present slot: one that reads or writes DRAM waits while a run has it reserved (R399). (Log: 279 DESIGN CHOICE) -/
def State.slotOpenTo (s : State) (dramFree : Bool) (d : List Nat) : Bool :=
  dramFree || !(s.running || s.run == runStarting) || (dSrcSp d == 0 && dDstSp d == 0)

/-- A running background channel that may have the mover (R413). (Log: 279 DESIGN CHOICE) -/
def State.dmaReady (s : State) (dramFree : Bool) (n : Nat) : Bool :=
  s.chState n == chRunning && !s.scheduled n && (match (s.chan n).cur with
    | none => true
    | some (_, d) => s.slotOpenTo dramFree d)

/-- The channel the mover serves: the one whose DMA slot is open, else the ready background channel of highest priority, next
in number after the one served last (R413, R429). -/
def State.dmaPick (s : State) (dramFree : Bool) : Option Nat :=
  match (List.range 16).find? (fun n => (s.chan n).slotOpen) with
  | some n => if s.chState n = chRunning then some n else none
  | none =>
    let l := ((List.range 16).map (fun k => (s.dma.served + 1 + k) % 16)).filter (s.dmaReady dramFree)
    let top := (l.map (fun n => s.get (R.DMA_CHCTL_n.PRIO n))).foldl max 0
    l.find? (fun n => s.get (R.DMA_CHCTL_n.PRIO n) == top)

/-- DMA_BURST (R414): the mover takes a channel and moves one burst of it, with the descriptor fetch before it and the end of
the descriptor after it. (Log: 105 DESIGN CHOICE) -/
def execDmaBurst (dramFree : Bool) (ecc : EccResult) (lane : Nat) (s : State) : Out :=
  match s.dmaPick dramFree with
  | none => .next s
  | some n =>
    let t := if s.scheduled n then s else { s with dma := { s.dma with served := n } }
    let u := match (t.chan n).cur with
      | none => t.dmaFetch n
      | some _ => t
    match (u.chan n).cur with
    | some (i, d) =>
      if u.chState n ≠ chRunning ∨ !(u.scheduled n || u.slotOpenTo dramFree d) then .next u
      else match u.ringStops n i d with
        | some v => .next v
        | none => .next (u.dmaMove n i d ecc lane)
    | none => .next u

/-- A channel at a BARRIER may proceed (R430): each channel named is IDLE, HALTED, or at a BARRIER that names it. -/
def State.barrierMet (s : State) (n : Nat) : Bool :=
  match (s.chan n).cur with
  | none => false
  | some (_, d) => s.chState n == chBarrier && (List.range 16).all (fun k =>
      k == n || !bit (dWord d 3) k || s.chState k == chIdle || s.chState k == chHalted
        || (s.chState k == chBarrier && (match (s.chan k).cur with
            | some (_, e) => bit (dWord e 3) n
            | none => false)))

/-- BARRIER_RELEASE (R430): every channel whose conditions are met proceeds, all in one tick. -/
def execBarrierRelease (s : State) : Out :=
  .next (s.each ((List.range 16).filter s.barrierMet) (fun n t =>
    match (t.chan n).cur with
    | some (i, d) => t.dmaLeave n i d
    | none => t))

/-- What apply does to the channels (R426): descriptors copied, channels scheduled, rings at their length; a background channel
that the sheaf schedules is halted. (Log: 106 DEDUCED) -/
def State.dmaApply (s : State) : State :=
  let mask := leAt (s.record 0x0F) 2 2
  let t := (s.put R.DMA_STAT.SCHED mask).setGran descBase ((s.record 0x0F).drop 72)
  t.each (List.range 16) (fun n u =>
    let v := (u.put (R.DMA_CHSTAT_n.LAST_VALID n) 0).setChan n { u.chan n with slotOpen := false }
    if bit mask n then
      let w := if u.chState n = chRunning ∨ u.chState n = chBarrier then
          match (u.chan n).cur with
          | some (i, d) => v.dmaHalt n haltPreempt i (dmaOffset d (u.chan n).pos)
          | none => v.dmaHalt n haltPreempt (u.chan n).next 0
        else v
      let l := u.dmaRlen n
      (((((w.put (R.DMA_RLEN_n.LEN n) l).put (R.DMA_RLEN_n.PEND n) 0).put (R.DMA_RCUR_n.LEN n) l).put (R.DMA_RPEND_n.END n) l).put
        (R.DMA_WPTR_n.WPTR n) 0).put (R.DMA_RPTR_n.RPTR n) 0
    else v)

end Sys2Proof.Machine
end

