-- ==== Sys2Proof/Machine/Verify.lean ====
section
/-! DEFINITION. Verification of a staged sheaf image (R110 to R116, R119): the checks whose contents the spec lays out. Each check works on
the state with the staged sheaf in the applied one's place, so that the record readers of the other files serve it. -/

namespace Sys2Proof.Machine

-- The image

/-- Where D-plane region STAGING begins in DRAM (R205). -/
def stagingBase : Nat := 0x4000000

/-- An entry of the section table (R112). -/
def sectEntry (img : List Byte) (i : Nat) : List Byte := (img.drop (256 + 64 * i)).take 64

def imgSects (img : List Byte) : List (List Byte) := (List.range (leAt img 12 4)).map (sectEntry img)

/-- Header and section table, which the signature covers (R114). -/
def imgSigned (img : List Byte) : List Byte := img.take (256 + 64 * leAt img 12 4)

/-- The sheaf of an image. -/
def sheafOf (img : List Byte) : Sheaf :=
  ⟨img.take 256, (imgSects img).map (fun e => (leAt e 0 2, (img.drop (leAt e 8 8)).take (leAt e 16 8))), sha256 (imgSigned img)⟩

/-- The image in the staging area, as long as its header says, at most the area. -/
def State.stagedImage (s : State) : List Byte :=
  s.dramBytes stagingBase (min 0x8000000 (max 4096 (leNat (s.dramBytes (stagingBase + 16) 8))))

/-- The state with a sheaf in the applied one's place. -/
def State.withSheaf (s : State) (sh : Sheaf) : State := { s with shf := { s.shf with applied := some sh } }

/-- The staged or applied sheaf names a path as transmitting, of the part or beyond it (R37). -/
def State.txNamed (s : State) (n : Nat) : Bool := s.txPresent && ((s.shf.applied.map (fun a => Config.txUsed a.digest n)).getD false)

/-- The staged or applied sheaf transmits on a path. -/
def State.txOn (s : State) (n : Nat) : Bool :=
  decide (n < s.part.paths) && s.txNamed n

-- Checks 1 to 5

/-- Check 1. (Log: 169 DEDUCED) -/
def headerOk (h : List Byte) : Bool :=
  let flags := leAt h 32 4
  let len := leAt h 16 8
  leAt h 0 4 == 0x46414853 && leAt h 4 2 == 1 && decide (1 ≤ leAt h 6 2) && decide (leAt h 6 2 ≤ 3) && leAt h 8 4 == 256
    && decide (6 ≤ leAt h 12 4) && decide (leAt h 12 4 ≤ 32) && decide (4096 ≤ len) && decide (len ≤ 0x8000000)
    && decide (leAt h 24 8 < cycleTicks) && decide (flags < 8)
    && decide (1 ≤ leAt h 37 1) && decide (leAt h 37 1 ≤ 4) && decide (leAt h 36 1 < leAt h 37 1)
    && (bit flags 1 || leAt h 37 1 == 1)
    && decide (1 ≤ leAt h 38 1) && decide (leAt h 38 1 ≤ 64) && decide (leAt h 39 1 ≤ 4)
    && decide (1 ≤ leAt h 40 2) && 10240 % leAt h 40 2 == 0 && decide (1 ≤ leAt h 42 2) && decide (leAt h 42 2 ≤ 100)
    && decide (1 ≤ leAt h 44 2) && decide (leAt h 44 2 ≤ 4096) && zeroAt h 46 2 && zeroAt h 60 4 && zeroAt h 76 180
    && leAt h 64 8 % 256 == 0 && decide (1 ≤ leAt h 72 4) && decide (leAt h 72 4 ≤ 65536)
    && decide (leAt h 64 8 + leAt h 72 4 ≤ len) && decide (256 + 64 * leAt h 12 4 ≤ len)

/-- Two ranges share a byte. -/
def overlaps (a la b lb : Nat) : Bool := decide (a < b + lb) && decide (b < a + la)

/-- Check 4, the action classes of R116 aside (R112, R113, R116). Sections lie behind the table and before the signature block (R110). (Log: 170 DEDUCED) -/
def tableOk (img : List Byte) : Bool :=
  let es := imgSects img
  let typ (e : List Byte) : Nat := leAt e 0 2
  let low := 256 + 64 * leAt img 12 4
  let cls := leAt img 6 2
  es.all (fun e => decide (1 ≤ typ e) && decide (typ e ≤ 0x0C) && leAt e 2 2 == 1 && zeroAt e 4 4 && leAt e 8 8 % 256 == 0
      && decide (1 ≤ leAt e 16 8) && decide (low ≤ leAt e 8 8) && decide (leAt e 8 8 + leAt e 16 8 ≤ leAt img 64 8) && zeroAt e 24 8)
    && (List.range 6).all (fun t => es.any (fun e => typ e == t + 1))
    && decide ((es.map typ).eraseDups.length = es.length)
    && (List.range es.length).all (fun i => (List.range i).all (fun j =>
        let a := sectEntry img i
        let b := sectEntry img j
        !overlaps (leAt a 8 8) (leAt a 16 8) (leAt b 8 8) (leAt b 16 8)))
    && (decide (2 ≤ cls) || (!bit (leAt img 32 4) 1 && !es.any (fun e => typ e == 0x0A)))
    && (decide (3 ≤ cls) || !es.any (fun e => typ e == 0x0B))

/-- Check 5. -/
def hashesOk (img : List Byte) : Bool :=
  (imgSects img).all (fun e => sha256 ((img.drop (leAt e 8 8)).take (leAt e 16 8)) == (e.drop 32).take 32)

-- Check 6: STRUCT (R218)

/-- The body length that a record's TYPE and fields imply; none for an undefined TYPE. -/
def recLen (typ : Nat) (b : List Byte) : Option Nat :=
  match typ with
  | 1 => some 32
  | 2 => some 16
  | 3 => some (12 + 4 * leAt b 2 1)
  | 4 => some (4 + 4 * (leAt b 1 1 + leAt b 2 1))
  | 5 => some 64
  | 6 => some 528
  | 7 => some 128
  | 8 => some 64
  | 9 => some 128
  | 0x0A => some (4 + 132 * leAt b 0 1)
  | 0x0B => some 132
  | 0x0C => some 640
  | 0x0D => some 64
  | 0x0E => some 16
  | 0x0F => some (72 + 32 * leAt b 0 2)
  | _ => none

/-- The records fill the section exactly, each of the length of its type. -/
def framingOk : Nat → List Byte → Bool
  | 0, bs => bs.isEmpty
  | n + 1, bs =>
    if bs.isEmpty then true
    else
      let l := leAt bs 2 2
      decide (4 ≤ bs.length) && l % 4 == 0 && decide (4 ≤ l) && decide (4 + l ≤ bs.length)
        && recLen (leAt bs 0 2) ((bs.drop 4).take l) == some l && framingOk n (bs.drop (4 + l))

def State.structOk (s : State) : Bool :=
  framingOk (s.sect 1).length (s.sect 1)
    && (List.range 16).all (fun t => decide ((s.recsOf t).length ≤ (match t with | 1 => 4 | 3 => 8 | 4 => 8 | _ => 1)))

-- Check 6: carriers and windows (R219, R220, R129, R343)

def carrierOk (b : List Byte) : Bool :=
  decide (leAt b 0 1 ≤ 3) && decide (leAt b 1 1 ≤ 3) && decide (leAt b 2 1 ≤ 3) && decide (1 ≤ leAt b 4 2) && decide (leAt b 4 2 ≤ 2222)
    && decide (15 ≤ leAt b 6 1) && decide (leAt b 6 1 ≤ 22) && decide (leAt b 7 1 ≤ 14) && signed 32 (leAt b 8 4) % 1000 == 0
    && decide (leAt b 12 1 ≤ 8) && zeroAt b 13 3 && leAt b 16 4 % 256 == 0 && (leAt b 12 1 != 0 || leAt b 16 4 == 0) && zeroAt b 20 12

/-- The engine rate in Hz, as TXRUN gives it. (Log: 172 DEDUCED) -/
def State.engineHz (s : State) : Nat := 491520000 * 2 ^ leAt (s.record 2) 1 1

/-- (Log: 71 DEDUCED, 172 DEDUCED) -/
def State.carriersOk (s : State) : Bool :=
  (s.recsOf 1).all carrierOk && decide (((s.recsOf 1).map (fun b => leAt b 0 1)).eraseDups.length = (s.recsOf 1).length)
    && s.carriers.all (fun c => decide (s.carBand c ≤ 400000000) && decide (s.carBand c * 100 * 2 ^ s.rateK c ≤ 82 * 491520000)
        && (s.record 2 == [] || decide (((s.carOffset c).natAbs * 2 + s.carBand c) * 10 ≤ 8 * s.engineHz)))
    && decide ((s.carriers.map s.carBand).sum ≤ 1200000000)

/-- A carrier uses a window kind (R129). -/
def State.usesWindow (s : State) (c k : Nat) : Bool :=
  (s.carrier? c).isSome && (match k with
    | 0 => true
    | 1 => decide (0 < s.dlLayers c)
    | 2 => decide (0 < leAt (s.record 7) (32 + 8 * c) 1)
    | 3 => true
    | _ => decide (0 < leAt (s.record 7) (32 + 8 * c) 1) && s.cascadeSheaf && decide (s.hdr 36 1 + 1 < s.hdr 37 1))

def State.windowsOk (s : State) : Bool :=
  decide ((s.sect 6).length = 160) && (List.range 4).all (fun c => (List.range 5).all (fun k =>
    let w := s.window c k
    if s.usesWindow c k then
      (if k = 4 then decide (-491520 ≤ w.2 ∧ w.2 ≤ 0) else decide (0 ≤ w.2 ∧ w.2 ≤ 491520)) && decide (w.2 + 1 ≤ w.1 ∧ w.1 ≤ 983040)
    else w == (0, 0)))
    && s.carriers.all (fun c => decide (1024 ≤ (s.window c 0).2))

-- Check 6: transmit chain (R221, R230)

def State.txrunOk (s : State) : Bool :=
  let b := s.record 2
  let dl := s.carriers.filter (fun c => decide (0 < s.dlLayers c))
  if b = [] then !s.txPresent
  else
    decide (leAt b 0 1 ≤ 4) && decide (leAt b 1 1 ≤ 2) && decide (leAt b 2 1 ≤ 3) && zeroAt b 3 1 && leAt b 8 4 % 256 == 0 && leAt b 12 4 % 256 == 0
      && (dl.isEmpty || (dl.contains (leAt b 2 1) && dl.all (fun c => decide (s.scs c ≤ s.scs (leAt b 2 1)))))
      && (if s.carriers.all (fun c => s.budget c == 0) then leAt b 4 4 == 0 else decide (256 ≤ leAt b 4 4 ∧ leAt b 4 4 ≤ 245760))
      && (decide (0 < leAt b 0 1) || s.carriers.all (fun c => s.budget c == 0))

/-- A CFR set body (R230). -/
def cfrOk (b : List Byte) : Bool :=
  decide (leAt b 0 1 ≤ 7) && decide (1 ≤ leAt b 1 1) && decide (leAt b 1 1 ≤ 4) && leAt b 2 1 % 2 == 1 && decide (33 ≤ leAt b 2 1)
    && decide (8 ≤ leAt b 3 1) && decide (1 ≤ leAt b 4 1) && decide (leAt b 4 1 ≤ 64) && zeroAt b 5 1
    && decide (1 ≤ leAt b 6 2) && decide (leAt b 6 2 ≤ 32767) && (leAt b 8 2 == 0 || decide (leAt b 6 2 ≤ leAt b 8 2 ∧ leAt b 8 2 ≤ 32767))
    && zeroAt b 10 2 && decide (b.length = 12 + 4 * leAt b 2 1)

-- Check 6: predistortion (R256, R259 to R261, R266, R276)

/-- A term descriptor of R256 and R259; `cross` says which list holds it. -/
def termOk (t : Nat) (cross : Bool) : Bool :=
  bits t 31 16 == 0 && (match tKind t with
    | 0 => !cross && decide (1 ≤ tOrder t ∧ tOrder t ≤ 9) && decide (tD t ≤ 23) && tE t == 0 && tNb t == 0
    | 1 => !cross && decide (1 ≤ tOrder t ∧ tOrder t ≤ 9) && decide (tD t ≤ 22) && decide (1 ≤ tE t) && decide (tD t + tE t ≤ 23) && tNb t == 0
    | 2 => cross && decide (1 ≤ tOrder t ∧ tOrder t ≤ 5) && decide (tD t ≤ 7) && tE t == 0
    | _ => cross && decide (2 ≤ tOrder t ∧ tOrder t ≤ 5) && decide (tD t ≤ 7) && tE t == 0)

def modelOk (b : List Byte) : Bool :=
  let ts := dpdTerms b
  decide (leAt b 0 1 ≤ 7) && decide (1 ≤ leAt b 1 1) && decide (leAt b 1 1 ≤ 48) && decide (leAt b 2 1 ≤ 16) && zeroAt b 3 1
    && (ts.take (leAt b 1 1)).all (fun t => termOk t false) && (ts.drop (leAt b 1 1)).all (fun t => termOk t true)
    && (ts.head?.map (fun t => decide (tKind t = 0 ∧ tOrder t = 1 ∧ tD t = 0))).getD false && decide (ts.eraseDups.length = ts.length)

def State.dpdPathsOk (s : State) : Bool :=
  (s.recsOf 4).all modelOk && decide (((s.recsOf 4).map (fun b => leAt b 0 1)).eraseDups.length = (s.recsOf 4).length)
    && (if s.record 5 = [] then !s.txPresent
        else (List.range 64).all (fun p =>
          let m := leAt (s.record 5) p 1
          m == 0xFF || (s.txNamed p && (s.recsOf 4).any (fun b => leAt b 0 1 == m))))

/-- A cross term needs the slot of its path's COUPLE entry (R261). On a part without coupled DPD check 7 rejects it. -/
def State.crossOk (s : State) : Bool :=
  !s.part.ex || (List.range 64).all (fun p => (dpdTerms (s.model p)).all (fun t => decide (tKind t < 2)
    || (s.coupleEntry p).isSome && ((s.neighbours p).drop (tNb t)).head? != some 0xFF))

/-- The COUPLE section (R261). -/
def State.coupleOk (s : State) : Bool :=
  let b := s.sect 8
  let n := leAt b 0 1
  let es := (List.range n).map (fun i => (b.drop (8 + 8 * i)).take 8)
  b == [] || !s.part.ex || (decide (1 ≤ n) && decide (n ≤ 64) && zeroAt b 1 7 && decide (b.length = 8 + 8 * n)
    && es.all (fun e =>
        let nb := (List.range 4).map (fun j => leAt e (2 + j) 1)
        let named := nb.filter (· != 0xFF)
        s.hasModel (leAt e 0 1) && decide (leAt e 1 1 ≤ 63) && zeroAt e 6 2
          && named.all (fun q => q != leAt e 0 1 && es.any (fun f => leAt f 0 1 == q && leAt f 1 1 == leAt e 1 1))
          && decide (named.eraseDups.length = named.length))
    && decide ((es.map (fun e => leAt e 0 1)).eraseDups.length = n)
    && (List.range 64).all (fun p => !s.hasModel p || es.any (fun e => leAt e 0 1 == p)))

/-- INITBANK entries fill the section, and no two name the same set or bank. -/
def initFraming : Nat → List Byte → Bool
  | 0, b => b.isEmpty
  | n + 1, b =>
    if b.isEmpty then true
    else decide (4 ≤ b.length) && zeroAt b 1 1 && leAt b 2 2 % 4 == 0 && decide (4 + leAt b 2 2 ≤ b.length) && initFraming n (b.drop (4 + leAt b 2 2))

/-- A coefficient within the range of R263. -/
def coefOk (c : Int × Int) : Bool := decide (-131072 ≤ c.1 ∧ c.1 ≤ 131071) && decide (-131072 ≤ c.2 ∧ c.2 ≤ 131071)

def State.initBankOk (s : State) : Bool :=
  let es := s.initBank
  let key (e : Nat × List Byte) : Nat := if e.1 = 1 then leAt e.2 0 1 else 256 + 4 * leAt e.2 0 1 + leAt e.2 1 1
  initFraming (s.sect 0x0B).length (s.sect 0x0B)
    && es.all (fun e => match e.1 with
        | 1 => cfrOk e.2
        | 2 => s.hasModel (leAt e.2 0 1) && decide (leAt e.2 1 1 ≤ 3) && leAt e.2 2 1 == (dpdTerms (s.model (leAt e.2 0 1))).length && zeroAt e.2 3 1
            && decide (e.2.length = 4 + 8 * leAt e.2 2 1) && (List.range (leAt e.2 2 1)).all (fun i => coefOk (coefAt e.2 (4 + 8 * i)))
        | _ => false)
    && decide ((es.map key).eraseDups.length = es.length)

def State.gleanOk (s : State) : Bool :=
  let b := s.record 6
  b == [] || (decide (1 ≤ leAt b 0 1 ∧ leAt b 0 1 ≤ 16) && decide (1 ≤ leAt b 1 1 ∧ leAt b 1 1 ≤ 16) && decide (4 ≤ leAt b 2 1 ∧ leAt b 2 1 ≤ 30)
    && decide (leAt b 4 2 ≤ 600) && decide (1 ≤ leAt b 6 1 ∧ leAt b 6 1 ≤ 30) && decide (leAt b 7 1 ≤ 40) && leAt b 8 4 % 256 == 0 && leAt b 12 4 % 256 == 0
    && (List.range 64).all (fun p => decide (leAt b (16 + 8 * p) 2 ≤ 4095) && decide (4 ≤ leAt b (18 + 8 * p) 1 ∧ leAt b (18 + 8 * p) 1 ≤ 64)
        && decide (leAt b (19 + 8 * p) 1 ≤ 15)))

-- Check 6: receive chain (R287, R288)

/-- Passband edge of a filter set, in hundredths of the carrier sample rate (R293). -/
def passEdge (set : Nat) : Nat := (filterEdges set).1

def State.rxcfgOk (s : State) : Bool :=
  let b := s.record 7
  let ul := s.carriers.filter (fun c => decide (0 < leAt b (32 + 8 * c) 1))
  b == [] || (decide (leAt b 0 1 ≤ 3) && decide (leAt b 1 1 ≤ 1) && decide (1024 ≤ leAt b 2 2 ∧ leAt b 2 2 ≤ 2047) && decide (1 ≤ leAt b 4 2)
    && decide (1 ≤ leAt b 6 2 ∧ leAt b 6 2 ≤ 2047) && decide (1 ≤ leAt b 8 1 ∧ leAt b 8 1 ≤ 6) && decide (1 ≤ leAt b 9 1 ∧ leAt b 9 1 ≤ 6)
    && decide (leAt b 10 1 ≤ leAt b 11 1) && decide (leAt b 11 1 ≤ 31) && leAt b 12 4 % 256 == 0 && leAt b 16 4 % 256 == 0 && zeroAt b 20 4
    && (List.range 64).all (fun p => decide (leAt b (64 + p) 1 ≤ 31))
    && (ul.isEmpty || (ul.contains (leAt b 0 1) && ul.all (fun c => decide (s.scs c ≤ s.scs (leAt b 0 1)))))
    && (List.range 4).all (fun c =>
        let d := (b.drop (32 + 8 * c)).take 8
        if (s.carrier? c).isNone then zeroAt d 0 8
        else decide (8 ≤ leAt d 1 1 ∧ leAt d 1 1 ≤ 22) && decide (leAt d 2 1 ≤ 17) && decide (leAt d 3 1 ≤ 3)
          && decide (s.carBand c * 100 * 2 ^ s.rateK c ≤ 2 * passEdge (leAt d 3 1) * 491520000)
          && decide (leAt d 4 2 * 2 ^ s.rateK c + 32768 / 2 ^ s.scs c ≤ normalLen (s.scs c)) && decide (leAt d 6 1 < 32)
          && decide (bits (leAt d 6 1) 4 2 < 2 ^ bits (leAt d 6 1) 1 0) && zeroAt d 7 1))

-- Check 6: converters and front end (R313, R314, R328, R337, R342, R346, R350, R353, R354, R357, R426)

def State.cnvcfgOk (s : State) : Bool :=
  s.record 8 != [] && (List.range 4).all (fun k =>
    let b := (s.record 8).drop (16 * k)
    let fc (o : Nat) : Bool := decide (400000 ≤ leAt b o 4) && decide (leAt b o 4 ≤ 15400000)
    zeroAt b 1 3 && zeroAt b 12 4
      && (if leAt b 0 1 = 0xFF then zeroAt b 4 8 && (decide (s.part.chiplets ≤ k)
            || (List.range 16).all (fun i => !s.txOn (16 * k + i) && !s.rxUsed (16 * k + i)))
          else decide (leAt b 0 1 ≤ 1) && fc 4 && fc 8))

/-- A band lies in one of the first `zones` zones of a converter with the Nyquist frequency `nyq`, `guard` from its edges; in Hz. -/
def inZone (nyq guard : Int) (zones : Nat) (lo hi : Int) : Bool :=
  (List.range zones).any (fun z => decide ((z : Int) * nyq + guard ≤ lo) && decide (hi + guard ≤ (z + 1 : Int) * nyq))

/-- The RX band of a chiplet (R314), in Hz. -/
def State.rxBand (s : State) (fc : Nat) : Option (Int × Int) :=
  let l := (s.carriers.filter (fun c => decide (0 < leAt (s.record 7) (32 + 8 * c) 1))).map (fun c =>
    ((fc : Int) * 1000 + s.carOffset c - s.carBand c / 2, (fc : Int) * 1000 + s.carOffset c + s.carBand c / 2))
  match l with
  | [] => none
  | x :: r => some (r.foldl (fun b y => (min b.1 y.1, max b.2 y.2)) x)

/-- The bands of a chiplet's paths at its CNVCFG frequencies: transmit first. -/
def State.chipBands (s : State) (k : Nat) : List (Bool × Int × Int) :=
  let some? (tx : Bool) (o : Option (Int × Int)) : List (Bool × Int × Int) := match o with | some b => [(tx, b.1, b.2)] | none => []
  if s.cnvPlan k = 0xFF then []
  else (if (List.range 16).any (fun i => s.txOn (16 * k + i)) then some? true (s.txBand (s.cnvTxFc k)) else [])
    ++ (if (List.range 16).any (fun i => s.rxUsed (16 * k + i)) then some? false (s.rxBand (s.cnvRxFc k)) else [])

def State.bandsOk (s : State) : Bool :=
  (List.range s.part.chiplets).all (fun k => (s.chipBands k).all (fun b =>
    let nyq := dacNyquist (s.cnvPlan k) * 1000
    decide (400000000 ≤ b.2.1) && decide (b.2.2 ≤ 15400000000)
      && (if b.1 then inZone nyq 400000000 2 b.2.1 b.2.2 else inZone (nyq / 2) 250000000 4 b.2.1 b.2.2)))

def State.biascfgOk (s : State) : Bool :=
  let b := s.record 9
  b == [] || (List.range 128).all (fun o => leAt b o 1 == 0xFF || decide (leAt b o 1 ≤ 15))

/-- Words of the PARAM section. -/
def State.paramWords (s : State) : Nat := (s.sect 5).length / 4

/-- A chain of 1 to 16 words lies in PARAM with its reserved bits 0 (R350). -/
def State.chainOk (s : State) (i : Nat) : Bool :=
  let c := s.fsbChain 17 i
  decide (c.length ≤ 16) && decide (i + c.length ≤ s.paramWords) && c.all (fun w => bits w 31 22 == 0)

def State.pstepOk (s : State) : Bool :=
  let b := s.record 0x0A
  let n := leAt b 0 1
  if b = [] then !s.txPresent
  else decide (1 ≤ n ∧ n ≤ 64) && decide (leAt b 1 1 < n) && zeroAt b 2 2
    && (List.range n).all (fun i => decide (leAt b (4 + 4 * i) 1 ≤ 63) && (leAt b (5 + 4 * i) 1 == 0xFF || (decide (leAt b (5 + 4 * i) 1 ≤ 15) && s.hasFemtab))
        && zeroAt b (6 + 4 * i) 2 && (List.range 64).all (fun p => s.txNamed p || leAt b (4 + 4 * n + 2 * (64 * i + p)) 2 == 0x8000))

def State.femtabOk (s : State) : Bool :=
  let b := s.record 0x0B
  if b = [] then !s.hasProtect
  else decide (leAt b 0 1 ≤ 15) && (List.range 4).all (fun k => decide (bits (leAt b 1 1) (2 * k + 1) (2 * k) ≤ 1)) && zeroAt b 2 2
    && (List.range 16).all (fun i => (List.range 4).all (fun j => decide (leAt b (4 + 8 * i + j) 1 < 8)) && zeroAt b (10 + 8 * i) 2
        && (leAt b (8 + 8 * i) 2 == 0xFFFF || s.chainOk (leAt b (8 + 8 * i) 2)))

def State.protectOk (s : State) : Bool :=
  let b := s.record 0x0C
  b == [] || ((List.range 8).all (fun k => leAt b (16 * k + 8) 1 % 2 == 0 && decide (leAt b (16 * k + 8) 1 < 8) && zeroAt b (16 * k + 9) 7)
    && (List.range 64).all (fun p => decide (s.rlWarn p ≤ 400) && decide (s.rlTrip p ≤ s.rlWarn p) && decide (s.pathResp p < 8)
        && (decide (s.protStep p < s.pstepCount) || (s.record 0x0A == [] && s.protStep p == 0)) && (s.tunerMsg p == 0xFFFF || s.chainOk (s.tunerMsg p))))

def State.tinecfgOk (s : State) : Bool :=
  let b := s.record 0x0D
  b == [] || (List.range 16).all (fun k => decide (leAt b (4 * k) 2 ≤ 512) && decide (leAt b (4 * k + 2) 1 ≤ 2) && zeroAt b (4 * k + 3) 1)

def State.calcfgOk (s : State) : Bool :=
  let b := s.record 0x0E
  b == [] || (List.range 4).all (fun k =>
    (match leAt b (4 * k) 1 with
     | 0 => leAt b (4 * k + 1) 1 == 0
     | 1 => decide (1 ≤ leAt b (4 * k + 1) 1 ∧ leAt b (4 * k + 1) 1 ≤ 20)
     | _ => false) && decide (leAt b (4 * k + 2) 1 < 16) && zeroAt b (4 * k + 3) 1)

def State.idleOk (s : State) : Bool :=
  let b := s.sect 9
  b == [] || (decide (b.length = 368) && decide (leAt b 0 4 < 2 ^ 18) && (List.range 64).all (fun n => decide (leAt b (260 + n) 1 < 8))
    && (List.range 4).all (fun k => decide (leAt b (324 + k) 1 < 2))
    && (List.range 16).all (fun k => decide (leAt b (328 + 2 * k) 2 < 2 ^ 13)) && zeroAt b 360 8)

def State.dmacfgOk (s : State) : Bool :=
  let b := s.record 0x0F
  let d (i : Nat) : List Nat := (List.range 4).map (fun k => leAt b (72 + 32 * i + 8 * k) 8)
  b == [] || (decide (leAt b 0 2 ≤ 2045) && zeroAt b 4 4
    && (List.range 16).all (fun n => leAt b (8 + 4 * n) 4 == 0 || (decide (256 ≤ leAt b (8 + 4 * n) 4 ∧ leAt b (8 + 4 * n) 4 ≤ 0x3FFFFFF8) && leAt b (8 + 4 * n) 4 % 8 == 0))
    && (List.range (leAt b 0 2)).all (fun i => descOk (d i) && !(dKind (d i) == 1 && shufOverlap (d i))))

-- Check 6: tiles and index (R382, R383, R386, R125)

/-- A window of a kernel entry: PART, ACC, OFFSET and LENGTH. -/
def kWinOk (e : List Byte) (j : Nat) : Bool :=
  let w := leAt e (32 + 8 * j) 4
  decide (bits w 3 0 ≤ 3) && (bits w 3 0 != 1 || !bit w 5 || leAt e 3 1 == 3)

def State.tileimgOk (s : State) : Bool :=
  let b := s.sect 4
  let n := leAt b 0 2
  let ds := (List.range n).map (fun i => (b.drop (16 + 8 * i)).take 8)
  let kt := leAt b 4 4
  let count := s.hdr 44 2
  decide (1 ≤ n ∧ n ≤ 256) && zeroAt b 2 2 && kt % 64 == 0 && zeroAt b 8 8 && decide (16 + 8 * n ≤ kt) && decide (kt + 64 * count ≤ b.length)
    && ds.all (fun d => zeroAt d 1 1 && decide (1 ≤ leAt d 2 1 ∧ leAt d 2 1 ≤ 31) && zeroAt d 3 1 && leAt d 4 4 % 64 == 0
        && decide (leAt d 2 1 * 4096 + leAt d 4 4 ≤ b.length))
    && decide ((ds.map (fun d => leAt d 0 1)).eraseDups.length = n)
    && (List.range count).all (fun k =>
        let e := s.kernelEntry k
        leAt e 0 2 == k && (s.tileImage (leAt e 2 1)).isSome && decide (leAt e 3 1 ≤ 3) && leAt e 4 4 % 16 == 0
          && decide (leAt e 4 4 < s.protLen (leAt e 2 1)) && decide (1 ≤ leAt e 8 4 ∧ leAt e 8 4 ≤ 1500000) && decide (leAt e 12 4 < s.paramWords)
          && (List.range 4).all (kWinOk e))

def State.findexOk (s : State) : Bool :=
  decide ((s.sect 3).length = s.hdr 40 2) && (s.sect 3).all (fun b => decide (b.toNat < s.hdr 38 1))

/-- Check 6, as far as the spec lays the contents out. (Log: 171 DEDUCED) -/
def State.contentsOk (s : State) : Bool :=
  s.structOk && s.carriersOk && s.windowsOk && s.txrunOk && (s.recsOf 3).all cfrOk && s.dpdPathsOk && s.crossOk && s.coupleOk && s.initBankOk && s.gleanOk
    && s.rxcfgOk && s.cnvcfgOk && s.bandsOk && s.biascfgOk && s.pstepOk && s.femtabOk && s.protectOk && s.tinecfgOk && s.calcfgOk && s.idleOk
    && s.dmacfgOk && s.tileimgOk && s.findexOk

-- Check 7 (R37)

/-- What the sheaf declares lies within SYS_CAP0 and SYS_CAP1. (Log: 71 DEDUCED, 171 DEDUCED) -/
def State.featuresOk (s : State) : Bool :=
  let p := s.part
  (p.ex || (!s.cascadeSheaf && s.sect 8 == [] && (List.range (s.hdr 44 2)).all (fun k => leAt (s.kernelEntry k) 3 1 != 3)))
    && s.carriers.all (fun c => decide (s.dlLayers c ≤ p.layers) && decide (leAt (s.record 7) (32 + 8 * c) 1 ≤ p.layers))
    && (List.range 64).all (fun n => decide (n < p.paths) || (!s.rxUsed n && !s.txNamed n
        && (s.record 9 == [] || (leAt (s.record 9) n 1 == 0xFF && leAt (s.record 9) (64 + n) 1 == 0xFF))))
    && (List.range 4).all (fun k => decide (k < p.chiplets) || s.cnvPlan k == 0xFF)
    && (p.ex || (s.recsOf 4).all (fun b => leAt b 2 1 == 0))
    && (List.range 8).all (fun k => (List.range 64).all (fun n => decide (n < p.paths) || !bit (s.alertPaths k) n))
    && (p.tine || (List.range 16).all (fun k => leAt (s.record 0x0D) (4 * k) 2 == 0))
    && (p.hBand || (List.range p.chiplets).all (fun k => (s.chipBands k).all (fun b => decide (b.2.2 ≤ 7200000000))))

-- Check 8 (R344)

/-- The applied or staged sheaf keeps within an envelope, as far as the spec lays its contents out. -/
def State.envelopeKept (s : State) (e : List Byte) : Bool :=
  (List.range s.part.chiplets).all (fun k =>
    (s.cnvPlan k == 0xFF || bit (leAt e 256 1) (s.cnvPlan k))
      && (s.chipBands k).all (fun b => envAllows e (if b.1 then 0 else 1) (b.2.1 / 1000) ((b.2.2 + 999) / 1000)))
    && (List.range s.part.paths).all (fun p => !s.txOn p || decide (s.fsDbm s.pstepInit p ≤ envFsMax e p))

-- Check 9 (R240, R244, R124, R126), the ranges whose places the spec states

/-- Bytes of the run-ahead ring and of the checkpoint store (R240). (Log: 173 DEDUCED) -/
def State.ringBytes (s : State) : Nat × Nat :=
  let b := s.record 2
  let n := ((List.range s.part.paths).filter s.txOn).length
  let m := 2 ^ leAt b 1 1
  let d := leAt b 0 1
  if d = 0 then (2048 * m * 7 / 2 * n, 2 * 1536 * n)
  else ((d + 2) * ((normalLen (s.scs (leAt b 2 1)) + 256) * m * 7 / 2) * n, (d + 2) * 1536 * n)

/-- Place and bytes of a carrier's replacement buffers in the link-buffer partition (R240). -/
def State.replBuf (s : State) (c : Nat) : Nat × Nat := (leAt ((s.carrier? c).getD []) 16 4, s.budget c * s.dlLayers c * s.nPrb c * 48)

/-- (Log: 171 DEDUCED, 173 DEDUCED) -/
def State.buffersFit (s : State) : Bool :=
  let b := s.record 2
  let r := s.ringBytes
  let rb := 16384 * (s.carriers.filter (fun c => decide (0 < s.budget c))).length
  let cap := 0x1800000
  let slots := leAt (s.record 6) 0 1 * leAt (s.record 6) 12 4 * s.part.gleaners
  let ext := 8 * leAt (s.record 7) 16 4
  (b == [] || (decide (leAt b 8 4 + r.1 ≤ cap) && decide (leAt b 12 4 + r.2 + rb ≤ cap) && !overlaps (leAt b 8 4) r.1 (leAt b 12 4) (r.2 + rb)))
    && s.carriers.all (fun c => decide ((s.replBuf c).1 + (s.replBuf c).2 ≤ 0x800000)
        && s.carriers.all (fun d => decide (d ≤ c) || !overlaps (s.replBuf c).1 (s.replBuf c).2 (s.replBuf d).1 (s.replBuf d).2))
    && (s.record 6 == [] || decide (leAt (s.record 6) 8 4 + slots ≤ cap))
    && (s.record 7 == [] || decide (leAt (s.record 7) 12 4 + ext ≤ cap))
    && (s.record 6 == [] || s.record 7 == [] || !overlaps (leAt (s.record 6) 8 4) slots (leAt (s.record 7) 12 4) ext)
    && decide ((s.sect 5).length ≤ 0x200000)

end Sys2Proof.Machine
end

