-- ==== Sys2Proof/Machine/DPlane.lean ====
section
/-! DEFINITION. The D-plane (R205, R206): regions, WRITE, READ and its answer, END. -/

namespace Sys2Proof.Machine

/-- FWSTAGE in DRAM (R399). -/
def fwStageBase : Nat := 0xC000000

/-- Offset in its memory, and bytes, of DEEPCAP. -/
def State.deepcap (s : State) : Nat × Nat :=
  match s.shf.applied with
  | some sh => Config.deepcap sh.digest
  | none => (0, 0)

/-- Bytes of a region (R205). -/
def State.regionSize (s : State) (region : Nat) : Nat :=
  match region with
  | 0 => 0x8000000
  | 1 => 0x4000000
  | 2 => 0x100000
  | 3 => 0x1800000
  | 4 => s.deepcap.2
  | 5 => 0x80000
  | _ => 0

/-- The region lies in DRAM. -/
def regionDram (region : Nat) : Bool := region == 0 || region == 1 || region == 2 || region == 4

/-- Where a region of DRAM or the granary begins. -/
def State.regionBase (s : State) (region : Nat) : Nat :=
  match region with
  | 0 => stagingBase
  | 1 => 0
  | 2 => fwStageBase
  | 3 => 0x3C00000
  | _ => s.deepcap.1

/-- Bytes of a region as they stand; those of TALLY by logical slot (R488). -/
def State.regionBytes (s : State) (region off n : Nat) : List Byte :=
  if region = 5 then
    (((List.range (n / 64 + 2)).map (fun i => s.logSlot (off / 64 + i))).flatten.drop (off % 64)).take n
  else if regionDram region then s.dramBytes (s.regionBase region + off) n
  else s.granBytes (s.regionBase region + off) n

/-- The 16-byte prefix of a D-plane body. -/
def dPrefix (region xfer off : Nat) : List Byte := leBytes 1 region ++ leBytes 1 xfer ++ leBytes 6 0 ++ leBytes 8 off

/-- Check 7 of the prefix, `n` bytes being addressed. -/
def State.dChecks (s : State) (b : List Byte) (n : Nat) : List (Option (Nat × Nat)) :=
  [chk (decide (leAt b 0 1 ≤ 5)) rcRange 16, chk (decide (leAt b 1 1 ≤ 15)) rcRange 17, chk (zeroAt b 2 6) rcRange 18,
   chk (leAt b 8 8 % 8 == 0 && decide (leAt b 8 8 < s.regionSize (leAt b 0 1) ∧ leAt b 8 8 + n ≤ s.regionSize (leAt b 0 1))) rcRange 24]

/-- Check 7 of a LENGTH field. (Log: 276 DESIGN CHOICE) -/
def State.dLength (s : State) (b : List Byte) : Option (Nat × Nat) :=
  let n := leAt b 16 8
  chk (decide (8 ≤ n ∧ n ≤ 67108864 ∧ n % 8 = 0 ∧ leAt b 8 8 + n ≤ s.regionSize (leAt b 0 1))) rcRange 32

/-- The transfer identifier is in use: by a READ, or by a series of WRITEs other than to `region`. (Log: 86 DEDUCED) -/
def State.xferBusy (s : State) (id : Nat) (region : Option Nat) : Bool :=
  s.con.xfers.any (fun x => x.id == id && (x.read || region != some x.region))

/-- A transfer to a DRAM region while DRAM is failed. -/
def State.dDram (s : State) (region : Nat) : Option (Nat × Nat) := chk (!(regionDram region && s.dramFailed)) rcDram noField

/-- The firmware update image is being verified. (Log: 90 DEDUCED) -/
def State.fwVerifying (s : State) : Bool :=
  match s.sec.op with
  | some (.install _, _) => true
  | _ => false

/-- A DRAM request for a region, with the link errors that its bursts meet (R407, R408); an uncorrectable one is answered as while DRAM is
failed (R206). (Log: 260 DESIGN CHOICE, 279 DESIGN CHOICE) -/
def State.dAccess (s : State) (region : Nat) (link : LinkErrs) : State :=
  if regionDram region && !s.dramFailed then s.dramReq.linkMeets link else s

/-- D_WRITE. The data fill the message: a multiple of 8 bytes. `link` are the link-ECC errors that the write meets (R407). (Log: 85 DEDUCED, 89 DEDUCED) -/
def execDWrite (m : Msg) (s : State) (link : LinkErrs := []) : Out :=
  match s.rx 5 0x01 m with
  | .done t => .next t
  | .take t =>
    let b := m.body
    let n := 8 * m.lenW.toNat - 40
    let region := leAt b 0 1
    let id := leAt b 1 1
    let off := leAt b 8 8
    match firstFail (t.dChecks b n ++ [chk (decide (region < 3)) rcRegion 16, chk (!t.xferBusy id (some region)) rcBusy 17, t.dDram region,
        chk (!(region == 0 && (t.get R.SHF_STATE.STAGE == 1 || t.get R.SHF_STATE.STAGE == 2 || t.run == runApplying))) rcState noField]) with
    | some r => .next (t.nackAt (m.asker 5 0x01) r.1 r.2)
    | none =>
      if linkBad link then .next ((t.dAccess region link).nack (m.asker 5 0x01) rcDram)
      else
      let xf : Xfer := ⟨false, id, region, off, 0, 0, m.asker 5 0x01⟩
      let u := (((t.passed 5 m).dAccess region link).setDram (t.regionBase region + off) ((b.drop 16).take n))
      let v : State := if u.con.xfers.any (fun x => x.id == id) then u
        else { u with con := { u.con with xfers := u.con.xfers ++ [xf] } }
      .next (v.ackIf 5 0x01 m false 0)

/-- D_READ. A READ of TALLY freezes the log (R488). `link` are the link-ECC errors that the reading meets, and `corrected` counts the loft
words of TALLY read with a corrected error (R397, R407). (Log: 89 DEDUCED, 90 DEDUCED) -/
def execDRead (m : Msg) (s : State) (link : LinkErrs := []) (corrected : Nat := 0) : Out :=
  match s.rx 5 0x02 m with
  | .done t => .next t
  | .take t =>
    let b := m.body
    let region := leAt b 0 1
    let id := leAt b 1 1
    match firstFail (t.dChecks b 0 ++ [t.dLength b, chk (!(region == 2 && t.fwVerifying)) rcRegion 16,
        chk (!t.con.xfers.any (fun x => x.id == id) && decide ((t.con.xfers.filter (·.read)).length < 4)) rcBusy 17, t.dDram region,
        chk (!(region == 5 && t.get R.TAL_STAT.STATE == 2)) rcLogBusy noField]) with
    | some r => .next (t.nackAt (m.asker 5 0x02) r.1 r.2)
    | none =>
      if regionDram region && linkBad link then .next ((t.dAccess region link).nack (m.asker 5 0x02) rcDram)
      else
      let xf : Xfer := ⟨true, id, region, leAt b 8 8, leAt b 16 8, 0, m.asker 5 0x02⟩
      let u := ((t.passed 5 m).dAccess region link).loftFixed (if region = 5 then corrected else 0)
      let v := { u with con := { u.con with xfers := u.con.xfers ++ [xf] } }
      .next ((if region = 5 then v.freeze else v).ackIf 5 0x02 m false 0)

/-- D_END from the host (R206): the CRC over the range as it stands. A series to STAGING that ends in an ACK is a completed write (R117). The range is read: a DRAM request, which may meet link-ECC errors, or loft words
of which `corrected` had a corrected error (R397, R407, R408). (Log: 86 DEDUCED, 87 DEDUCED) -/
def execDEnd (m : Msg) (s : State) (link : LinkErrs := []) (corrected : Nat := 0) : Out :=
  match s.rx 5 0x04 m with
  | .done t => .next t
  | .take t =>
    let b := m.body
    let region := leAt b 0 1
    let id := leAt b 1 1
    let a := m.asker 5 0x04
    match firstFail (t.dChecks b 0 ++ [t.dLength b, t.dDram region]) with
    | some r => .next (t.nackAt a r.1 r.2)
    | none =>
      let ours (x : Xfer) : Bool := !x.read && x.id == id && x.region == region
      let u := ({ t with con := { t.con with xfers := t.con.xfers.filter (fun x => !ours x) } }.dAccess region link).loftFixed (if region = 5 then corrected else 0)
      if regionDram region && linkBad link then .next (u.nack a rcDram)
      else if crc32c (u.regionBytes region (leAt b 8 8) (leAt b 16 8)) = BitVec.ofNat 32 (leAt b 24 4) then
        .next (({ u with shf := { u.shf with stagedOk := u.shf.stagedOk || (region == 0 && t.con.xfers.any ours) } }.passed 5 m).ack a)
      else .next (u.nackAt a rcDataCrc 40)

/-- Serve the oldest READ in progress with its next DATA message, whose trailer is inverted where it carries a poisoned granary word (R392), or with its END; the freeze of a TALLY read ends with it (R488). (Log: 2 DESIGN CHOICE, 51 DESIGN CHOICE, 88 DESIGN CHOICE) -/
def State.serveRead (s : State) : State :=
  match s.con.xfers.find? (·.read) with
  | none => s
  | some x =>
    if !s.maySend x.asker.port 5 0x03 then s
    else
      let s := if regionDram x.region then s.dramReq else s
      if x.next < x.len then
        let n := min (x.len - x.next) (8 * (1 + Config.dataWords s.free % 32763))
        let off := x.off + x.next
        let bad := x.region == 3 && s.mem.poison.any (fun w => decide (w < 0x3C00000 + off + n ∧ 0x3C00000 + off < w + 8))
        let t := s.transmitMasked x.asker.port 5 0x03 1 x.asker.src 0 (dPrefix x.region x.id off ++ s.regionBytes x.region off n)
          (if bad then 0xFFFFFFFF else 0)
        { t with con := { t.con with xfers := t.con.xfers.map (fun y => if y = x then { y with next := y.next + n } else y) } }.fresh
      else
        let t := s.transmit x.asker.port 5 0x04 1 x.asker.src 0 (dPrefix x.region x.id x.off ++ leBytes 8 x.len
          ++ leBytes 4 (crc32c (s.regionBytes x.region x.off x.len)).toNat)
        let u := { t with con := { t.con with xfers := t.con.xfers.filter (fun y => decide (y ≠ x)) } }
        if x.region = 5 ∧ !u.logOpen then u.put R.TAL_STAT.FROZEN 0 else u

end Sys2Proof.Machine
end

