-- ==== Sys2Proof/Machine/FurrowChecks.lean ====
section
/-! DEFINITION. Verification of a staged sheaf's furrows (R119, checks 4 and 6 to 9): every action's fields, the order within a furrow,
the ticks at which actions fire against the symbols they name, features, envelope, and the reservations of R126. -/

namespace Sys2Proof.Machine

-- The fields of an action (R121, R122, check 6)

/-- CAR names a carrier of the sheaf, SLOT one of its slots in a subframe and SYMBOL a symbol. -/
def State.symOk (s : State) (a : FAct) : Bool :=
  (s.carrier? a.car).isSome && decide (a.slot < slotsOf (s.scs a.car)) && decide (a.sym < 14)

/-- A UNIT of paths: one path, a group of eight, all, and where `chips` is set those of a chiplet (R290, R317, R347). -/
def pathUnit (chips : Bool) (u : Nat) : Bool :=
  decide (u < 64) || decide (0x80 ≤ u ∧ u < 0x88) || (chips && decide (0xC0 ≤ u ∧ u < 0xC4)) || u == 0xFF

/-- A UNIT of path groups (R233, R267). -/
def groupUnit (u : Nat) : Bool := decide (u < 8) || u == 0xFF

/-- The chiplet of an index has a sampling plan, or the part lacks it (R313). -/
def State.planned (s : State) (k : Nat) : Bool := decide (s.part.chiplets ≤ k) || s.cnvPlan k != 0xFF

/-- The PARAM words of a bias STAGE (R329). -/
def State.stageWords (s : State) (a : FAct) : List Nat := (List.range (bits a.arg 22 16)).map (fun i => s.param (bits a.arg 15 0 + i))

/-- The bias outputs that a class 10 action names. -/
def State.biasNamed (s : State) (a : FAct) : List Nat :=
  if a.op = 1 then (s.stageWords a).map (fun w => bits w 6 0)
  else (List.range 128).filter (fun o => leAt (s.record 9) o 1 != 0xFF && (a.unit == 0xFF || leAt (s.record 9) o 1 == a.unit))

/-- A class 3 START (R384, R386). -/
def State.startOk (s : State) (a : FAct) : Bool :=
  let k := bits a.arg 11 0
  let e := s.kernelEntry k
  let base := leAt e 12 4 + 8 * bits a.arg 22 12
  a.op == 0 && decide (k < s.hdr 44 2) && leAt e 2 1 == a.unit && (a.car == 7 || (s.carrier? a.car).isSome) && decide (base + 8 ≤ s.paramWords)
    && (List.range 8).all (fun i => leAt e (16 + 2 * i) 2 == 0 || decide (s.param (base + i) ≤ leAt e (16 + 2 * i) 2))

/-- A class 4 CHECK (R385, R386). -/
def State.kcheckOk (s : State) (a : FAct) : Bool :=
  let k := bits a.arg 11 0
  let b : FAct := { a with arg := bits a.arg 18 12 }
  a.op == 0 && decide (k < s.hdr 44 2) && leAt (s.kernelEntry k) 2 1 == a.unit && (a.car == 7 || s.symOk b) && decide (a.tick ≤ 491392)

/-- A TONE's two PARAM words (R322). -/
def State.toneOk (s : State) (i : Nat) : Bool :=
  decide (i + 2 ≤ s.paramWords) && decide ((signed 32 (s.param i)).natAbs * 10000 ≤ 4 * s.engineHz) && bits (s.param (i + 1)) 31 15 == 0

/-- A class 7 converter action (R313, R317). -/
def State.converterOk (s : State) (a : FAct) : Bool :=
  let i := bits a.arg 22 7
  pathUnit true a.unit && s.symOk a && (unitPaths s.part a.unit).all (fun n => s.planned (chipOf n))
    && (match a.op with
        | 0 => decide (i < s.paramWords) && bits (s.param i) 31 24 == 0
        | 1 => decide (i < s.paramWords) && bits (s.param i) 31 24 == 0
        | 2 => i == 0
        | 3 => i == 0
        | 4 => s.toneOk i
        | _ => false)

/-- Occupied bandwidth of a carrier against the passband of a filter set (R288). -/
def State.passOk (s : State) (c set : Nat) : Bool := decide (s.carBand c * 100 * 2 ^ s.rateK c ≤ 2 * passEdge set * 491520000)

/-- A class 8 receive action (R287, R288, R290, R309). -/
def State.receiveOk (s : State) (a : FAct) : Bool :=
  s.record 7 != [] && s.symOk a
    && (match a.op with
        | 0 => pathUnit false a.unit && a.car == s.rxByte 0 1 && bits a.arg 22 12 == 0
        | 1 => pathUnit false a.unit && bits a.arg 22 9 == 0 && s.passOk a.car (bits a.arg 8 7)
        | 2 => pathUnit false a.unit && a.car == s.rxByte 0 1 && bits a.arg 22 7 == 0
        | 3 => decide (a.unit < 8) && s.rxUsed (bits a.arg 12 7) && decide (1 ≤ bits a.arg 16 13 ∧ bits a.arg 16 13 ≤ 14) && bits a.arg 22 18 == 0
        | _ => false)

/-- A class 10 bias action (R313, R328, R329). -/
def State.biasActOk (s : State) (a : FAct) : Bool :=
  s.record 9 != [] && (s.biasNamed a).all (fun o => s.planned (chipOf (o % 64)))
    && (match a.op with
        | 0 => (decide (a.unit < 16) || a.unit == 0xFF) && s.symOk a && bits a.arg 22 7 == 0
        | 1 => decide (a.unit < 16) && a.car == 7 && decide (1 ≤ bits a.arg 22 16) && decide (bits a.arg 15 0 + bits a.arg 22 16 ≤ s.paramWords)
            && (s.stageWords a).all (fun w => !bit w 7 && bits w 31 22 == 0 && bits w 21 20 != 3 && leAt (s.record 9) (bits w 6 0) 1 == a.unit)
        | _ => false)

/-- A sounding descriptor (R304). -/
def State.soundDescOk (s : State) (a : FAct) : Bool :=
  let w := s.param a.arg
  decide (a.arg + 2 ≤ s.paramWords) && decide (bits w 3 0 < 14) && decide (bits w 6 4 < slotsOf (s.scs a.car))
    && (bits w 12 8 == 4 || bits w 12 8 == 8 || bits w 12 8 == 16) && decide (1 ≤ bits w 15 13 ∧ bits w 15 13 ≤ 4)
    && decide (1 ≤ bits w 20 16 ∧ bits w 20 16 ≤ 16) && bits w 31 22 == 0 && bits (s.param (a.arg + 1)) 31 18 == 0

/-- The GRID carrier as TXRUN gives it. -/
def State.gridCar (s : State) : Nat := leAt (s.record 2) 2 1

/-- The UNIT, CAR, OP and ARG of a class 6 action (R267). -/
def State.dpdActOk (s : State) (a : FAct) : Bool :=
  s.record 6 != [] && (match a.op with
    | 0 => groupUnit a.unit && a.car == s.gridCar && s.symOk a && bits a.arg 22 9 == 0
    | 1 => decide (a.unit < 64) && a.car == s.gridCar && s.symOk a && bits a.arg 22 9 == 0
    | 2 => decide (a.unit < 8) && a.car == 7 && decide (bits a.arg 3 0 < leAt (s.record 6) 0 1) && bits a.arg 22 4 == 0
    | _ => false)

/-- Every furrow action of R122 is valid: R121's ranges and those of its class. Of classes 0, 1 and 16 the spec states no UNIT, OP or
ARG. (Log: 50 DESIGN CHOICE, 171 DEDUCED) -/
def State.actOk (s : State) (a : FAct) : Bool :=
  decide (a.tick < subTicks) && decide (a.serve ≤ 2) && (decide (a.car ≤ 3) || a.car == 7)
    && (match a.cls with
        | 0 => true
        | 1 => true
        | 2 => decide (a.unit < 4) && decide (a.op ≤ 1) && s.symOk a && decide (1 ≤ bits a.arg 17 7 ∧ bits a.arg 17 7 ≤ 1024) && bits a.arg 22 18 == 0
        | 3 => s.startOk a
        | 4 => s.kcheckOk a
        | 5 => groupUnit a.unit && a.car == s.gridCar && a.op == 0 && s.symOk a && bits a.arg 22 10 == 0
            && ((s.recsOf 3).any (fun b => leAt b 0 1 == bits a.arg 2 0) || s.initBank.any (fun e => e.1 == 1 && leAt e.2 0 1 == bits a.arg 2 0))
        | 6 => s.dpdActOk a
        | 7 => s.converterOk a
        | 8 => s.receiveOk a
        | 9 => s.record 6 != [] && decide (a.unit < 8) && a.car == 7 && a.op == 0 && decide (bits a.arg 7 4 < leAt (s.record 6) 0 1)
            && bits a.arg 22 10 == 0 && s.planned (a.unit / 2)
        | 10 => s.biasActOk a
        | 11 => (match a.op with
            | 0 => s.hasFemtab && pathUnit true a.unit && s.symOk a
            | 1 => decide (a.unit < 4) && a.car == 7 && bits a.arg 22 16 == 0 && s.chainOk (bits a.arg 15 0)
            | _ => false)
        | 12 => s.record 0x0D != [] && s.symOk a && (match a.op with
            | 0 => decide (a.unit < 16) && decide (1 ≤ bits a.arg 16 7 ∧ bits a.arg 16 7 ≤ 512) && bits a.arg 22 17 == 0
            | 1 => (decide (a.unit < 16) || a.unit == 0xFF) && bits a.arg 8 7 == 0
            | _ => false)
        | 13 => decide (a.unit < 96) && a.car == 7 && a.op == 0 && bits a.arg 22 5 == 0
        | 14 => s.record 0x0F != [] && decide (a.unit < 16) && bit (leAt (s.record 0x0F) 2 2) a.unit && a.car == 7 && (match a.op with
            | 0 => decide (bits a.arg 13 0 < leAt (s.record 0x0F) 0 2) && bits a.arg 22 14 == 0
            | 1 => a.arg == 0
            | _ => false)
        | 15 => decide (a.unit < 4) && a.car == 7 && decide (a.op ≤ 1) && a.arg == 0
        | 16 => true
        | 17 => s.record 2 != [] && a.unit == a.op && decide (a.op ≤ 1) && s.symOk a && bits a.arg 22 7 == 0 && (a.op == 1 || a.car == s.gridCar)
        | 18 => s.record 7 != [] && a.unit == 0 && a.op == 0 && s.symOk a && bits a.arg 22 7 == 0
        | 19 => s.record 7 != [] && a.unit == 0 && decide (a.op ≤ 2) && (s.carrier? a.car).isSome && s.soundDescOk a
        | _ => false)

/-- R123: TICK does not fall, at most 4 actions share one, and no two of one TICK share CLASS and UNIT. -/
def furrowOrderOk (f : List FAct) : Bool :=
  pairsAll (fun x y => decide (x.tick ≤ y.tick) && (x.tick != y.tick || x.cls != y.cls || x.unit != y.unit)) f
    && f.all (fun x => decide ((f.filter (fun y => y.tick == x.tick)).length ≤ 4))

-- Marks of the engine grid (R239)

/-- The first tick of the symbol of a spacing that holds a tick, on the time line of the plan. -/
def gridBegin (scs a : Nat) : Nat := a - (airPlace scs (a % subTicks)).2.2

/-- The air ticks of a carrier's symbols over the middle period of the plan. -/
def State.midSyms (s : State) (c : Nat) : List Nat :=
  (List.range (s.hdr 40 2)).flatMap (fun k => (List.range (slotsOf (s.scs c))).flatMap (fun slot => (List.range 14).map (fun m =>
    (k + 3) * subTicks + symStart (s.scs c) slot m)))

/-- Carriers with a downlink whose symbol begins at an air tick. -/
def State.dlStarts (s : State) (a : Nat) : List Nat := s.carriers.filter (fun c => decide (0 < s.dlLayers c) && gridBegin (s.scs c) a == a)

/-- The carrier that a HORIZON mark of an air tick names: of smallest spacing, the lowest-numbered among equals. -/
def State.markCar (s : State) (a : Nat) : Option Nat :=
  (s.dlStarts a).find? (fun c => (s.dlStarts a).all (fun d => decide (s.scs c ≤ s.scs d)))

/-- R239: one PLAYOUT at P(e) for each engine symbol, one HORIZON at each horizon tick, and no other mark. -/
def State.marksOk (s : State) : Bool :=
  let po := ofOp s.plan 17 0
  let ho := ofOp s.plan 17 1
  s.record 2 == [] ||
    ((s.midSyms s.gridCar).all (fun a => decide ((po.filter (fun x => s.boundOf x == a)).length = 1))
      && (ofOp s.midPlan 17 0).all (fun x => fireAt x + 320 == s.boundOf x)
      && (s.carriers.flatMap (fun c => if 0 < s.dlLayers c then s.midSyms c else [])).all (fun a =>
          decide ((ho.filter (fun x => s.boundOf x == a)).length = 1))
      && (ofOp s.midPlan 17 1).all (fun x => fireAt x + s.hlead == s.boundOf x && s.markCar (s.boundOf x) == some x.2.car))

-- Ticks against boundaries (check 6)

/-- The engine symbol `n` before one. -/
def State.engBack (s : State) : Nat → Nat → Nat
  | 0, a => a
  | n + 1, a => s.engBack n (gridBegin (s.scs s.gridCar) (a - 1))

/-- F(e) of R268: the earliest tick at which a pass on the engine symbol at an air tick can begin. -/
def State.passStart (s : State) (a : Nat) : Nat :=
  let d := leAt (s.record 2) 0 1
  if d = 0 then a - 1472
  else s.engBack d a - 352 - (if s.carriers.any (fun c => decide (0 < s.budget c)) then 2 else 1) * engWin (s.scs s.gridCar)

/-- R268 and R318: SELECT, COMMIT and TONE fire at or before F(B) - 64. -/
def State.selectsOk (s : State) : Bool :=
  (ofOp s.midPlan 6 0 ++ ofOp s.midPlan 6 1 ++ ofOp s.midPlan 7 4).all (fun x => decide (fireAt x + 64 ≤ s.passStart (s.boundOf x)))

/-- The number of an engine symbol that an action names, counted over the plan. -/
def State.engIndex (s : State) (x : Nat × FAct) : Nat := ((x.1 + x.2.served) * slotsOf (s.scs s.gridCar) + x.2.slot) * 14 + x.2.sym

/-- R269: COMMITs of one group and operating point keep their distance. -/
def State.commitsOk (s : State) : Bool :=
  let need := if leAt (s.record 2) 0 1 = 0 then 2 else leAt (s.record 2) 0 1 + 2
  pairsAll (fun x y => x.2.unit != y.2.unit || bits x.2.arg 1 0 != bits y.2.arg 1 0
    || decide (s.engIndex x + need ≤ s.engIndex y) || decide (s.engIndex y + need ≤ s.engIndex x)) (ofOp s.plan 6 1)

/-- Two UNITs name a common path. -/
def State.meetUnits (s : State) (u v : Nat) : Bool := (unitPaths s.part u).any (fun n => (unitPaths s.part v).contains n)

/-- R291: 64 ticks before the boundary, and after the boundary of the path's action before. -/
def State.settingsOk (s : State) : Bool :=
  let after (x y : Nat × FAct) : Bool := !s.meetUnits x.2.unit y.2.unit || decide (s.boundOf x < fireAt y)
  (s.midPlan.filter (fun x => x.2.cls == 8 && decide (x.2.op ≤ 2))).all (fun x => decide (fireAt x + 64 ≤ s.boundOf x))
    && pairsAll after (s.plan.filter (fun x => x.2.cls == 8 && (x.2.op == 0 || x.2.op == 2)))
    && pairsAll (fun x y => x.2.car != y.2.car || after x y) (ofOp s.plan 8 1)

/-- R309: an EXTRACT fires at least 64 ticks before its first symbol. -/
def State.extractsOk (s : State) : Bool := (ofOp s.midPlan 8 3).all (fun x => decide (fireAt x + 64 ≤ s.boundOf x))

/-- R299: a CLOSE fires at the deadline of the cascade partial-sum window. -/
def State.closesOk (s : State) : Bool :=
  (ofOp s.midPlan 18 0).all (fun x => (fireAt x : Int) == (s.boundOf x : Int) - (s.window x.2.car 4).2)

/-- R304: one COVAR, one SOLVE and one PLACE name each descriptor, on one carrier and in that order of TICK. -/
def State.soundsOk (s : State) : Bool :=
  let l := s.furrows.flatten.filter (fun a => a.cls == 19)
  l.all (fun a => (List.range 3).all (fun op =>
      (l.filter (fun b => b.arg == a.arg && b.op == op)).length == 1 && l.all (fun b => b.arg != a.arg || b.car == a.car)))
  && s.midPlan.all (fun x => x.2.cls != 19 ||
    (match s.plan.find? (fun y => y.2.cls == 19 && y.2.car == x.2.car && y.2.arg == x.2.arg && decide (fireAt x < fireAt y)) with
     | some y => y.2.op == (x.2.op + 1) % 3
     | none => x.2.op == 2))

/-- The engine rate multiple m of the sheaf. -/
def State.engMult (s : State) : Nat := 2 ^ leAt (s.record 2) 1 1

/-- Past the last tick of a CAPTURE's interval (R274). -/
def State.capEnd (s : State) (x : Nat × FAct) : Nat := fireAt x + 64 + capLen (bits x.2.arg 9 8) / s.engMult

/-- The path that a CAPTURE selects. -/
def capPath (a : FAct) : Nat := 8 * a.unit + bits a.arg 2 0

/-- R277, check 6: an ADAPT comes 256 ticks after its slot was captured, and no CAPTURE into the slot while it may run. -/
def State.adaptsOk (s : State) : Bool :=
  let caps := ofOp s.plan 9 0
  let same (x y : Nat × FAct) : Bool := x.2.unit == y.2.unit && bits x.2.arg 3 0 == bits y.2.arg 7 4
  (ofOp s.midPlan 6 2).all (fun x =>
    (match (caps.filter (fun y => same x y && decide (fireAt y ≤ fireAt x))).getLast? with
     | some y => decide (s.capEnd y + 256 ≤ fireAt x)
     | none => true)
      && caps.all (fun y => !same x y || decide (fireAt y < fireAt x) || decide (fireAt x + 24576 ≤ fireAt y)))

/-- R318: OP 0 to 3 fire at least 512 ticks before their boundary. -/
def State.convertersOk (s : State) : Bool :=
  (s.midPlan.filter (fun x => x.2.cls == 7 && decide (x.2.op ≤ 3))).all (fun x => decide (fireAt x + 512 ≤ s.boundOf x))

/-- R319: no transmit retune of the selected path within a capture's interval or reference range. -/
def State.retunesOk (s : State) : Bool :=
  let m : Int := s.engMult
  (ofOp s.midPlan 9 0).all (fun c =>
    let p := capPath c.2
    let len : Int := capLen (bits c.2.arg 9 8)
    (ofOp s.plan 7 0).all (fun x => !(unitPaths s.part x.2.unit).contains p ||
      (let b := s.boundOf x
       let r : Int := ((b : Int) - fireAt c - 64) * m + s.capCoarse p
       (decide (b < fireAt c) || decide (s.capEnd c ≤ b)) && (decide (r < -(s.capSpan p : Int)) || decide (len + s.capSpan p - 1 < r)))))

/-- R330: a STROBE fires at least 64 ticks before its boundary. -/
def State.strobesOk (s : State) : Bool := (ofOp s.midPlan 10 0).all (fun x => decide (fireAt x + 64 ≤ s.boundOf x))

/-- OFS of a PHASE or tine STROBE: ARG [22:9], signed ticks (R347, R360). -/
def actOfs (a : FAct) : Int := signed 14 (bits a.arg 22 9)

/-- The instant of a boundary plus OFS. -/
def State.instantOf (s : State) (x : Nat × FAct) : Int := (s.boundOf x : Int) + actOfs x.2

/-- R347: 64 ticks before the change instant, and a path's instants rise in firing order. -/
def State.phasesOk (s : State) : Bool :=
  (ofOp s.midPlan 11 0).all (fun x => decide ((fireAt x : Int) + 64 ≤ s.instantOf x))
    && pairsAll (fun x y => !s.meetUnits x.2.unit y.2.unit || decide (s.instantOf x < s.instantOf y)) (ofOp s.plan 11 0)

/-- LEN and bit time of a tine chain (R357). -/
def State.tineLen (s : State) (k : Nat) : Nat := leAt (s.record 0x0D) (4 * k) 2
def State.tineBit (s : State) (k : Nat) : Nat := 2 * 2 ^ leAt (s.record 0x0D) (4 * k + 2) 1

/-- R360: each SEND falls after the C-plane close, ends before its one STROBE's load instant, and meets no other of its chain. The
interval of a SEND is taken as its 32 ticks and its worst-case frames. (Log: 253 DEDUCED) -/
def State.sendsOk (s : State) : Bool :=
  let busy (x : Nat × FAct) : Nat := 32 + s.tineBit x.2.unit * (320 * bits x.2.arg 16 7)
  (ofOp s.midPlan 12 0).all (fun x =>
    decide ((s.boundOf x : Int) - (s.window x.2.car 0).2 ≤ fireAt x)
      && (match (ofOp s.plan 12 1).filter (fun y => (y.2.unit == 0xFF || y.2.unit == x.2.unit) && s.boundOf y == s.boundOf x) with
          | [y] => decide ((fireAt x + 32 + s.tineBit x.2.unit * (320 * bits x.2.arg 16 7 + 2 * s.tineLen x.2.unit) + 64 : Int) ≤ s.instantOf y)
              && decide ((fireAt y : Int) + 64 ≤ s.instantOf y)
          | _ => false))
    && pairsAll (fun x y => x.2.unit != y.2.unit || (s.boundOf x != s.boundOf y && !overlaps (fireAt x) (busy x) (fireAt y) (busy y))) (ofOp s.plan 12 0)

/-- R439: conversions are at least 491 ticks apart. -/
def State.conversionsOk (s : State) : Bool := pairsAll (fun x y => decide (fireAt x + 491 ≤ fireAt y)) (s.plan.filter (fun x => x.2.cls == 13))

-- Scheduled DMA (R428)

/-- The scheduled descriptors of DMACFG. -/
def State.dmaDescs (s : State) : List (List Nat) :=
  (List.range (leAt (s.record 0x0F) 0 2)).map (fun i => (List.range 4).map (fun k => leAt (s.record 0x0F) (72 + 32 * i + 8 * k) 8))

/-- The descriptors of a chain from a head; none where it leaves the list or does not end. -/
def dmaChain (ds : List (List Nat)) : Nat → Nat → Option (List (List Nat))
  | 0, _ => none
  | n + 1, i => match ds.drop i with
    | [] => none
    | d :: _ => if dEnd d then some [d] else (dmaChain ds n (dNext d)).map (d :: ·)

def State.dmaChainOf (s : State) (a : FAct) : Option (List (List Nat)) := dmaChain s.dmaDescs s.dmaDescs.length (bits a.arg 13 0)

/-- The class 14 actions of a channel over two periods of the index, in which every slot that begins in the first one ends. -/
def State.dmaPlan (s : State) (n : Nat) : List (Nat × FAct) :=
  (s.planOf (2 * s.hdr 40 2 + 4)).filter (fun x => x.2.cls == 14 && x.2.unit == n)

/-- OPEN and CLOSE alternate, from OPEN on. -/
def alternates : List (Nat × FAct) → Nat → Bool
  | [], _ => true
  | x :: l, o => x.2.op == o && alternates l (1 - o)

/-- R428, check 6. As the periods follow one another, a period opens a channel as often as it closes it. -/
def State.dmaSchedOk (s : State) : Bool :=
  (ofOp s.midPlan 14 0).all (fun x => match s.dmaChainOf x.2 with
    | none => false
    | some ds => ds.all (fun d => dKind d != 3 || (List.range 16).all (fun n => n == x.2.unit || !bit (dWord d 3) n || bit (leAt (s.record 0x0F) 2 2) n)))
    && (List.range 16).all (fun n =>
        let l := (s.dmaPlan n).filter (fun x => decide (x.1 < s.hdr 40 2))
        alternates (s.dmaPlan n) 0 && (l.filter (fun x => x.2.op == 0)).length == (l.filter (fun x => x.2.op == 1)).length)

-- Kernels (R386)

/-- The cycle of a kernel's first bundle, counted from the first subframe of the plan (R384). -/
def startCycle (x : Nat × FAct) : Nat := 1500000 * x.1 + ((x.2.tick + 2) * 3125 + 1023) / 1024

/-- WCYC of the kernel that a class 3 or 4 action names. -/
def State.wcyc (s : State) (a : FAct) : Nat := leAt (s.kernelEntry (bits a.arg 11 0)) 8 4

/-- The bundles of a kernel from an offset of its image on, to that of END; none where one does not decode or END is missing. (Log: 144 DESIGN CHOICE) -/
def kernelCode (img : List Byte) : Nat → Nat → Option (List (List Machine.TOp))
  | 0, _ => none
  | f + 1, o =>
    if img.length < o + 16 then none
    else match Config.bundle ((img.drop o).take 16) with
      | none => none
      | some b => if b.contains .done then some [b] else (kernelCode img f (o + 16)).map (b :: ·)

/-- The cycle in which a bundle issues that may find the queue full, and the queue's completions after it (R380): a place frees in the cycle
after a completion. -/
def issueAt (c : Nat) (q : List Nat) (b : List TOp) : Nat × List Nat :=
  let l := q.filter (fun d => decide (c ≤ d))
  let at_ := if b.any (·.issues) && decide (4 ≤ l.length) then (l.drop (l.length - 4)).head?.getD c + 1 else c
  (at_, b.foldl (fun q op => match op with
    | .xin _ _ _ n => q ++ [max (q.getLast?.getD at_) at_ + 64 + n]
    | .xout _ _ _ n => q ++ [max (q.getLast?.getD at_) at_ + 64 + n]
    | _ => q) q)

/-- The cycles that bundles in their order of issue take, with every stream stall (R380, R386). -/
def cyclesOf (bs : List (List TOp)) : Nat :=
  (bs.foldl (fun (r : Nat × List Nat) b =>
    let x := issueAt r.1 r.2 b
    (if b.contains .xwait then max (x.1 + 1) (x.2.getLast?.getD x.1 + 1) else x.1 + 1, x.2)) (0, [])).1

/-- A kernel's code (R386): every bundle decodes, none with WRAP, its loops follow R376 to R378, and WCYC is its cycle count with every count
register at KMAX. (Log: 144 DESIGN CHOICE) -/
def State.codeOk (s : State) (k : Nat) : Bool :=
  let e := s.kernelEntry k
  let img := match s.tileImage (leAt e 2 1) with
    | some d => ((s.sect 4).drop (leAt d 4 4)).take (leAt d 2 1 * 4096)
    | none => []
  match kernelCode img (img.length / 16 + 1) (leAt e 4 4) with
  | none => false
  | some bs =>
    let x : Tile := { k := (List.range 8).foldl (fun m r => sparseSet 0 m r (s.kMax k r)) [] }
    bs.all (fun b => bundleOk b && b.all (fun op => op.saturating == op)) && formOk (s.kMax k) (bs.length + 1) 0 bs
      && decide (cyclesOf (x.unroll (bs.length + 1) bs) = leAt e 8 4)

/-- Each START of a tile is followed by its kernel's check, which passes at WCYC, and each check by a START; `fin` is the last subframe looked
at, whose STARTs may have their checks after it. -/
def State.tileSeqOk (s : State) (fin : Nat) : List (Nat × FAct) → Bool
  | x :: y :: l =>
    (if x.2.cls = 3 then
      y.2.cls == 4 && bits y.2.arg 11 0 == bits x.2.arg 11 0 && (y.1 == x.1 || y.1 == x.1 + 1)
        && decide (startCycle x + s.wcyc x.2 ≤ 1500000 * x.1 + (y.2.tick + (y.1 - x.1) * subTicks) * 3125 / 1024)
     else y.2.cls == 3) && s.tileSeqOk fin (y :: l)
  | [x] => x.2.cls != 3 || x.1 == fin
  | [] => true

/-- The class 3 and 4 actions of a tile. -/
def State.tileActs (s : State) (t : Nat) : List (Nat × FAct) := s.plan.filter (fun x => (x.2.cls == 3 || x.2.cls == 4) && x.2.unit == t)

def State.kernelsOk (s : State) : Bool :=
  (List.range 256).all (fun t => s.tileSeqOk (s.hdr 40 2 + 3) (s.tileActs t)) && (List.range (s.hdr 44 2)).all s.codeOk

-- Bands of retuned paths and of captures (R314)

/-- Every action of every furrow. -/
def State.allActs (s : State) : List FAct := s.furrows.flatten

/-- The frequencies that class 7 actions set on a path: `op` 0 transmit, 1 receive. -/
def State.setFreqs (s : State) (op n : Nat) : List Nat :=
  (s.allActs.filter (fun a => a.cls == 7 && a.op == op && (unitPaths s.part a.unit).contains n)).map (fun a => s.param (bits a.arg 22 7) % 2 ^ 24)

/-- A CAPTURE selects a path. -/
def State.captured (s : State) (n : Nat) : Bool := s.allActs.any (fun a => a.cls == 9 && capPath a == n)

/-- The bands of a path at every frequency it takes, that of CNVCFG first: kind (0 TX, 1 RX, 2 observation) and edges in Hz. -/
def State.pathBands (s : State) (n : Nat) : List (List (Nat × Int × Int)) :=
  let k := chipOf n
  let txs := s.cnvTxFc k :: s.setFreqs 0 n
  let band (kind : Nat) (o : Option (Int × Int)) : Option (Nat × Int × Int) := o.map (fun b => (kind, b.1, b.2))
  if s.cnvPlan k = 0xFF then []
  else
    [if s.txOn n then txs.filterMap (fun f => band 0 (s.txBand f)) else [],
     if s.rxUsed n then (s.cnvRxFc k :: s.setFreqs 1 n).filterMap (fun f => band 1 (s.rxBand f)) else [],
     if s.captured n then txs.map (fun f => (2, (f : Int) * 1000 - (4 * s.engineHz / 10 : Nat), (f : Int) * 1000 + (4 * s.engineHz / 10 : Nat))) else []]

/-- The zone, from 0, that a band of a kind keeps within, with the guard of R314. -/
def State.zoneOf (s : State) (k : Nat) (b : Nat × Int × Int) : Option Nat :=
  let nyq := dacNyquist (s.cnvPlan k) * 1000
  let r : Int × Int × Nat := if b.1 = 0 then (nyq, 400000000, 2) else (nyq / 2, 250000000, 4)
  (List.range r.2.2).find? (fun z => decide ((z : Int) * r.1 + r.2.1 ≤ b.2.1) && decide (b.2.2 + r.2.1 ≤ (z + 1 : Int) * r.1))

/-- Every band of a path within the limits and, kind by kind, in one zone. -/
def State.pathBandsOk (s : State) (n : Nat) : Bool :=
  (s.pathBands n).all (fun l => l.all (fun b => decide (400000000 ≤ b.2.1) && decide (b.2.2 ≤ 15400000000)
    && (s.zoneOf (chipOf n) b).isSome && s.zoneOf (chipOf n) b == (l.head?.bind (s.zoneOf (chipOf n)))))

/-- Check 6 of the furrows. (Log: 171 DEDUCED, 252 DESIGN CHOICE) -/
def State.furrowsOk (s : State) : Bool :=
  decide (s.furrows.length = s.hdr 38 1) && s.furrows.all (fun f => f.all s.actOk && furrowOrderOk f)
    && s.marksOk && s.selectsOk && s.commitsOk && s.settingsOk && s.extractsOk && s.closesOk && s.soundsOk && s.adaptsOk && s.convertersOk
    && s.retunesOk && s.strobesOk && s.phasesOk && s.sendsOk && s.conversionsOk && s.dmaSchedOk && s.kernelsOk
    && (List.range s.part.paths).all s.pathBandsOk

/-- Check 4 of the furrows (R116): classes 18 and 19 in a sheaf of their compatibility class. -/
def State.furrowClassOk (s : State) (cls : Nat) : Bool :=
  s.allActs.all (fun a => (a.cls != 18 || decide (2 ≤ cls)) && (a.cls != 19 || decide (3 ≤ cls)))

-- Check 7 (R37)

/-- The paths that an action's UNIT names, beyond the part's or not. -/
def actPaths (a : FAct) : List Nat :=
  let span (n : Nat) : List Nat := (List.range n).map (fun i => n * (a.unit % 16) + i)
  if a.unit = 0xFF then [] else if a.cls = 5 ∨ a.cls = 6 then span 8
  else if a.unit < 64 then [a.unit] else if a.unit < 0x90 then span 8 else span 16

/-- What an action uses is on the part (R37, R436). -/
def State.actHere (s : State) (a : FAct) : Bool :=
  let p := s.part
  let paths : Bool := (actPaths a).all (fun n => decide (n < p.paths))
  match a.cls with
  | 5 => paths
  | 6 => if a.op = 0 then paths else if a.op = 2 then decide (a.unit < p.gleaners) else true
  | 7 => paths
  | 8 => if a.op = 3 then decide (bits a.arg 12 7 < p.paths) else paths
  | 9 => decide (a.unit < p.gleaners)
  | 11 => a.op != 0 || paths
  | 12 => p.tine
  | 13 => p.paths64 || !(decide (68 ≤ a.unit ∧ a.unit ≤ 71) || decide (92 ≤ a.unit ∧ a.unit ≤ 93))
  | 15 => decide (a.unit < p.chiplets)
  | 18 => p.ex
  | 19 => p.ex
  | _ => true

/-- Check 7: the records and tables, the furrows' units, and bands above 7.2 GHz on an L-band part. -/
def State.checkFeatures (s : State) : Bool :=
  s.featuresOk && s.allActs.all s.actHere
    && (s.part.hBand || (List.range s.part.paths).all (fun n => (s.pathBands n).all (fun l => l.all (fun b => decide (b.2.2 ≤ 7200000000)))))

-- Check 8 (R327, R344)

/-- Check 8: what CNVCFG and PSTEP set, the bands of every retune, every tone at every transmit frequency of its path, and every bias
pair that a STAGE holds. (Log: 254 DEDUCED) -/
def State.envelopeOk (s : State) (e : List Byte) : Bool :=
  s.envelopeKept e
    && (List.range s.part.paths).all (fun n => (s.pathBands n).all (fun l => l.all (fun b =>
        b.1 == 2 || envAllows e b.1 (b.2.1 / 1000) ((b.2.2 + 999) / 1000))))
    && s.allActs.all (fun a => a.cls != 7 || a.op != 4 || bits (s.param (bits a.arg 22 7 + 1)) 14 13 == 0
        || (unitPaths s.part a.unit).all (fun n => (s.cnvTxFc (chipOf n) :: s.setFreqs 0 n).all (fun f =>
            let x := (f : Int) + signed 32 (s.param (bits a.arg 22 7))
            envAllows e 0 x x)))
    && s.allActs.all (fun a => a.cls != 10 || a.op != 1 || (s.stageWords a).all (fun w => biasPermitted e (bits w 6 0) (bits w 19 8) (bits w 21 20)))

-- Check 9 (R124, R126, R127, R160, R163, R224, R240, R277, R309, R310, R350, R386, R428)

/-- No two intervals, each a begin and a length, share a tick. -/
def apart (l : List (Nat × Nat)) : Bool := pairsAll (fun x y => !overlaps x.1 x.2 y.1 y.2) l

/-- Blocks of 128 bytes that a range meets. -/
def blocks (a n : Nat) : Nat := if n = 0 then 0 else (a + n - 1) / 128 - a / 128 + 1

/-- Bursts of a CIRCULAR copy of `n` bytes into a ring at `dst`, at most (R414, R424): it may begin anywhere, and wrap after any part, the
ring ending anywhere; a part longer by 128 bytes makes as many in all. -/
def ringBursts (dst n : Nat) : Nat :=
  ((List.range (min (n / 8) 17)).map (fun j => if j = 0 then blocks 120 n else blocks 120 (8 * j) + blocks dst (n - 8 * j))).foldl max 0

/-- Mover ticks of a descriptor of a scheduled chain, at most (R414, R424); `wrote` says that one before it wrote DRAM. -/
def descTicks (d : List Nat) (wrote : Bool) : Nat :=
  let tileEnd := (dSrcSp d == 0 && decide (dSrc d < 0x2000000)) || (dDstSp d == 0 && decide (dDst d < 0x2000000))
  let cost := if dKind d = 1 ∨ (dSrcSp d = 1 ∧ dDstSp d = 1) then 8 else if tileEnd then 6 else 4
  let bursts := match dKind d with
    | 1 => if dShuf d = 1 then ((List.range (dNstr d)).map (fun p => blocks (dDst d + p * dStride d) (dElems d * dEs d))).sum else blocks (dDst d) (dLen d)
    | 2 => ringBursts (dDst d) (dLen d)
    | _ => blocks (dDst d) (dLen d)
  2 + (if dEnd d then 1 else 0) + if dKind d = 3 then 1 + (if wrote then 128 else 0) else bursts * cost

/-- Mover ticks of a chain. -/
def chainTicks (ds : List (List Nat)) : Nat :=
  (ds.foldl (fun (r : Nat × Bool) d => (r.1 + descTicks d r.2, r.2 || (dKind d != 3 && dDstSp d == 1))) (0, false)).1

/-- A chain addresses DRAM. -/
def chainDram (ds : List (List Nat)) : Bool := ds.any (fun d => dKind d != 3 && (dSrcSp d == 1 || dDstSp d == 1))

/-- The DMA slots of a channel: begin, length and chain (R427). -/
def State.dmaSlots (s : State) (n : Nat) : List (Nat × Nat × List (List Nat)) :=
  let l := s.dmaPlan n
  ((l.filter (fun x => x.2.op == 0)).zip (l.filter (fun x => x.2.op == 1))).map (fun p =>
    (fireAt p.1, fireAt p.2 - fireAt p.1, (s.dmaChainOf p.1.2).getD []))

/-- Every byte that a descriptor of a scheduled channel reads or writes lies in the sheaf's reservations, for CIRCULAR the whole ring (R428). -/
def State.dmaReserved (s : State) (n : Nat) (d : List Nat) : Bool :=
  let src := s.dmaRegion true (dSrcSp d)
  let dst := s.dmaRegion true (dDstSp d)
  match dKind d with
  | 3 => true
  | 2 => (List.range (dLen d)).all (fun o => src (dSrc d + o)) && (List.range (s.dmaRlen n)).all (fun o => dst (dDst d + o))
  | 1 => (List.range (dLen d)).all (fun o =>
      if dShuf d = 2 then src (dSrc d + o) && dst (dDst d + o) else src (shufPair d o).1 && dst (shufPair d o).2)
  | _ => (List.range (dLen d)).all (fun o => src (dSrc d + o) && dst (dDst d + o))

def State.allDmaSlots (s : State) : List (Nat × Nat × List (List Nat)) := (List.range 16).flatMap s.dmaSlots

/-- The DRAM slots that a fetch holds in its tightest placement (R224). -/
def fetchSlots (x : Nat × FAct) : List Nat :=
  (List.range ((bits x.2.arg 17 7 + 15) / 16)).map (fun n => (fireAt x + 63) / 64 + n + n / 3)

/-- The DRAM slots that a sheaf without RESERVE holds (R126, R224, R428). -/
def State.dramSlots (s : State) : List Nat :=
  (s.plan.filter (fun x => x.2.cls == 2)).flatMap fetchSlots
    ++ s.allDmaSlots.flatMap (fun d => if chainDram d.2.2 then (List.range ((d.2.1 + 63) / 64)).map (fun i => (d.1 + 63) / 64 + i)
        |>.filter (fun i => decide (64 * i < d.1 + d.2.1)) else [])

/-- DRAM (R126): no slot is held twice, at most 5,760 are in a subframe, one in any four is free. -/
def State.dramOkay (s : State) : Bool :=
  let l := s.dramSlots
  s.sect 7 != [] ||
    (pairsAll (fun x y => x != y) l
      && (List.range (s.hdr 40 2)).all (fun k => decide ((l.filter (fun i => i / 7680 == k + 3)).length ≤ 5760))
      && l.all (fun i => !(l.contains (i + 1) && l.contains (i + 2) && l.contains (i + 3))))

/-- R127. -/
def State.dramFree (s : State) : Bool := !s.dramOptional || s.allActs.all (fun a => a.cls != 14 || a.op != 0 || !chainDram ((s.dmaChainOf a).getD []))

/-- The tiles' intervals (R386). -/
def State.tilesApart (s : State) : Bool :=
  (List.range 256).all (fun t => apart (((s.tileActs t).filter (fun x => x.2.cls == 3)).map (fun x => (startCycle x, s.wcyc x.2))))

/-- Every kernel window lies within its partition (R14, R386), and no write window meets the ring, the checkpoints or a replacement
buffer (R240). (Log: 255 DEDUCED) -/
def State.windowsFit (s : State) : Bool :=
  let b := s.record 2
  let r := s.ringBytes
  let rb := 16384 * (s.carriers.filter (fun c => decide (0 < s.budget c))).length
  (List.range (s.hdr 44 2)).all (fun k => (List.range 4).all (fun j =>
    let w := leAt (s.kernelEntry k) (32 + 8 * j) 4
    let lo := bits w 31 6 * 64
    let len := leAt (s.kernelEntry k) (36 + 8 * j) 4 * 64
    bits w 3 0 == 0 || (decide (lo + len ≤ partSize (bits w 3 0))
      && (bits w 3 0 != 3 || !bit w 5 || s.carriers.all (fun c => !overlaps lo len (s.replBuf c).1 (s.replBuf c).2))
      && (bits w 3 0 != 2 || !bit w 5 || b == [] || (!overlaps lo len (leAt b 8 4) r.1 && !overlaps lo len (leAt b 12 4) (r.2 + rb))))))

/-- Captures, adaptations and extractions (R277, R309, R310). -/
def State.capturesFit (s : State) : Bool :=
  let caps := ofOp s.plan 9 0
  let ads := ofOp s.plan 6 2
  let exts := ofOp s.plan 8 3
  let extTicks (x : Nat × FAct) : Nat :=
    ((List.range (bits x.2.arg 16 13)).foldl (fun a _ => a + symLen (s.scs x.2.car) (airPlace (s.scs x.2.car) (a % subTicks)).1
      (airPlace (s.scs x.2.car) (a % subTicks)).2.1) (s.boundOf x)) - s.boundOf x
  (List.range 8).all (fun g => apart ((caps.filter (fun x => x.2.unit == g)).map (fun x => (fireAt x, s.capEnd x - fireAt x))))
    && ads.all (fun x => decide ((ads.filter (fun y => decide (fireAt y ≤ fireAt x) && decide (fireAt x < fireAt y + 24576))).length ≤ 4))
    && caps.all (fun x =>
        let l := capLen (bits x.2.arg 9 8)
        let p := capPath x.2
        decide (64 + 4 * l + 4 * (l + 2 * s.capSpan p) * (2 + (s.nbPresent p).length) ≤ leAt (s.record 6) 12 4))
    && (List.range 8).all (fun k => apart ((exts.filter (fun x => x.2.unit == k)).map (fun x => (s.boundOf x, extTicks x))))
    && exts.all (fun x => !bit x.2.arg 17 || decide (4 * (extTicks x / 2 ^ s.rateK x.2.car) ≤ leAt (s.record 7) 16 4))

/-- Ticks of an FSB chain: its frames, with one idle clock between them (R349, R350). -/
def State.fsbTicks (s : State) (bus i : Nat) : Nat :=
  let c := s.fsbChain 16 i
  ((c.map (fun w => if bit w 20 then 27 else 26)).sum + c.length - 1) * 16 * 2 ^ bits (leAt (s.record 0x0B) 1 1) (2 * bus + 1) (2 * bus)

/-- FSB_SEND chains of one bus do not overlap (R350). -/
def State.chainsApart (s : State) : Bool :=
  (List.range 4).all (fun k => apart (((ofOp s.plan 11 1).filter (fun x => x.2.unit == k)).map (fun x => (fireAt x + 16, s.fsbTicks k (bits x.2.arg 15 0)))))

/-- LINK (R160, R163): every entry of the degradation table fits its lanes, and the protected traffic its store. (Log: 50 DESIGN CHOICE) -/
def State.linkFits (s : State) : Bool :=
  match s.shf.applied with
  | none => true
  | some sh => (if s.part.ex then [Port.up, Port.cas] else [Port.up]).all (fun p => [0, 1].all (fun dir =>
      decide (Config.linkBurst sh.digest (portKey p) dir (s.get (pRate p)) ≤ 393216)
        && (List.range ((s.portLanes p).length + 1)).all (fun n => decide (n < s.get (pMin p)) || n == 0 || s.layersFit sh p dir n (s.layersFor p dir n))))

/-- Check 9. (Log: 50 DESIGN CHOICE, 171 DEDUCED, 173 DEDUCED) -/
def State.resourcesFit (s : State) : Bool :=
  s.buffersFit && s.furrows.all (fun f => decide (f.length ≤ 65536))
    && decide (8 * (s.furrows.map List.length).sum + (s.sect 5).length ≤ 0x200000)
    && s.furrows.all (fun f => decide ((f.filter (fun a => a.cls == 13)).length ≤ 500))
    && s.tilesApart && s.windowsFit && s.dramOkay && s.dramFree && s.capturesFit && s.chainsApart && s.linkFits
    && apart (s.allDmaSlots.map (fun d => (d.1, d.2.1))) && s.allDmaSlots.all (fun d => decide (chainTicks d.2.2 ≤ d.2.1))
    && (List.range 16).all (fun n => (s.dmaSlots n).all (fun d => d.2.2.all (s.dmaReserved n)))

-- The whole (R119)

/-- R119: the reason code of the first failing check; `rest` is the first check that fails in contents whose layout the spec does not
state (RESERVE, DEGRADE, the actions of classes 0, 1 and 16). None when the image passes. (Log: 168 DESIGN CHOICE, 169 DEDUCED) -/
def State.sheafFail (s : State) (img : List Byte) (rest : Option Nat) : Option Nat :=
  let fails (n : Nat) : Bool := rest == some n
  let t := s.withSheaf (sheafOf img)
  if !headerOk img then some rcSheafFormat
  else if !s.sigOk (leAt img 39 1) rightSheaf (imgSigned img) ((img.drop (leAt img 64 8)).take (leAt img 72 4)) then some rcSheafSig
  else if s.get R.SHF_CAP.MAXCLASS < leAt img 6 2 then some rcSheafClass
  else if !tableOk img || !t.furrowClassOk (leAt img 6 2) || fails 4 then some rcSheafFormat
  else if !hashesOk img then some rcSheafHash
  else if !t.contentsOk || !t.furrowsOk || fails 6 then some rcSheafFormat
  else if !t.checkFeatures || fails 7 then some rcFeature
  else if !t.envelopeOk s.envelope || fails 8 then some rcEnvelope
  else if !t.resourcesFit || fails 9 then some rcResource
  else none

end Sys2Proof.Machine
end

