-- ==== Sys2Proof/Machine/Time.lean ====
section
/-! DEFINITION. Network time (04_network_time.md): PTP exchanges, the servo and its states, time steps, FCTL, PPS, FSYNC, and the
transparent clock. -/

namespace Sys2Proof.Machine

-- Units and configuration

/-- Parts of a unit of 2^-16 ns in which the quantities of R81 are whole: means of up to 16 halves of thirds. -/
def fine : Int := 4324320

/-- Nanoseconds, and units of 1/16 ns, in those parts. -/
def nsFine (n : Int) : Int := n * 65536 * fine
def sixteenth (n : Int) : Int := n * 4096 * fine

/-- Tick-clock cycles in a second. -/
def secondCycles : Nat := 491520000

/-- The TIM registers whose writes take effect at the next Sync (R109). -/
def timConfig : List Nat :=
  [R.TIM_CTRL.w.addr, R.TIM_STEPTHR.w.addr, R.TIM_PATHTHR.w.addr, R.TIM_LOCKTHR.w.addr, R.TIM_HOLDOVER.w.addr, R.TIM_ASYM_UP.w.addr,
   R.TIM_ASYM_CAS.w.addr, R.TIM_FCTLCFG.w.addr, R.TIM_PPSCFG.w.addr, R.TIM_FSYNCCFG.w.addr]

/-- A configuration field in force. -/
def State.tcfg (s : State) (f : Fld) : Nat := f.read (sparseGet (resetWord s.part f.addr) s.tim.cfg f.addr)
def State.tcfgInt (s : State) (f : Fld) : Int := signed f.width (s.tcfg f)

/-- Exchanges are dropped and counted. (Log: 28 DEDUCED) -/
def State.discard (s : State) (n : Nat) : State := s.countBy R.TIM_CNT_DISC.DISC R.TIM_CNTOVF.OVF 1 n

/-- The TIM registers with W1C bits, whose clearing waits for a Sync as every write does (R109). -/
def timSticky : List Nat := [R.TIM_STATUS.w.addr, R.TIM_CNTOVF.w.addr]

/-- A write of 1 to W1C bits of a TIM register, which takes effect at the next Sync (R109). -/
def State.timClear (s : State) (addr : Nat) (bits : Word) : State :=
  { s with tim := { s.tim with clears := sparseSet 0 s.tim.clears addr (sparseGet 0 s.tim.clears addr ||| bits) } }

/-- A Sync arrives: the registers take effect, W1C bits clear, and exchanges of an old domain are dropped (R109). (Log: 29 DEDUCED) -/
def State.latchCfg (s : State) : State :=
  let l := (timConfig.map (fun a => (a, s.word a))).filter (fun x => decide (x.2 ≠ resetWord s.part x.1))
  let t := s.each timSticky (fun a t => t.setWord a (t.word a &&& ~~~ sparseGet 0 s.tim.clears a))
  if s.tcfg R.TIM_CTRL.DOMAIN = s.get R.TIM_CTRL.DOMAIN then { t with tim := { t.tim with cfg := l, clears := [] } }
  else { t with tim := { t.tim with cfg := l, clears := [], exch := [] } }.discard s.tim.exch.length

/-- A quotient rounded either way where it is not whole: the spec gives no rounding. (Log: 33 DESIGN CHOICE) -/
def State.rounded (s : State) (x : Int) (d : Int) : Int := if x % d = 0 then x / d else x / d + ((Config.pick s.free % 2 : Nat) : Int)

-- y and FCTL (R83, R86, R97 to R99)

/-- Start an FCTL frame with y. -/
def State.fctlStart (s : State) (y : Int) : State :=
  let v := unsigned 32 (y / 2 ^ s.tcfg R.TIM_FCTLCFG.SHIFT)
  { s with tim := { s.tim with
    fctl := some y
    fctlNext := none
    fctlOut := s.tim.fctlOut ++ [leBytes 1 (2 * s.tcfg R.TIM_FCTLCFG.ADDR) ++ leBytes 1 (s.tcfg R.TIM_FCTLCFG.REG)
      ++ (if s.tcfg R.TIM_FCTLCFG.ORDER = 0 then beBytes 4 v else leBytes 4 v)] } }

/-- The y of the updates that the last 16 s need, newest first: those within it and the one before it. -/
def yKeep (w : Nat) : List (Nat × Int) → List (Nat × Int)
  | [] => []
  | (c, y) :: r => if c ≤ w then [(c, y)] else (c, y) :: yKeep w r

/-- A servo update of y, limited to ±100 ppm (R83); a change goes to FCTL while FCTL_EN is 1 (R97, R98). -/
def State.setY (s : State) (y : Int) : State :=
  let v := max (-25600000) (min 25600000 y)
  if v = s.getInt R.TIM_FREQ.Y then s
  else
    let t : State := { s with tim := { s.tim with yHist := yKeep (s.tim.cycles - 16 * secondCycles) ((s.tim.cycles, v) :: s.tim.yHist) } }
    let u := t.putInt R.TIM_FREQ.Y v
    if u.tcfg R.TIM_CTRL.FCTL_EN = 0 then u
    else match u.tim.fctl with
      | none => u.fctlStart v
      | some _ => { u with tim := { u.tim with fctlNext := some v } }

/-- What the slews of the last second leave of the 50 ppb that R86 allows, in units of y. (Log: 31 DESIGN CHOICE) -/
def State.slewRoom (s : State) : Int :=
  12800 - ((((s.tim.slews.filter (fun x => decide (s.tim.cycles < x.1 + secondCycles))).map (·.2)).sum : Nat) : Int)

/-- Slew on an offset: y changes by a free amount within the limit of R86. With FCTL_EN = 0 a running sheaf admits none (R83). (Log: 31 DESIGN CHOICE) -/
def State.slewBy (s : State) (off : Int) : State :=
  if s.tcfg R.TIM_CTRL.FCTL_EN = 0 ∧ s.running then s
  else
    let room := s.slewRoom
    let y := s.getInt R.TIM_FREQ.Y
    let t := s.setY (y + max (-room) (min room (Config.slew s.free off)))
    let d := (t.getInt R.TIM_FREQ.Y - y).natAbs
    { t with tim := { t.tim with slews := (t.tim.cycles, d) :: t.tim.slews.filter (fun x => decide (t.tim.cycles < x.1 + secondCycles)) } }.fresh

/-- The sum over the cycles from `w` to `e` of the y in force. -/
def yArea (w : Nat) : Nat → List (Nat × Int) → Int
  | _, [] => 0
  | e, (c, y) :: r => if c ≤ w then y * ((e - w : Nat) : Int) else y * ((e - c : Nat) : Int) + yArea w c r

-- Servo states (R85)

def timFreerun : Nat := 0
def timAcquire : Nat := 1
def timLocked : Nat := 2
def timHoldover : Nat := 3
def timRemeasure : Nat := 4

/-- Enter a servo state. LOCKED starts PPS_OUT; FREERUN stops it and forgets the master (R77, R106). -/
def State.servoTo (s : State) (st : Nat) : State :=
  let t := (s.put R.TIM_STATUS.STATE st).putFlag R.TIM_STATUS.LOCK (st == timLocked)
  let m : Tim := { t.tim with lockCnt := 0, unlockCnt := 0, pathCnt := 0 }
  if st = timAcquire then { t with tim := { m with freqRef := none, freqDone := false } }
  else if st = timLocked then { t with tim := { m with ppsReady := true, everLocked := true } }
  else if st = timFreerun then
    { t with tim := { m with
      ppsReady := false, ppsOut := false, ppsEnd := if m.ppsOut then some m.cycles else m.ppsEnd, run := [], gm := none, annLog := none } }
  else { t with tim := { m with run := [] } }

/-- The servo follows a master: LOCKED, ACQUIRE or REMEASURE. -/
def State.servoLive (s : State) : Bool :=
  let st := s.get R.TIM_STATUS.STATE
  st == timAcquire || st == timLocked || st == timRemeasure

/-- Enter HOLDOVER with the mean of y over the final 16 s (R89); the history goes back to the start of the tick clock, FREERUN included. (Log: 33 DESIGN CHOICE, 236 DESIGN CHOICE) -/
def State.holdover (s : State) : State :=
  let c := s.tim.cycles
  let t := if 16 * secondCycles ≤ c then
      (s.setY (s.rounded (yArea (c - 16 * secondCycles) c s.tim.yHist) (16 * secondCycles : Nat))).fresh
    else s
  t.servoTo timHoldover

/-- SERVO_EN = 0: FREERUN at once, y frozen (R88). -/
def State.servoOff (s : State) : State :=
  let t := s.put R.TIM_CTRL.SERVO_EN 0
  let w := R.TIM_CTRL.SERVO_EN.insert (sparseGet (resetWord t.part R.TIM_CTRL.w.addr) t.tim.cfg R.TIM_CTRL.w.addr) 0
  { t with tim := { t.tim with cfg := sparseSet (resetWord t.part R.TIM_CTRL.w.addr) t.tim.cfg R.TIM_CTRL.w.addr w } }.servoTo timFreerun

-- Time steps (R87, R93 to R96)

/-- What a time step breaks whether a sheaf runs or not: exchanges, the run of R87, duty stamps (R254), captures (R278), commits (R271). (Log: 37 DEDUCED) -/
def State.stepBreaks (s : State) (oldT : Nat) : State :=
  let sel := fun (l : List (Nat × Nat × Nat)) => l.map (fun x => if x.2.1 ≤ oldT then (x.1, 0, x.2.2) else x)
  let t : State := { s with
    tim := { s.tim with exch := [], run := [], freqRef := none }
    vaon := { s.vaon with duty := s.vaon.duty.map (fun d => (d.1, d.2.map (fun e => { e with broken := true }))) }
    dpd := { s.dpd with caps := s.dpd.caps.map (fun c => { c with step := true }), sel := sel s.dpd.sel }
    txc := { s.txc with sel := sel s.txc.sel } }
  (t.dpdSettle t.tick).discard s.tim.exch.length

/-- The pending START is cancelled (R95); the high-water mark stays, which a STOP alone clears. (Log: 34 DEDUCED) -/
def State.stepCancels (s : State) : State :=
  let t := (s.winnowFrom 0 none).slotsEnd.put R.SHF_STATE.RUN runReady
  let u : State := { t with shf := { t.shf with startAsker := none, faultAt := none, noFire := none } }
  match s.shf.startAsker with
  | some a => u.critNack a rcStepped
  | none => u

/-- The run state becomes READY with the boundary that R134 measures from, and the high-water mark is cleared (R95, R139). -/
def State.stopReady (s : State) (bound : Nat) : State :=
  let t := ((s.slotsEnd.put R.SHF_STATE.RUN runReady).put R.SHF_NOW.FURROW 0).put R.TIM_STATUS.STEP_MUTE 0
  { t with
    shf := { t.shf with tail := false, stopBound := some bound, faultAt := none, noFire := none }
    tim := { t.tim with highWater := none }
    txc := { t.txc with muteStep := none } }

/-- The pending STOP takes effect at the step (R139); the outputs go to their idle states at the end of the subframe. (Log: 34 DEDUCED) -/
def State.stepStops (s : State) : State :=
  let t := ((s.muteStopFrom s.tick).winnowFrom 0 none).stopReady (s.frameBoundary s.tick)
  { t with shf := { t.shf with stepStop := true } }

/-- Receive output is invalid for air time from a tick to another, on every path; at a forward step in whole symbols (R294). (Log: 36 DEDUCED) -/
def State.invalidSpan (s : State) (from_ to_ : Nat) (step : Bool) : State :=
  { s with rxc := { s.rxc with inval := s.rxc.inval ++ (List.range s.part.paths).map (fun n => ⟨n, 7, from_, some to_, step, !step⟩) } }

/-- A step while the schedule runs: backward it mutes to the first frame boundary past the high-water mark (R93); forward it skips
(R94). The chain restarts from zero checkpoints (R250), and air times that come again after a backward step have not been played. (Log: 36 DEDUCED, 37 DEDUCED) -/
def State.stepRuns (s : State) (oldT : Nat) : State :=
  let newT := s.tick
  if newT < oldT then
    let t : State := { s with txc := { s.txc with restart := true, gap := false, eng := s.txc.eng.filter (fun e => decide (e.1 < newT) || !e.2.played) } }
    let lift := s.frameBoundary (max newT ((s.tim.highWater.map (· + 1)).getD 0))
    let since := match s.txc.muteStep with | some m => min m.since newT | none => newT
    ((({ t with txc := { t.txc with muteStep := some ⟨since, some lift⟩ } }.put R.TIM_STATUS.STEP_MUTE 1).invalidSpan newT lift true).winnowFrom 0 none)
  else { s with txc := { s.txc with gap := if s.txc.restart then s.txc.gap else true, restart := true } }.invalidSpan (oldT - 2 * subTicks) newT false

/-- A step by an offset: the counter is loaded, TIM_EPOCH increments, and the tally records it (R87). (Log: 33 DESIGN CHOICE, 35 DEDUCED) -/
def State.timeStep (s : State) (off : Int) : State :=
  let old := s.tim.now
  let new := NetTime.ofUnits (old.units - s.rounded off fine)
  let t := ({ s with tim := { s.tim with now := new } }.put R.TIM_EPOCH.EPOCH (s.get R.TIM_EPOCH.EPOCH + 1)).stepBreaks old.tick
  let u := (t.tally 0x0011 (leBytes 6 old.sec ++ leBytes 4 old.ns ++ leBytes 6 new.sec ++ leBytes 4 new.ns
    ++ leBytes 2 (t.get R.TIM_EPOCH.EPOCH))).fresh
  if u.run = runStarting then u.stepCancels
  else if u.run = runStopping then u.stepStops
  else if u.run = runRunning then u.stepRuns old.tick
  else u

-- The servo at a completed exchange (R81, R85 to R87, R101)

/-- ACQUIRE with no sheaf running: a single offset steps, and the frequency is measured. (Log: 32 DEDUCED) -/
def State.acquiring (s : State) : Bool := s.get R.TIM_STATUS.STATE == timAcquire && !s.running

/-- The frequency measurement of R86, from Syncs at least 1 s apart; `m` is t1 + c_sync. (Log: 32 DEDUCED, 33 DESIGN CHOICE) -/
def State.measure (s : State) (t2 m : Int) : State :=
  if !s.acquiring || s.tim.freqDone then s
  else match s.tim.freqRef with
    | none => { s with tim := { s.tim with freqRef := some (t2, m) } }
    | some r =>
      if m - r.2 < nsFine 1000000000 then s
      else
        let e := s.rounded (((t2 - r.1) - (m - r.2)) * 256000000000) (m - r.2)
        { (s.setY (s.getInt R.TIM_FREQ.Y - e)) with tim := { (s.setY (s.getInt R.TIM_FREQ.Y - e)).tim with freqDone := true } }.fresh

/-- Step or slew (R87): an offset above STEPTHR joins the run of its sign; one of the other sign ends the run, and slewing resumes from it. (Log: 31 DESIGN CHOICE, 34 DEDUCED, 237 DESIGN CHOICE) -/
def State.correct (s : State) (off : Int) : State :=
  let slewed := { s with tim := { s.tim with run := [] } }.slewBy off
  if |off| ≤ nsFine (s.tcfg R.TIM_STEPTHR.STEPTHR : Nat) then slewed
  else if s.acquiring then s.timeStep off
  else if s.tim.run.any (fun o => (0 < o) != decide (0 < off)) then slewed
  else match s.tim.run with
    | [a, b] => s.timeStep (max (min a b) (min (max a b) off))
    | l => { s with tim := { s.tim with run := l ++ [off] } }

/-- The counts of R85, and the transitions they make; a Sync whose exchange is dropped forms no offset, and neither counts nor breaks a
run. (Log: 34 DEDUCED, 237 DESIGN CHOICE) -/
def State.lockCount (s : State) (off : Int) : State :=
  let thr := nsFine (s.tcfg R.TIM_LOCKTHR.LOCKTHR : Nat)
  if s.get R.TIM_STATUS.STATE = timAcquire then
    let n := if |off| ≤ thr then s.tim.lockCnt + 1 else 0
    if 16 ≤ n then s.servoTo timLocked else { s with tim := { s.tim with lockCnt := n } }
  else if s.get R.TIM_STATUS.STATE = timLocked then
    let n := if 4 * thr < |off| then s.tim.unlockCnt + 1 else 0
    if 4 ≤ n then s.servoTo timAcquire else { s with tim := { s.tim with unlockCnt := n } }
  else s

/-- The servo takes an offset. (Log: 34 DEDUCED) -/
def State.servo (s : State) (t2 m off : Int) : State :=
  if s.tcfg R.TIM_CTRL.SERVO_EN = 0 then s
  else
    let st := s.get R.TIM_STATUS.STATE
    let t := if st = timFreerun ∨ st = timHoldover then s.servoTo timAcquire else s
    ((t.lockCount off).measure t2 m).correct off

/-- The filtered mean path delay of a history. (Log: 34 DEDUCED) -/
def mpdMean (l : List Int) : Int := l.sum / (l.length : Int)

/-- A signed value in the parts of an exchange to a register in 1/16 ns. -/
def State.putSixteenth (s : State) (f : Fld) (x : Int) : State := (s.putInt f (s.rounded x (4096 * fine))).fresh

/-- An exchange completes (R81): mean path delay, path change (R101), offset, servo. (Log: 30 DEDUCED) -/
def State.complete (s : State) (e : Exchange) (t1 t4 cr : Int) : State :=
  let dms := e.t2 - t1 - e.c
  let n := (dms + (t4 - e.t3 - cr)) / 2
  let st := s.get R.TIM_STATUS.STATE
  let far := st == timLocked && !s.tim.mpdHist.isEmpty && decide (nsFine (s.tcfg R.TIM_PATHTHR.PATHTHR : Nat) < |n - mpdMean s.tim.mpdHist|)
  let cnt := if far then s.tim.pathCnt + 1 else 0
  let h := (n :: s.tim.mpdHist).take 16
  let off := dms - mpdMean h - sixteenth e.asym
  let t := { s with tim := { s.tim with mpdHist := h, pathCnt := cnt } }.putSixteenth R.TIM_MPD.MPD (mpdMean h)
  if 4 ≤ cnt then
    let u := (t.putSixteenth R.TIM_OFFSET.OFFSET off).servoTo timRemeasure
    { u with tim := { u.tim with mpdHist := [], remeasure := 16 } }
  else if st = timRemeasure then
    if 1 < t.tim.remeasure then { t with tim := { t.tim with remeasure := t.tim.remeasure - 1 } }
    else
      let u := { t with tim := { t.tim with remeasure := 0 } }.putSixteenth R.TIM_OFFSET.OFFSET off
      u.servoTo (if |off| ≤ nsFine (u.tcfg R.TIM_LOCKTHR.LOCKTHR : Nat) then timLocked else timAcquire)
  else (t.putSixteenth R.TIM_OFFSET.OFFSET off).servo e.t2 (t1 + e.c) off

-- PTP messages (R76 to R80)

/-- The enclosed PTP message. (Log: 25 PRESUMED) -/
def Msg.ptp (m : Msg) : List Byte := (m.body.drop 8).take (beAt m.body 2 2)

/-- messageType. (Log: 25 PRESUMED) -/
def Msg.ptpType (m : Msg) : Nat := beAt m.ptp 0 1 % 16

/-- Timestamp of the body, and correctionField. (Log: 25 PRESUMED) -/
def Msg.ptpTime (m : Msg) : Int := nsFine ((beAt m.ptp 34 6 * 1000000000 + beAt m.ptp 40 4 : Nat) : Int)
/-- (Log: 25 PRESUMED) -/
def Msg.ptpCorr (m : Msg) : Int := signed 64 (beAt m.ptp 8 8)
/-- (Log: 25 PRESUMED) -/
def Msg.ptpSeq (m : Msg) : Nat := beAt m.ptp 30 2
/-- (Log: 25 PRESUMED) -/
def Msg.ptpPort (m : Msg) : List Byte := (m.ptp.drop 20).take 10
def Msg.twoStep (m : Msg) : Bool := bit (beAt m.ptp 6 1) 1

/-- The payload fields of an S-plane message (R78), and the port that a part without cascade lacks (R79). (Log: 28 DEDUCED) -/
def State.payloadChecks (s : State) (m : Msg) : Option (Nat × Nat) :=
  firstFail [
    chk (beAt m.body 0 1 == 1) rcRange 16,
    chk (decide (beAt m.body 1 1 ≤ 1)) rcRange 17,
    chk (decide (44 ≤ beAt m.body 2 2) && decide (beAt m.body 2 2 ≤ 128)) rcRange 18,
    chk (zeroAt m.body 4 4) rcRange 20,
    m.lenIs (8 + beAt m.body 2 2),
    chk (beAt m.body 1 1 == 0 || s.part.ex) rcFeature 17]

/-- The enclosed message's own fields (R77, R79), the domain aside. (Log: 28 DEDUCED) -/
def Msg.ptpChecks (m : Msg) : Option (Nat × Nat) :=
  let t := m.ptpType
  firstFail [
    chk (decide (beAt m.ptp 1 1 % 16 = 2 ∧ beAt m.ptp 1 1 / 16 ≤ 1)) rcRange 25,
    chk (beAt m.ptp 2 2 == beAt m.body 2 2) rcRange 26,
    chk (decide (12 ≤ t) || (4 ≤ t && t < 8) || decide (beAt m.ptp 40 4 ≤ 999999999)) rcRange 64,
    chk (t != 11 || (decide (-3 ≤ signed 8 (beAt m.ptp 33 1)) && decide (signed 8 (beAt m.ptp 33 1) ≤ 3))) rcRange 57]

/-- The message types that the device acts on (R76): Sync, Delay_Req, Follow_Up, Delay_Resp, Announce. -/
def ptpKnown (t : Nat) : Bool := [0, 1, 8, 9, 11].contains t

-- Transparent clock (R103, R104)

/-- A PTP message with its correctionField changed. (Log: 25 PRESUMED) -/
def withCorr (body : List Byte) (c : Int) : List Byte := body.take 16 ++ beBytes 8 (unsigned 64 c) ++ body.drop 24

/-- Forward a PTP message; `res` is its residence in 1/16 tick. A changed correctionField takes a new trailer, which stays wrong where
the old one was. Every Sync and Delay_Req takes its residence, but a replayed one (R159); TIM_ASYM_CAS goes to a
Sync sent down and from a Delay_Req sent up (R102). (Log: 39 DEDUCED, 40 DEDUCED) -/
def State.forwardPtp (s : State) (p : Port) (m : Msg) (res : Nat) : State :=
  let r := if m.replay then 0 else s.rounded (res * 25000 : Nat) 3
  let t := m.ptpType
  let asym := if t = 0 ∧ p = .cas then s.tcfgInt R.TIM_ASYM_CAS.ASYM * 4096
    else if t = 1 ∧ p = .up then -(s.tcfgInt R.TIM_ASYM_CAS.ASYM * 4096) else 0
  let send := fun (s : State) (c : Int) => s.sendChanged p 4 1 m (withCorr m.body (m.ptpCorr + c))
  if s.tcfg R.TIM_CTRL.TC_EN = 0 then s.forwardMsg p 4 1 m
  else if t = 0 ∧ m.twoStep then
    let l := s.tim.residences ++ (if m.replay then [] else [⟨m.ptpSeq, m.ptpPort, r, s.tim.cycles⟩])
    (send { s with tim := { s.tim with residences := l.drop (l.length - 16) } } asym).fresh
  else if t = 0 ∨ t = 1 then (send s (r + asym)).fresh
  else if t = 8 then
    match s.tim.residences.find? (fun x => x.seqId == m.ptpSeq && x.port == m.ptpPort) with
    | some x =>
      let u : State := { s with tim := { s.tim with residences := s.tim.residences.filter (fun y => decide (y ≠ x)) } }
      if s.tim.cycles ≤ x.at_ + secondCycles then send u x.res else (u.forwardMsg p 4 1 m).discard 1
    | none => (s.forwardMsg p 4 1 m).discard 1
  else s.forwardMsg p 4 1 m

/-- An S-plane message: the checks of R172, R78 and R79, then its effect on the one PTP port, the upstream port. What R79 refuses is
discarded and counted as well; a message of another type is discarded without a NACK, whatever R79 says of the message it encloses. (Log: 28 DEDUCED, 235 DESIGN CHOICE) -/
def State.ptpTake (s : State) (m : Msg) (res : Nat) (act : State → State) : State :=
  match s.rxVia 4 1 m true (fun p s => (if m.ptpType = 0 then s.latchCfg else s).forwardPtp p m res) with
  | .done t => t
  | .take t =>
    match t.payloadChecks m with
    | some r => (t.discard 1).nackAt (m.asker 4 1) r.1 r.2
    | none =>
      if !ptpKnown m.ptpType then ((t.passed 4 m).ackIf 4 1 m false 0).discard 1
      else match m.ptpChecks with
      | some r => (t.discard 1).nackAt (m.asker 4 1) r.1 r.2
      | none =>
        let t := if m.ptpType = 0 then t.latchCfg else t
        if beAt m.ptp 4 1 ≠ t.tcfg R.TIM_CTRL.DOMAIN then (t.discard 1).nackAt (m.asker 4 1) rcRange 28
        else
          let u := (t.passed 4 m).ackIf 4 1 m false 0
          if m.port = .up ∧ beAt m.body 1 1 = 0 then act u else u.discard 1

/-- The identity of the device's PTP port. (Log: 26 DESIGN CHOICE) -/
def ptpSelf : List Byte := (List.range 10).map (fun i => BitVec.ofNat 8 (Config.ptpPort i))

/-- The Delay_Req body; the header follows IEEE 1588-2019. (Log: 26 DESIGN CHOICE) -/
def State.delayReq (s : State) (id : Nat) : List Byte :=
  [1, 0] ++ beBytes 2 44 ++ leBytes 4 0 ++ [0x01, 0x12] ++ beBytes 2 44 ++ leBytes 1 (s.tcfg R.TIM_CTRL.DOMAIN) ++ [0] ++ leBytes 2 0
    ++ leBytes 8 0 ++ leBytes 4 0 ++ ptpSelf ++ beBytes 2 id ++ [0x01, 0x7F]
    ++ (List.range 10).map (fun i => BitVec.ofNat 8 (Config.ptpStamp s.tim.reqs i))

/-- A time on the counter, `back` sixteenths of a tick before now (R80). (Log: 26 DESIGN CHOICE) -/
def State.stamp (s : State) (back : Int) : Int := s.tim.now.units * fine - back * 25000 * (fine / 3)

/-- SYNC (R80, R81, R76): `ago` sixteenths of a tick have passed since its first block, and the Delay_Req leaves `later` sixteenths
after now; `res` is the residence of the message where it is forwarded. (Log: 5 DESIGN CHOICE, 27 DEDUCED, 29 DEDUCED) -/
def execSync (m : Msg) (ago later res : Nat) (s : State) : Out :=
  if m.ptpType ≠ 0 then .next s
  else .next (s.ptpTake m res (fun s =>
    if m.replay then s.discard 1
    else
      let id := (Config.ptpSeq + s.tim.reqs) % 65536
      let e : Exchange := ⟨m.ptpSeq, m.ptpPort, id, s.tcfgInt R.TIM_ASYM_UP.ASYM, if m.twoStep then none else some m.ptpTime,
        m.ptpCorr * fine, s.stamp ago, s.stamp (-(later : Int)), none⟩
      let t := (s.count R.TIM_CNT_SYNC.SYNC R.TIM_CNTOVF.OVF 0).transmit .up 4 1 1 0x80 0 (s.delayReq id)
      { t with tim := { t.tim with reqs := t.tim.reqs + 1, exch := t.tim.exch ++ [e] } }))

/-- Replace an exchange by what is known of it now, or complete it. (Log: 30 DEDUCED) -/
def State.exchangeNow (s : State) (old new : Exchange) : State :=
  let rest := s.tim.exch.filter (fun e => decide (e ≠ old))
  match new.t1, new.resp with
  | some t1, some r => { s with tim := { s.tim with exch := rest } }.complete new t1 r.1 r.2
  | _, _ => { s with tim := { s.tim with exch := s.tim.exch.map (fun e => if e = old then new else e) } }

/-- FOLLOW_UP (R81): t1 of a two-step master. (Log: 27 DEDUCED) -/
def execFollowUp (m : Msg) (s : State) : Out :=
  if m.ptpType ≠ 8 then .next s
  else .next (s.ptpTake m 0 (fun s =>
    match s.tim.exch.find? (fun e => e.seqId == m.ptpSeq && e.port == m.ptpPort && e.t1.isNone) with
    | some e => s.exchangeNow e { e with t1 := some m.ptpTime, c := e.c + m.ptpCorr * fine }
    | none => s.discard 1))

/-- DELAY_RESP (R81): t4; with t1 known, the exchange completes. (Log: 27 DEDUCED) -/
def execDelayResp (m : Msg) (s : State) : Out :=
  if m.ptpType ≠ 9 then .next s
  else .next (s.ptpTake m 0 (fun s =>
    match s.tim.exch.find? (fun e => e.reqId == m.ptpSeq && e.resp.isNone && decide ((m.ptp.drop 44).take 10 = ptpSelf)) with
    | some e => s.exchangeNow e { e with resp := some (m.ptpTime, m.ptpCorr * fine) }
    | none => s.discard 1))

/-- ANNOUNCE (R77, R85, R92). (Log: 27 DEDUCED, 264 DESIGN CHOICE) -/
def execAnnounce (m : Msg) (s : State) : Out :=
  if m.ptpType ≠ 11 then .next s
  else .next (s.ptpTake m 0 (fun s =>
    let id := (m.ptp.drop 53).take 8
    let t : State := { s with tim := { s.tim with gm := some id, annLog := some (signed 8 (beAt m.ptp 33 1)) } }
    match s.tim.gm with
    | some g => if g ≠ id ∧ s.servoLive then t.holdover else t
    | none => t))

/-- PTP_MESSAGE_DISCARDED (R76). (Log: 27 DEDUCED) -/
def execPtpMessageDiscarded (m : Msg) (s : State) : Out :=
  if m.ptpType = 0 ∨ m.ptpType = 8 ∨ m.ptpType = 9 ∨ m.ptpType = 11 then .next s
  else .next (s.ptpTake m 0 (fun s => s.discard 1))

/-- EXCHANGE_TIMEOUT (R81): the oldest exchange is dropped. (Log: 4 DESIGN CHOICE) -/
def execExchangeTimeout (s : State) : Out :=
  match s.tim.exch with
  | [] => .next s
  | _ :: r => .next ({ s with tim := { s.tim with exch := r } }.discard 1)

/-- SYNC_TIMEOUT (R85). -/
def execSyncTimeout (s : State) : Out := .next (if s.servoLive then s.holdover else s)

/-- ANNOUNCE_TIMEOUT (R85, R77). -/
def execAnnounceTimeout (s : State) : Out := .next (if s.servoLive && s.tim.annLog.isSome then s.holdover else s)

/-- HOLDOVER_LIMIT (R91). (Log: 238 DESIGN CHOICE) -/
def execHoldoverLimit (s : State) : Out :=
  if s.get R.TIM_STATUS.STATE = timHoldover ∧ s.tcfg R.TIM_HOLDOVER.LIMIT ≠ 0 then
    .next (((s.put R.TIM_STATUS.HOLD_EXPIRED 1).alarm 0x0002 1 0).tally 0x0012 [])
  else .next s

/-- SERVO_DISABLE (R88). -/
def execServoDisable (s : State) : Out := .next s.servoOff

-- FCTL (R98, R99)

/-- FCTL_FRAME_DONE: the frame ends, by a STOP condition or by a NACK of the target; the newest y that waits follows. (Log: 41 DEDUCED, 238 DESIGN CHOICE) -/
def execFctlFrameDone (nak : Bool) (s : State) : Out :=
  if s.tim.fctl.isNone then .next s
  else
    let n := if nak then s.tim.fctlNaks + 1 else 0
    let t : State := { s with tim := { s.tim with fctl := none, fctlNaks := n } }
    let u := if nak then t.count R.TIM_CNT_FCTLNAK.NAK R.TIM_CNTOVF.OVF 4 else t
    let v := if n = 8 then (u.put R.TIM_STATUS.FCTL_FAULT 1).alarm 0x0003 1 0 else u
    match s.tim.fctlNext with
    | some y => .next (v.fctlStart y)
    | none => .next v

-- PPS and FSYNC (R43, R90, R106 to R108)

/-- A signed distance to a 32-bit register; one that does not fit is free. (Log: 38 DEDUCED) -/
def State.putDistance (s : State) (f : Fld) (x : Int) : State :=
  if -(2 ^ 31) ≤ x ∧ x < 2 ^ 31 then s.putInt f x else (s.put f (Config.pick s.free)).fresh

/-- PPS_IN_EDGE (R42, R43, R107, R90): the edge's first transition came `ago` ticks before now, and the level has held since; the filter
takes it from 16 ticks on. (Log: 38 DEDUCED, 238 DESIGN CHOICE) -/
def execPpsInEdge (ago : Nat) (s : State) : Out :=
  let mode := s.tcfg R.TIM_CTRL.PPS_MODE
  if !s.tim.running ∨ ago < 16 ∨ ¬ (mode = 1 ∨ mode = 2) then .next s
  else
    let sec := nsFine 1000000000
    let r := s.stamp (16 * ago) % sec
    let d := if 2 * r ≤ sec then r else r - sec
    let t := (s.putDistance R.TIM_PPSPHASE.PHASE (s.rounded d (4096 * fine))).fresh
    let u := if nsFine (t.tcfg R.TIM_PPSCFG.PPS_LIMIT : Nat) < |d| then (t.put R.TIM_STATUS.PPS_ALARM 1).alarm 0x0004 1 0 else t
    .next (if mode = 2 ∧ u.get R.TIM_STATUS.STATE = timHoldover ∧ |d| ≤ nsFine 100000000 then u.slewBy d else u)

/-- FSYNC_EDGE (R42, R43, R108): the edge's first transition came `ago` ticks before now, and the level has held since; the filter takes
it from 8 ticks on. (Log: 38 DEDUCED, 238 DESIGN CHOICE) -/
def execFsyncEdge (ago : Nat) (s : State) : Out :=
  if !s.tim.running ∨ ago < 8 ∨ s.tcfg R.TIM_CTRL.FSYNC_EN = 0 then .next s
  else
    let per := frameTicks * 2 ^ s.tcfg R.TIM_FSYNCCFG.PERIOD_LOG
    let r := s.cyclePos (s.tick - ago) % per
    let d : Int := if 2 * r ≤ per then r else (r : Int) - per
    let t := s.putDistance R.TIM_FSYNCPOS.POS d
    .next (if (t.tcfg R.TIM_FSYNCCFG.WINDOW : Int) < |d| then (t.put R.TIM_STATUS.FSYNC_ALARM 1).alarm 0x0005 1 0 else t)

/-- TIMING_INPUT_GLITCH (R43, R44): on PPS_IN, or on FSYNC. -/
def execTimingInputGlitch (pps : Bool) (s : State) : Out :=
  if !s.tim.running then .next s
  else if pps then .next (s.count R.TIM_CNT_GLITCH.PPS R.TIM_CNTOVF.OVF 3)
  else .next (s.count R.TIM_CNT_GLITCH.FSYNC R.TIM_CNTOVF.OVF 2)

/-- The time counter is at a whole second, within one tick (R106). -/
def State.wholeSecond (s : State) : Bool := decide ((s.tick + 1) % secondCycles ≤ 2)

/-- PPS_OUT_RISE (R106): a whole second of the time counter, 100 ms past the previous rising edge and 1 ms past the previous pulse. (Log: 4 DESIGN CHOICE) -/
def execPpsOutRise (s : State) : Out :=
  let past := fun (o : Option Nat) (n : Nat) => match o with | some c => decide (c + n ≤ s.tim.cycles) | none => true
  if s.wholeSecond && s.tim.ppsReady && !s.tim.ppsOut && past s.tim.ppsRise hundredMs && past s.tim.ppsEnd subTicks then
    .next { s with tim := { s.tim with ppsOut := true, ppsRise := some s.tim.cycles } }
  else .next s

/-- PPS_OUT_FALL (R106): TIM_PPSCFG.WIDTH milliseconds have passed since the rise. (Log: 4 DESIGN CHOICE) -/
def execPpsOutFall (s : State) : Out :=
  if s.tim.ppsOut ∧ s.tim.ppsRise.getD 0 + s.tcfg R.TIM_PPSCFG.WIDTH * subTicks ≤ s.tim.cycles then
    .next { s with tim := { s.tim with ppsOut := false, ppsEnd := some s.tim.cycles } }
  else .next s

-- Reading the time (R13, R109)

/-- A read of TIM_NOW0 shows the nanoseconds and captures the rest. -/
def State.readNow (s : State) : State :=
  (((s.put R.TIM_NOW0.NS s.tim.now.ns).put R.TIM_NOW1.SEC_LO s.tim.now.sec).put R.TIM_NOW2.SEC_HI (s.tim.now.sec / 2 ^ 32)).put R.TIM_NOW2.FRAC s.tim.now.frac

/-- TIME_READ. -/
def execTimeRead (s : State) : Out := .next s.readNow

/-- One tick-clock cycle of the time counter (R84): y bends the increment only with FCTL_EN = 0 and no sheaf running (R83). (Log: 2 DESIGN CHOICE, 35 DEDUCED) -/
def State.timeCycle (s : State) : State :=
  let y := if s.tcfg R.TIM_CTRL.FCTL_EN = 0 ∧ !s.running then s.getInt R.TIM_FREQ.Y else 0
  let acc := ((s.tim.residue : Int) + 400000 * (256000000000 + y)).toNat
  let d := acc / 768000000000
  { s with tim := { s.tim with
    now := NetTime.ofUnits (s.tim.now.units + d), residue := acc % 768000000000, cycles := s.tim.cycles + 1 } }

end Sys2Proof.Machine
end

