-- ==== Sys2Proof/Machine/Run.lean ====
section
/-! DEFINITION. The schedule (05_sheaf_and_schedule.md): sheaf loads and apply, the full calibration, START, STOP and the run states,
subframes, the mutes of keep-alive and time steps, and link placement. -/

namespace Sys2Proof.Machine

-- SHEAF_LOAD (R117, R119, R544)

/-- Why a load of a mode is refused; none where it is accepted (R117): while DRAM is failed every load of modes 0 to 2. Without a valid lock block no load of modes 0 to 2 is (R67). (Log: 69 DEDUCED, 87 DEDUCED, 167 DEDUCED) -/
def State.loadRefusal (s : State) (mode : Nat) : Option Nat :=
  if mode ≠ 3 ∧ s.dramFailed then some rcDram
  else if mode ≠ 3 ∧ s.flag R.SYS_BOOTSTAT.LOCK_BAD then some rcState
  else if (mode = 1 ∨ mode = 2) ∧ s.run ≠ runEmpty ∧ s.run ≠ runReady then some rcState
  else if s.run = runApplying then some rcState
  else if s.shf.verifying.isSome then some rcState
  else if mode = 2 ∧ s.shf.staged.isNone then some rcState
  else if mode < 2 ∧ !s.shf.stagedOk then some rcState
  else none

/-- Begin to apply the staged sheaf; no keep-alive timeout runs meanwhile (R33). -/
def State.beginApply (s : State) (a : Asker) : State :=
  { s with shf := { s.shf with applying := some a, keepalive := none } }.put R.SHF_STATE.RUN runApplying

/-- The effect of an accepted load. A verification reads the staging area, and keeps the ROOT_SHEAF of its beginning (R408, R470). -/
def State.loadGo (s : State) (mode : Nat) (a : Asker) : State :=
  if mode = 2 then s.beginApply a
  else if mode = 3 then
    ({ s with shf := { s.shf with staged := none } }.put R.SHF_STATE.STAGE 0).critAck a
  else ({ s with shf := { s.shf with staged := none, verifying := some ⟨mode == 1, a, s.rootSheaf⟩ } }.put R.SHF_STATE.STAGE 1).dramReq

/-- SHEAF_LOAD of a mode. -/
def State.sheafLoad (s : State) (i : Instr) (m : Crit) (mode : Nat) : Out :=
  s.mplane i 0x06 (m.msg 1 (leBytes 1 mode)) (s.critical m 1 (leBytes 1 mode) 8 (fun p => badZero p 1 7) (fun a _ s =>
    match s.loadRefusal mode with
    | some r => s.refuseRun a r
    | none => s.loadGo mode a))

/-- SHEAF_LOAD_VERIFY, mode 0. -/
def execSheafLoadVerify (m : Crit) (s : State) : Out := s.sheafLoad (.sheafLoadVerify m) m 0

/-- SHEAF_LOAD_VERIFY_APPLY, mode 1. -/
def execSheafLoadVerifyApply (m : Crit) (s : State) : Out := s.sheafLoad (.sheafLoadVerifyApply m) m 1

/-- SHEAF_LOAD_APPLY, mode 2. -/
def execSheafLoadApply (m : Crit) (s : State) : Out := s.sheafLoad (.sheafLoadApply m) m 2

/-- SHEAF_LOAD_DISCARD, mode 3. -/
def execSheafLoadDiscard (m : Crit) (s : State) : Out := s.sheafLoad (.sheafLoadDiscard m) m 3

/-- Show a digest in eight registers from an address on. -/
def State.putDigest (s : State) (addr : Nat) (d : List Byte) : State :=
  s.each (List.range 8) (fun i t => t.setWord (addr + 4 * i) (BitVec.ofNat 32 (leAt d (4 * i) 4)))

/-- A verification ends with a result. (Log: 48 DEDUCED) -/
def State.verified (s : State) (l : Load) (sh : Sheaf) (fail : Option Nat) : State :=
  let t : State := { s with shf := { s.shf with verifying := none } }
  match fail with
  | some r => ((t.put R.SHF_STATE.STAGE 3).put R.SHF_STATE.LAST_REASON r).critNack l.asker r
  | none =>
    let u := ({ t with shf := { t.shf with staged := some sh } }.put R.SHF_STATE.STAGE 2).putDigest R.SHF_SDIGEST0.w.addr sh.digest
    if l.apply then u.beginApply l.asker else u.critAck l.asker

/-- VERIFY_DONE (R119, R120, R544): `rest` is the first check that fails in contents that the spec does not lay out, and `link` the link-ECC
errors that the reading of the staging area meets, of which an uncorrectable one ends the verification with DRAM_ERROR (R407). (Log: 4 DESIGN CHOICE, 15 DEDUCED, 168 DESIGN CHOICE) -/
def execVerifyDone (rest : Option Nat) (s : State) (link : LinkErrs := []) : Out :=
  match s.shf.verifying with
  | none => .next s
  | some l =>
    if linkBad link then .next (s.dramReq.linkMeets link).cutVerify
    else .next ((s.verified l (sheafOf s.stagedImage) (s.sheafFail s.stagedImage rest)).dramReq.linkMeets link)

-- Apply (R133, R135, R175)

/-- Plans of the chiplets in the applied sheaf. -/
def State.plans (s : State) : List Nat := (List.range s.part.chiplets).map s.cnvPlan

/-- The chiplets on which the full calibration runs (R135): their plan, and with it the synthesizer's frequency, is new to them. (Log: 174 DEDUCED) -/
def State.needCal (s : State) : List Nat :=
  (List.range s.part.chiplets).filter (fun k => s.cnvPlan k != 0xFF &&
    (match s.shf.lastCal with
     | none => true
     | some l => (l.drop k).head? != some (s.cnvPlan k)))

/-- The full calibration of a chiplet begins: its synthesizer moves, its DACs stay quiet. (Log: 175 DEDUCED) -/
def State.beginFullCal (s : State) (k : Nat) : State :=
  ((((s.setCalChip k { s.calChip k with fullCal := true, run := none, unlocked := false }).put (csRunKind k) 7).put (csBusy k) 1).put (csLock k) 0).put
    (clkOk k) 0 |>.renewHeld k

/-- A chiplet whose plan is 0xFF rests: no lock, no clock, no request (R339). (Log: 174 DEDUCED) -/
def State.restChip (s : State) (k : Nat) : State :=
  ((((s.setCalChip k { temps := (s.calChip k).temps }).put (csRunKind k) 7).put (csBusy k) 0).put (csLock k) 0).put (clkOk k) 0
    |>.put (csPending k) 0 |>.renewHeld k

/-- Calibration at apply (R135). (Log: 174 DEDUCED) -/
def State.applyCal (s : State) : State :=
  let need := s.needCal
  let off := (List.range s.part.chiplets).filter (fun k => s.cnvPlan k == 0xFF)
  let last := s.shf.lastCal.map (fun l => (l.zip (List.range l.length)).map (fun x =>
    if off.contains x.2 || need.contains x.2 then 0xFF else x.1))
  let t := (s.each off (fun k t => t.restChip k)).each need (fun k t => t.beginFullCal k)
  { t with
    shf := { t.shf with calPending := need, lastCal := last }
    rxc := { t.rxc with newPlan := (t.rxc.newPlan.filter (fun k => !off.contains k)) } }.putFlag R.SHF_STATE.CAL_DONE need.isEmpty

/-- The registers that show the applied sheaf (R145, R255, R337, R357). -/
def State.showSheaf (s : State) (sh : Sheaf) : State :=
  let t := (((s.put R.SHF_ID_LO.ID (leAt sh.hdr 48 4)).putFlag R.SHF_STATE.DRAM_OPT s.dramOptional).putDigest
    R.SHF_DIGEST0.w.addr sh.digest)
  let u := t.each (List.range t.part.paths) (fun n t => t.putFlag (R.TXC_PATHCTL_n.USED n) (t.txOn n && t.cnvPlan (chipOf n) != 0xFF))
  let v := (u.put R.RFE_CALCFG.POLICY (((List.range 4).filter (fun k => u.calPolicy k == 1)).foldl (fun m k => m + 2 ^ k) 0)).each (List.range 4)
    (fun k t => t.put (csStep k) (t.calStep k))
  if v.part.tine then
    v.each (List.range 16) (fun k t => (t.put (R.RFE_TINE_k.LEN k) (leAt (t.record 0x0D) (4 * k) 2)).put (R.RFE_TINE_k.DIV k) (leAt (t.record 0x0D) (4 * k + 2) 1))
  else v

/-- BEAMS into the beam library (R135, R400); a sheaf without that section leaves the library as it is. (Log: 50 DESIGN CHOICE) -/
def State.loadBeams (s : State) : State :=
  if s.sect 0x0C = [] then s else s.each (Config.beams (s.sect 0x0C)) (fun b t => if b.1 < 2 ^ 18 then t.setDram (b.1 * 256) (pad 256 b.2) else t)

/-- Monitor slots hold nothing after an apply; what a read has captured stays (R446, R13). -/
def State.slotsClear (s : State) : State := { s with mon := { s.mon with stamps := [] } }

/-- Furrows and PARAM into the furrow store (R124, R391). (Log: 182 DEDUCED) -/
def State.loadFurrows (s : State) : State := s.setGran 0x5C00000 (s.sect 2 ++ s.sect 5)

/-- An apply that succeeds (R135, R353, R363, R33). -/
def State.applyTake (s : State) (sh : Sheaf) : State :=
  let t := { s with shf := { s.shf with applied := some sh, staged := none, applying := none } }.put R.SHF_STATE.STAGE 0
  let u := ((((t.showSheaf sh).txcApply.rxApply.cnvApply).tilApply.dpdApply).dmaApply.loadFurrows).loadBeams.beamStart
  let v := (((u.femIdleAll.tineIdleAll).applyCal.slotsClear).putDeg .up).putFlag R.LNK_SEG.RESERVE (u.flag R.RXC_CFG.SEG_RESERVE)
  let w := if v.part.ex then v.putDeg .cas else v
  { w with shf := { w.shf with keepalive := some (w.tick + w.keepaliveTicks) } }.renewProt.put R.SHF_STATE.RUN runReady

/-- APPLY_DONE (R133, R135, R175, R544): `fault` says that an internal fault stops the apply, and `link` are the link-ECC errors that its
accesses to the staging area and the beam library meet, of which an uncorrectable one fails it with DRAM_ERROR (R407, R408). -/
def execApplyDone (fault : Bool) (s : State) (link : LinkErrs := []) : Out :=
  match s.shf.applying, s.shf.staged with
  | some a, some sh =>
    if s.run ≠ runApplying then .next s
    else if fault then .next (s.failApply rcInternal 0)
    else if !s.flag R.LNK_PROTO.POS_VALID then .next (s.failApply rcState 0)
    else if bit (leAt sh.hdr 32 4) 1 ∧ leAt sh.hdr 36 1 ≠ s.get R.LNK_PROTO.POS then .next (s.failApply rcRange (s.get R.LNK_PROTO.POS))
    else if linkBad link then .next ((s.dramReq.linkMeets link).failApply rcDram 0)
    else .next (((s.dramReq.linkMeets link).applyTake sh).critAck a)
  | _, _ => .next s

/-- One chiplet's full calibration completes: every kind counts, and its synthesizer is locked at the plan. (Log: 125 DEDUCED) -/
def State.endFullCal (s : State) (k : Nat) : State :=
  let t := ((s.setCalChip k { s.calChip k with fullCal := false }).put (csBusy k) 0 |>.put (csLock k) 1).put (clkOk k) 1
  ((t.each (List.range 5) (fun kind t => t.calCounted k kind)).renewComp (chipPaths t.part k)).renewHeld k

/-- FULL_CAL_DONE (R135, R294). -/
def execFullCalDone (s : State) : Out :=
  if s.shf.calPending = [] then .next s
  else
    let l := s.shf.calPending
    let t := s.each l (fun k t => t.endFullCal k)
    .next ({ t with
      shf := { t.shf with calPending := [], lastCal := some t.plans }
      rxc := { t.rxc with newPlan := (t.rxc.newPlan ++ l).eraseDups } }.put R.SHF_STATE.CAL_DONE 1)

-- START and STOP (R133, R134)

/-- FRAME of a START or STOP, and its check. -/
def badFrame (p : List Byte) : Option Nat := if 1023 < leAt p 0 2 then some 0 else badZero p 2 6

/-- Ticks from now to tick 0 of the next frame of a number. -/
def State.ticksTo (s : State) (f : Nat) : Nat := (f * frameTicks + cycleTicks - s.cyclePos s.tick) % cycleTicks

/-- Why a START is refused (R134). -/
def State.startRefusal (s : State) (f : Nat) : Option Nat :=
  let d := s.ticksTo f
  if s.run ≠ runReady then some rcState
  else if (s.shf.verifying.map (·.apply)).getD false then some rcState
  else if !s.flag R.SHF_STATE.CAL_DONE || !s.flag R.TIM_STATUS.LOCK then some rcPrecond
  else if !s.dramOk && !s.dramOptional then some rcPrecond
  else if d < 10 * subTicks ∨ 512 * frameTicks ≤ d then some rcBoundary
  else match s.shf.stopBound with
    | some b => if s.tick + d < b + 2 * frameTicks then some rcBoundary else none
    | none => none

/-- A path's duty history after VAON has lost power (R254): in each of the 100 frames before the START, one hundredth of the 1 s limit. (Log: 163 DEDUCED) -/
def dutyCharged (start osc limit : Nat) : List DutyFrame :=
  (List.range 100).map (fun i => ⟨start - (i + 1) * frameTicks, osc, limit * 49152, false⟩)

/-- An accepted START opens a new duty history where VAON has lost power, before the ring read of its first symbol; it stands once the run starts (R254). -/
def State.dutyOpen (s : State) : State :=
  if s.vaon.dutyLost then
    let l := dutyCharged s.shf.startAt s.vaon.osc (envDuty1s s.envelope)
    { s with vaon := { s.vaon with duty := (List.range s.part.paths).map (fun n => (n, l)) } }
  else s

/-- START. An accepted START ends self-refresh (R409). (Log: 184 DEDUCED) -/
def execStart (m : Crit) (s : State) : Out :=
  s.mplane (.start m) 0x06 (m.msg 2 []) (s.critical m 2 [] 8 badFrame (fun a p s =>
    let f := leAt p 0 2
    match s.startRefusal f with
    | some r => s.refuseRun a r
    | none =>
      let t : State := { s with shf := { s.shf with startAt := s.tick + s.ticksTo f, startAsker := some a } }
      ((((t.dutyOpen.srExit false).put R.SHF_BOUNDS.START_F f).put R.SHF_STATE.RUN runStarting).critAck a)))

/-- Frames from the present one to a frame. (Log: 177 DEDUCED) -/
def State.framesTo (s : State) (f : Nat) : Nat := (f + 1024 - s.frameOf s.tick) % 1024

/-- Tick 0 of the frame that a STOP names, the present frame's instance within half a cycle. -/
def State.stopTick (s : State) (f : Nat) : Nat := s.frameStart s.tick + s.framesTo f * frameTicks

/-- A STOP of frame F for a run that plays. (Log: 177 DEDUCED) -/
def State.stopRun (s : State) (a : Asker) (f : Nat) : State :=
  let n := s.framesTo f
  if n = 0 ∨ 512 ≤ n then s.refuseRun a rcBoundary
  else
    let b := s.stopTick f
    let first := match s.shf.stopAt with
      | some o => s.run = runStopping && decide (o ≤ b)
      | none => false
    if first then s.critAck a
    else (({ s with shf := { s.shf with stopAt := some b } }.put R.SHF_BOUNDS.STOP_F f).put R.SHF_STATE.RUN runStopping).critAck a

/-- A STOP cancels the pending START (R133). (Log: 176 DEDUCED) -/
def State.stopStarting (s : State) (a : Asker) (f : Nat) : State :=
  let t := match s.shf.startAsker with
    | some b => s.critNack b rcStopCancelled
    | none => s
  let u := ((t.winnowFrom 0 none).put R.SHF_BOUNDS.STOP_F f).stopReady (s.absOf (f * frameTicks))
  ({ u with shf := { u.shf with startAsker := none } }.critAck a)

/-- STOP. In FAULTED it takes effect at once (R139). -/
def execStop (m : Crit) (s : State) : Out :=
  s.mplane (.stop m) 0x06 (m.msg 3 []) (s.critical m 3 [] 8 badFrame (fun a p s =>
    let f := leAt p 0 2
    if s.running then s.stopRun a f
    else if s.run = runStarting then s.stopStarting a f
    else if s.run = runFaulted then
      let t := s.put R.SHF_BOUNDS.STOP_F f
      (t.stopReady (t.frameBoundary t.tick)).critAck a
    else s.refuseRun a rcState))

-- The run (R136 to R138)

/-- Per-kernel overflow counts are cleared (R145). -/
def State.kovfClear (s : State) : State := { s with shf := { s.shf with kovf := [], kovfOvf := [] } }

/-- RUN_PREPARE (R136, R137): the state that carries between symbols begins anew. (Log: 178 DEDUCED) -/
def execRunPrepare (s : State) : Out :=
  if s.run = runStarting then .next (s.txcStart.dpdStart.beamStart.tilStart.kovfClear) else .next s

/-- The outputs in the states of R138; what waits for a boundary of the run is dropped, the power steps and FEM changes among it. -/
def State.outputsIdle (s : State) : State :=
  let t := s.cnvIdle.rxIdle.femIdleAll.tineIdleAll.allBiasSafe
  { t with rfe := { t.rfe with steps := [], phases := [] } }

/-- A fault whose boundary has come: FAULTED, outputs idle (R143). (Log: 179 DEDUCED) -/
def State.faultDue (s : State) : State :=
  match s.shf.faultAt with
  | some b =>
    if s.running ∧ b ≤ s.tick then
      let t := (s.outputsIdle.toFaulted).put R.SHF_NOW.FURROW 0
      { t with shf := { t.shf with faultAt := none, noFire := none, tail := false } }
    else s
  | none => s

/-- RUN_START (R133, R136, R138, R210, R343, R348). The STOP cause lifts, unless a furrow-store fault holds it (R143). (Log: 178 DEDUCED) -/
def execRunStart (s : State) : Out :=
  if s.run = runStarting then
    let t := s.cnvStart.rxStart.frontStart
    .next ({ t with
      vaon := { t.vaon with dutyLost := false }
      shf := { t.shf with stopAt := none, startAsker := none, tail := false }
      txc := { t.txc with muteStop := if t.shf.faultAt.isSome then t.txc.muteStop else none } }.put R.SHF_STATE.RUN runRunning).startSegment.faultDue
  else .next s

/-- STOP_BOUNDARY (R138, R271). -/
def execStopBoundary (s : State) : Out :=
  match s.shf.stopAt with
  | some f =>
    if s.run = runStopping then
      let t := ((s.muteStopFrom (f - ringLead)).winnowFrom f none).dropContent f |>.dpdSettle f
      .next { t with shf := { t.shf with tail := true } }
    else .next s
  | none => .next s

/-- STOP_COMPLETE (R138): READY, unless a fault of R143 becomes FAULTED at the same boundary. -/
def execStopComplete (s : State) : Out :=
  if s.run = runStopping ∧ s.shf.tail then
    let t := s.faultDue
    if t.run = runFaulted then .next t
    else .next (t.outputsIdle.stopReady (t.shf.stopAt.getD 0))
  else .next s

/-- The end of the subframe of a stop at a time step (R139): the outputs go to their idle states. -/
def State.stopAtStep (s : State) : State :=
  if s.shf.stepStop then { s.outputsIdle with shf := { s.outputsIdle.shf with stepStop := false } } else s

/-- The run covers the subframe that begins at a tick (R137). (Log: 185 DEDUCED) -/
def State.subRuns (s : State) (n : Nat) : Bool :=
  match s.run with
  | 3 => decide (s.shf.startAt ≤ n + subTicks)
  | 4 => true
  | 5 => decide (n < s.shf.stopAt.getD 0 + subTicks)
  | _ => false

/-- An uncorrectable error in the furrow of the subframe that begins at a tick, found one subframe ahead (R143): the paths mute from
their next muting boundaries, no action of that subframe fires, and the run state is FAULTED from its end. FURROW_STORE's DETAIL begins as its
record's, with FAULT_CAUSE (R482). (Log: 43 DEDUCED, 185 DEDUCED, 262 DEDUCED) -/
def State.furrowFault (s : State) (n : Nat) : State :=
  if s.subRuns n && decide (n < s.shf.faultAt.getD (n + 1)) then
    let u := (s.muteStopFrom s.tick).runFault 1
    { u with shf := { u.shf with noFire := some n, faultAt := some (min (n + subTicks) (s.shf.faultAt.getD (n + subTicks))) } }.alarm 0x0010 2 1
  else s

/-- Overrange codes of the ADCs that run (R292, R321). -/
def State.overranges (s : State) (ovl : List Nat) : State :=
  s.each (((List.range s.part.paths).zip ovl).filter (fun x => s.flag (R.CNV_PATHSTAT_n.RX_ON x.1)))
    (fun x t => t.countBy (R.RXC_CNT_OVL_n.OVL x.1) (R.RXC_CNTOVF_n.OVF x.1) 0 x.2)

/-- Where the furrow store holds the furrow of the subframe that begins at a tick: granary address and bytes (R124, R391). (Log: 252 DESIGN CHOICE) -/
def State.furrowPlace (s : State) (n : Nat) : Nat × Nat :=
  let t := Config.furrowTable (s.sect 2) (s.findex (s.frameOf n) (s.subOf n))
  (0x5C00000 + t.1, 8 * t.2)

/-- SUBFRAME_BOUNDARY (R125, R137, R143, R392): `corrected` words of the subframe's furrow were corrected; `bad` says that the word `word` of
the next subframe's furrow could not be, which poisons it; a word poisoned before fails as well. `ovl` counts by path the ADC codes of -2,048 and +2,047 since the last boundary that no AGC_STEP
was given (R292). (Log: 179 DEDUCED, 185 DEDUCED, 258 DESIGN CHOICE) -/
def execSubframeBoundary (corrected : Nat) (bad : Bool) (s : State) (ovl : List Nat := []) (word : Nat := 0) : Out :=
  let t := (s.overranges ovl).stopAtStep.faultDue
  let u := if t.subRuns t.tick then
      ((t.put R.SHF_NOW.FURROW (t.findex (t.frameOf t.tick) (t.subOf t.tick))).countBy R.SHF_CNT_ECC.ECC R.SHF_CNTOVF.OVF 5 corrected).countBy
        R.MEM_CNT_GECCC.GECCC R.MEM_CNTOVF.OVF 0 corrected
    else t
  let n := u.subStart u.tick + subTicks
  let p := u.furrowPlace n
  let v := if bad && u.subRuns n then u.granEcc (p.1 + 8 * word) .uncorrectable else u
  .next (if bad || (u.subRuns n && u.granPoisoned p.1 p.2) then v.furrowFault n else v)

-- Mutes (R33, R93)

/-- KEEPALIVE_EXPIRY (R33). (Log: 43 DEDUCED) -/
def execKeepaliveExpiry (s : State) : Out :=
  if s.shf.keepalive.isSome then
    let t := { s with
      shf := { s.shf with keepalive := none, kaExpired := true, kaLift := none }
      txc := { s.txc with muteKa := match s.txc.muteKa with | some m => some m | none => some ⟨s.tick, none⟩ } }
    .next ((t.alarm 0x0001 2 0).tally 0x0010 [])
  else .next s

/-- KEEPALIVE_MUTE_LIFT (R33). -/
def execKeepaliveMuteLift (s : State) : Out :=
  if s.shf.kaLift.isSome then
    .next { s with shf := { s.shf with kaExpired := false, kaLift := none }, txc := { s.txc with muteKa := none } }
  else .next s

/-- STEP_MUTE_RELEASE (R93). -/
def execStepMuteRelease (s : State) : Out :=
  .next ({ s with txc := { s.txc with muteStep := none } }.put R.TIM_STATUS.STEP_MUTE 0)

/-- NO_OPERATION (R122): whether it fires or not. -/
def execNoOperation (a : Act) (s : State) : Out := s.onFire a (fun s => s)

-- Link placement (R32, R122, R129, R164, R183)

/-- Key of a receive buffer: window kind, carrier, symbol. -/
def placeKey (kind car at_ : Nat) : Nat := (at_ * 4 + car) * 8 + kind

/-- LINK_PLACEMENT_OPEN: the buffer of a window kind for a symbol opens. (Log: 180 DESIGN CHOICE) -/
def execLinkPlacementOpen (serve : BitVec 2) (car slotT sym : Nat) (kind : BitVec 3) (s : State) : Out :=
  s.onFire ⟨serve, 0, 0, 0⟩ (fun s =>
    { s with shf := { s.shf with placed := sparseSet false s.shf.placed (placeKey kind.toNat car (s.symOfSlot car slotT sym)) true } })

/-- At the downlink C-plane close, held samples whose section never arrived are discarded (R183). -/
def State.dropOrphans (s : State) (car slotT sym : Nat) : State :=
  let gone := s.con.data.filter (fun d => d.car == car && d.slotT == slotT && d.sym == sym &&
    !s.con.sects.any (fun x => x.dl && x.car == car && x.slotT == slotT && x.sym == sym && x.id == d.id))
  { s with con := { s.con with data := s.con.data.filter (fun d => !gone.contains d) } }.countBy R.LNK_CNT_ORPHAN.ORPHAN R.LNK_PCNTOVF.OVF 6 gone.length

/-- At the downlink U-plane close, missing samples of generation 0 are filled, those of layers not carried aside (R32, R164, R194). (Log: 70 DEDUCED, 164 DEDUCED) -/
def State.fillShort (s : State) (car slotT sym : Nat) : State :=
  let t := s.symOfSlot car slotT sym
  let shed := s.shedLayers car t
  let fill := s.con.sects.filter (fun x => x.dl && x.car == car && x.slotT == slotT && x.sym == sym && !x.mute && !x.revoked && x.gen == 0 &&
    decide ((x.pieces.map (·.num)).sum < x.num) && !shed.contains x.layer)
  let u := if shed.isEmpty then s else s.setSym car t (fun r => { r with shed := true })
  if fill.isEmpty then u
  else (u.setSym car t (fun r => { r with filled := true })).countBy R.SHF_CNT_FILL.FILL R.SHF_CNTOVF.OVF 2 fill.length

/-- LINK_PLACEMENT_CLOSE: the buffer closes at its deadline; `kind` is the window kind in the order of R129. (Log: 180 DESIGN CHOICE) -/
def execLinkPlacementClose (serve : BitVec 2) (car slotT sym : Nat) (kind : BitVec 3) (s : State) : Out :=
  s.onFire ⟨serve, 0, 0, 0⟩ (fun s =>
    let t : State := { s with shf := { s.shf with placed := sparseSet false s.shf.placed (placeKey kind.toNat car (s.symOfSlot car slotT sym)) false } }
    match kind.toNat with
    | 0 => t.dropOrphans car slotT sym
    | 1 => t.fillShort car slotT sym
    | _ => t)

end Sys2Proof.Machine
end

