-- ==== Sys2Proof/Machine/HostRegs.lean ====
section
/-! DEFINITION. Register access: what a read shows and captures (R12, R13), what a write does under access codes and stated ranges (R11,
R109, R168, R412, R433, R446) and the actions it starts, schedule-owned registers (R28), and the messages of R201. -/

namespace Sys2Proof.Machine

/-- The state after an effect that runs on. -/
def State.eff (s : State) (f : State → Out) : State :=
  match f s with
  | .next t => t
  | _ => s

-- Reads

/-- KERNEL_COUNT of the applied sheaf; none while no sheaf is applied. -/
def State.kernelCount (s : State) : Option Nat := s.shf.applied.map (fun sh => leAt sh.hdr 44 2)

/-- SHF_KOVF_CNT as it reads (R145). -/
def State.kovfShown (s : State) : Word :=
  let k := s.get R.SHF_KOVF_SEL.KERNEL
  if k < s.kernelCount.getD 0 then
    BitVec.ofNat 32 (sparseGet 0 s.shf.kovf k % 2 ^ 31 + (if s.shf.kovfOvf.contains k then 2 ^ 31 else 0))
  else 0

/-- TIL_TSTAT as it reads: the tile that TIL_SEL names (R389). -/
def State.tileShown (s : State) : Word :=
  let x := s.tile (s.get R.TIL_SEL.TILE)
  let b (c : Bool) (i : Nat) : Nat := if c then 2 ^ i else 0
  BitVec.ofNat 32 (x.st % 8 + b x.ovf 3 + b x.winfault 4 + b x.protfault 5 + b x.eccu 6 + x.kernel % 4096 * 256)

/-- A register word as a read returns it: what is computed on reading, and WS and WO fields as 0 (R11). -/
def State.shown (s : State) (addr : Nat) (d : RegDesc) : Word :=
  if addr = R.SHF_NOW.w.addr then s.shfNow
  else if addr = R.SHF_KOVF_CNT.w.addr then s.kovfShown
  else if addr = R.TIL_TSTAT.w.addr then s.tileShown
  else if addr = R.TIL_TCYC.w.addr then BitVec.ofNat 32 ((s.tile (s.get R.TIL_SEL.TILE)).cycles % 2 ^ 21)
  else if addr % 0x100 = 0x04 ∧ 0x51000 ≤ addr ∧ addr < 0x55000 then
    (s.word addr &&& 0xFFFFFFF0) ||| BitVec.ofNat 32 (s.muteShown ((addr - 0x51000) / 0x100))
  else if addr % 0x100 = 0x0C ∧ 0x51000 ≤ addr ∧ addr < 0x55000 then s.dutyShown ((addr - 0x51000) / 0x100)
  else s.word addr &&& ~~~ (BitVec.ofNat 32 d.ws ||| BitVec.ofNat 32 d.wo)

/-- COUNTER_READ (R477): a read of SEC_CTR_LO captures SEC_CTR_HI. -/
def execCounterRead (s : State) : Out := .next (s.put R.SEC_CTR_HI.LAST (s.loft.lastCtr / 2 ^ 32))

/-- What a read captures before it returns (R13). -/
def State.readCapture (s : State) (a n : Nat) : State :=
  if a = R.TIM_NOW0.w.addr then s.readNow
  else if a = R.DPD_BANKI.w.addr then s.eff execBankReadI
  else if a = R.DMA_DWIN_RDLO.w.addr then s.eff execDescriptorRead
  else if a = (R.MON_SRES_k.w 0).addr then s.slotRead n
  else if a = R.SHF_ID_LO.w.addr then s.put R.SHF_ID_HI.ID (s.hdr 52 4)
  else if a = R.SEC_CTR_LO.w.addr then s.eff execCounterRead
  else if a = R.TAL_WIN0.w.addr then s.eff (fun t => execTallyWindowRead t 0)
  else s

/-- A read by the host: the value, and the state after it. An unmapped address reads 0 (R12). -/
def State.hostRead (s : State) (addr : Nat) : Word × State :=
  match regDesc s.part addr with
  | none => (0, s)
  | some d =>
    let t := s.readCapture d.addr ((addr - d.addr) / 0x100)
    (t.shown addr d, if addr = R.DPD_BANKQ.w.addr then t.eff execBankReadQ else t)

-- Writes

/-- Fields whose stated range is narrower than their bits, with that range; an RW value outside it leaves the field unchanged. (Log: 58 DEDUCED, 59 DEDUCED, 62 DEDUCED) -/
def State.fieldRanges (s : State) (a : Nat) : List (Fld × (Nat → Bool)) :=
  let within (lo hi : Nat) (x : Nat) : Bool := decide (lo ≤ x ∧ x ≤ hi)
  if a = R.TIM_CTRL.w.addr then
    [(R.TIM_CTRL.PPS_MODE, within 0 2), (R.TIM_CTRL.SYNC_LOG, fun x => x == 0 || decide (9 ≤ x)), (R.TIM_CTRL.TC_EN, fun _ => s.part.ex)]
  else if a = R.TIM_STEPTHR.w.addr then [(R.TIM_STEPTHR.STEPTHR, within 100 1000000)]
  else if a = R.TIM_PATHTHR.w.addr then [(R.TIM_PATHTHR.PATHTHR, within 10 10000)]
  else if a = R.TIM_LOCKTHR.w.addr then [(R.TIM_LOCKTHR.LOCKTHR, within 20 10000)]
  else if a = R.TIM_HOLDOVER.w.addr then [(R.TIM_HOLDOVER.LIMIT, within 0 86400)]
  else if a = R.TIM_ASYM_CAS.w.addr then [(R.TIM_ASYM_CAS.ASYM, fun _ => s.part.ex)]
  else if a = R.TIM_PPSCFG.w.addr then [(R.TIM_PPSCFG.WIDTH, within 1 500), (R.TIM_PPSCFG.PPS_LIMIT, within 10 65535)]
  else if a = R.TIM_FSYNCCFG.w.addr then [(R.TIM_FSYNCCFG.PERIOD_LOG, within 0 10)]
  else if a = R.SHF_KOVF_SEL.w.addr then [(R.SHF_KOVF_SEL.KERNEL, fun x => decide (x < s.kernelCount.getD 4096))]
  else if a = R.LNK_CFG.w.addr then
    [(R.LNK_CFG.MAXRATE, within 0 2), (R.LNK_CFG.MINLANES_U, within 1 s.part.ulanes), (R.LNK_CFG.MINLANES_C, fun x => s.part.ex && within 1 8 x)]
  else if a = R.MEM_DCTL.w.addr then [(R.MEM_DCTL.SR_IDLE, within 1 255), (R.MEM_DCTL.RT_STEP, within 2 20)]
  else if a = R.MON_CTRL.w.addr then [(R.MON_CTRL.CAL_STEP, within 0 20)]
  else if a = (R.MON_LCTL_n.w 0).addr then [(R.MON_LCTL_n.COUNT 0, within 1 15)]
  else []

/-- RW bits that the part lacks: the scan mask of absent monitor channels (R436). -/
def Part.rwAbsent (p : Part) (a : Nat) : Word := if a = R.MON_SCAN2.w.addr ∧ !p.paths64 then 0x30000000 else 0

/-- The RW bits that a write changes. (Log: 58 DEDUCED) -/
def State.writeMask (s : State) (d : RegDesc) (v : Word) : Word :=
  (s.fieldRanges d.addr).foldl (fun m r => if r.2 (r.1.read v) then m else m &&& ~~~ r.1.mask)
    (BitVec.ofNat 32 d.rw &&& ~~~ s.part.rwAbsent d.addr)

/-- Registers whose writes act through an operation of their own alone. -/
def actsAlone (a : Nat) : Bool :=
  [R.SHF_KOVF_CNT.w.addr, R.LNK_SLEEP.w.addr, R.RFE_TRIP_LO.w.addr, R.RFE_TRIP_HI.w.addr, R.RFE_ALERT.w.addr, R.TIL_TSTAT.w.addr,
   (R.DMA_RLEN_n.w 0).addr].contains a

/-- RW fields take the written value, and a 1 clears a W1C bit (R11), in the TIM registers at the next Sync (R109). -/
def State.regStore (s : State) (addr : Nat) (d : RegDesc) (v : Word) : State :=
  if actsAlone d.addr then s
  else if timSticky.contains d.addr then s.timClear addr (v &&& BitVec.ofNat 32 d.w1c)
  else
    let k := s.writeMask d v
    s.setWord addr (((s.word addr &&& ~~~ k) ||| (v &&& k)) &&& ~~~ (v &&& BitVec.ofNat 32 d.w1c))

/-- LNK_SLEEP: each bit that changes puts its half to sleep or wakes it; bits of absent lanes are ignored (R168). (Log: 60 DEDUCED) -/
def State.sleepWrite (s : State) (v : Word) : State :=
  s.each (List.range 24) (fun i t =>
    if !t.part.hasLane i || bit v.toNat i == bit (t.word R.LNK_SLEEP.w.addr).toNat i then t
    else if bit v.toNat i then t.eff (execLaneSleep i) else t.eff (execLaneWake i))

/-- LNK_LCTL_n: `was` is DISABLE before the write. (Log: 60 DEDUCED) -/
def State.laneWrite (s : State) (n : Nat) (was : Bool) (v : Word) : State :=
  let a := if bit v.toNat 3 && !was then s.eff (execLaneDisable n) else s
  let b := if bit v.toNat 1 then a.eff (execBitslip n) else a
  if bit v.toNat 2 then b.eff (execLaneRetrain n) else b

/-- Clear flags of the tile that TIL_SEL names (R389). -/
def State.tileClear (s : State) (v : Word) : State :=
  let k := s.get R.TIL_SEL.TILE
  let x := s.tile k
  s.setTile k { x with
    ovf := x.ovf && !bit v.toNat 3
    winfault := x.winfault && !bit v.toNat 4
    protfault := x.protfault && !bit v.toNat 5
    eccu := x.eccu && !bit v.toNat 6 }

/-- What a write of register `a`, instance `n`, starts beside what it stores; `s` is the state before the write. (Log: 61 DEDUCED, 109 DEDUCED) -/
def State.writeAction (s t : State) (a n : Nat) (v : Word) : State :=
  let x := v.toNat
  if a = R.SYS_RESETCTL.w.addr then (if bit x 0 then t.softWrite (R.SYS_RESETCTL.KEY.read v) else t)
  else if a = R.TIM_CTRL.w.addr then (if s.flag R.TIM_CTRL.SERVO_EN && !bit x 0 then t.servoOff else t)
  else if a = R.SHF_KOVF_CNT.w.addr then
    (if bit x 31 then { t with shf := { t.shf with kovfOvf := t.shf.kovfOvf.filter (· != t.get R.SHF_KOVF_SEL.KERNEL) } } else t)
  else if a = R.LNK_PCTL.w.addr then
    let u := if bit x 0 then t.eff execUpRestart else t
    if bit x 1 then u.eff execCasRestart else u
  else if a = R.LNK_SLEEP.w.addr then t.sleepWrite v
  else if a = (R.LNK_LCTL_n.w 0).addr then t.laneWrite n (s.flag (R.LNK_LCTL_n.DISABLE n)) v
  else if a = (R.RXC_ATTN_n.w 0).addr then (if s.shf.applied.isSome && !s.rxPaths.contains n then s else t)
  else if a = R.RFE_CALREQ.w.addr then t.calWrite (R.RFE_CALREQ.KINDS.read v) (R.RFE_CALREQ.CHIPLETS.read v)
  else if R.RFE_CALSTAT0.w.addr ≤ a ∧ a ≤ R.RFE_CALSTAT3.w.addr then (if bit x 11 then t.calRelease ((a - R.RFE_CALSTAT0.w.addr) / 4) else t)
  else if a = R.RFE_FSBCMD.w.addr then (if bit x 24 then t.fsbGo v else t)
  else if a = R.RFE_TRIP_LO.w.addr then t.each (maskList x 32) (fun p t => t.tripClear p)
  else if a = R.RFE_TRIP_HI.w.addr then t.each (maskList x 32) (fun p t => t.tripClear (32 + p))
  else if a = R.RFE_ALERT.w.addr then t.each (maskList (R.RFE_ALERT.LATCH.read v) 8) (fun k t => t.latchClear k)
  else if a = R.TIL_TSTAT.w.addr then t.tileClear v
  else if a = R.MEM_DCTL.w.addr then
    let u := if bit x 0 then t else t.srExit false
    if bit x 24 then u.eff execDramTrain else u
  else if a = R.DMA_DWIN_HI.w.addr then t.eff (execDescriptorStore v)
  else if a = (R.DMA_CHCTL_n.w 0).addr then
    let u := if bit x 25 then t.eff (execDmaClear n) else t
    if bit x 24 then u.eff (execDmaGo n) else u
  else if a = (R.DMA_RLEN_n.w 0).addr then t.eff (execRingLengthWrite n (v.setWidth 30))
  else if a = (R.DMA_RACK_n.w 0).addr then t.eff (execRingAck n (v.setWidth 30))
  else if a = R.MON_CTRL.w.addr then (if bit x 1 then t.monCal else t)
  else if a = R.MON_URG.w.addr then (if bit x 8 then t.urgentGo (R.MON_URG.CH.read v) else t)
  else if R.MON_ALM0.w.addr ≤ a ∧ a ≤ R.MON_ALM2.w.addr then t.monRelease
  else t

/-- A register is schedule-owned while the sheaf runs (R28, R311, R433). (Log: 54 DEDUCED, 56 DEDUCED) -/
def State.schedOwned (s : State) (addr : Nat) : Bool :=
  match regDesc s.part addr with
  | some d => s.running && (d.addr == (R.RXC_ATTN_n.w 0).addr
      || (d.addr == (R.DMA_CHCTL_n.w 0).addr && s.scheduled ((addr - d.addr) / 0x100)))
  | none => false

/-- A write by the host: nothing at an unmapped address (R12), discarded at a schedule-owned register (R28), and nothing more once a
software reset holds the logic. (Log: 55 DEDUCED, 57 DEDUCED) -/
def State.hostWrite (s : State) (addr : Nat) (v : Word) : State :=
  match regDesc s.part addr with
  | none => s
  | some d => if s.boot.inReset || s.schedOwned addr then s else s.writeAction (s.regStore addr d v) d.addr ((addr - d.addr) / 0x100) v

/-- REGISTER_WRITE (R11): one whole aligned word (R13). (Log: 57 DEDUCED) -/
def execRegisterWrite (addr value : BitVec 32) (s : State) : Out :=
  .next (if addr.toNat % 4 = 0 then s.hostWrite addr.toNat value else s)

-- REG_READ and REG_WRITE (R201)

/-- The checks of ADDR, COUNT and the reserved bytes. (Log: 49 DEDUCED) -/
def regChecks (body : List Byte) : List (Option (Nat × Nat)) :=
  let addr := leAt body 0 4
  let n := leAt body 4 2
  [chk (addr % 4 == 0) rcRange 16,
   chk (decide (1 ≤ n ∧ n ≤ 64 ∧ addr + 4 * (n - 1) ≤ 0xFFFFFFFC)) rcRange 20,
   chk (leAt body 6 2 == 0) rcRange 22]

/-- Read `n` consecutive registers, in order. -/
def State.readRegs (s : State) : Nat → Nat → List Word × State
  | 0, _ => ([], s)
  | n + 1, addr =>
    let r := s.hostRead addr
    let q := r.2.readRegs n (addr + 4)
    (r.1 :: q.1, q.2)

/-- Write consecutive registers, in order. (Log: 55 DEDUCED) -/
def State.writeRegs (s : State) (addr : Nat) : List Word → State
  | [] => s
  | v :: r => (s.hostWrite addr v).writeRegs (addr + 4) r

/-- A read of the descriptor window meets a poisoned word (R392, R418). (Log: 274 DEDUCED) -/
def State.windowFails (s : State) (addr n : Nat) : Bool :=
  decide (addr ≤ R.DMA_DWIN_RDLO.w.addr ∧ R.DMA_DWIN_RDLO.w.addr < addr + 4 * n) && s.granPoisoned s.windowWord 8

/-- REG_READ: one REG_DATA answers it; a read that the firmware cannot serve is refused with INTERNAL (R392). -/
def execRegRead (m : Msg) (s : State) : Out :=
  s.mplane (.regRead m) 0x02 m
    (match s.rx 1 0x02 m with
     | .done t => t
     | .take t =>
       match firstFail (regChecks m.body) with
       | some r => t.nackAt (m.asker 1 0x02) r.1 r.2
       | none =>
         if t.windowFails (leAt m.body 0 4) (leAt m.body 4 2) then t.nack (m.asker 1 0x02) rcInternal
         else
         let q := (t.passed 1 m).readRegs (leAt m.body 4 2) (leAt m.body 0 4)
         (q.2.transmit m.port 1 0x03 1 m.src.toNat 0 (m.body.take 8 ++ (q.1.map (fun w => leBytes 4 w.toNat)).flatten)).ackIf 1 0x02 m false 0)

/-- REG_WRITE: refused whole when it names a schedule-owned register. (Log: 53 DEDUCED, 54 DEDUCED) -/
def execRegWrite (m : Msg) (s : State) : Out :=
  s.mplane (.regWrite m) 0x04 m
    (match s.rxVia 1 0x04 m false (fun p s => s.forwardMsg p 1 0x04 m) with
     | .done t => t
     | .take t =>
       let addr := leAt m.body 0 4
       let n := leAt m.body 4 2
       match firstFail (regChecks m.body ++ [m.lenIs (8 + 4 * n)] ++
           (List.range n).map (fun i => chk (!t.schedOwned (addr + 4 * i)) rcSchedOwned (24 + 4 * i))) with
       | some r => t.nackAt (m.asker 1 0x04) r.1 r.2
       | none =>
         ((t.passed 1 m).writeRegs addr ((List.range n).map (fun i => BitVec.ofNat 32 (leAt m.body (8 + 4 * i) 4)))).ackIf 1 0x04 m false 0)

end Sys2Proof.Machine
end

