-- ==== Sys2Proof/Machine/Plane.lean ====
section
/-! DEFINITION. The M-plane's small messages and what concerns every plane: forwarding (R207), the hunt (R173), types refused at check 2
(R172, R545), ACK and NACK received (R177, R178), held alarms (R202), the report of lost answers (R178). -/

namespace Sys2Proof.Machine

/-- KEEPALIVE (R200, R33). -/
def execKeepalive (m : Msg) (s : State) : Out :=
  s.mplane (.keepalive m) 0x01 m
    (match s.rx 1 0x01 m with
     | .done t => t
     | .take t => (t.passed 1 m).ackIf 1 0x01 m false 0)

/-- The reason codes of R215 but NONE. -/
def reasonKnown (r : Nat) : Bool :=
  decide ((1 ≤ r ∧ r ≤ 0x07) ∨ (0x11 ≤ r ∧ r ≤ 0x19) ∨ (0x21 ≤ r ∧ r ≤ 0x2E) ∨ (0x31 ≤ r ∧ r ≤ 0x35) ∨ r = 0x3A
    ∨ (0x41 ≤ r ∧ r ≤ 0x47) ∨ r = 0x51 ∨ r = 0x52 ∨ r = 0xE0 ∨ r = 0xF0)

/-- ACK_OR_NACK_RECEIVED (R177, R178): consumed; its body is checked (check 7), and it is never answered. (Log: 64 DEDUCED) -/
def execAckOrNackReceived (nack : Bool) (m : Msg) (s : State) : Out :=
  let typ := if nack then 0x0F else 0x0E
  s.mplane (.ackOrNackReceived nack m) typ m
    (match s.rx 1 typ m with
     | .done t => t
     | .take t =>
       let p := leAt m.body 2 1
       let r := leAt m.body 4 1
       let low := if nack && r == rcNackLost then 0 else 1
       if decide (low ≤ p ∧ p ≤ 5) && (if nack then reasonKnown r else r == 0) && zeroAt m.body 5 3 then t.passed 1 m else t)

/-- A CRITICAL whose CMD, or whose MODE or OP byte, names no command (R203, R117, R465): the offset of that field. (Log: 65 DEDUCED) -/
def critUnknown (b : List Byte) : Option Nat :=
  let cmd := leAt b 0 2
  if cmd < 1 ∨ 9 < cmd then some 16
  else if (cmd = 1 ∧ 3 < leAt b 16 1) ∨ ((cmd = 5 ∨ cmd = 8) ∧ 1 < leAt b 16 1) then some 32
  else none

/-- Refuse such a CRITICAL at check 7; PLEN and the reserved bytes come before the MODE or OP byte. (Log: 65 DEDUCED) -/
def State.refuseCrit (s : State) (m : Msg) : State :=
  match critUnknown m.body with
  | none => s
  | some o =>
    match s.rxVia 1 6 m false (fun p s => s.forwardMsg p 1 6 m) with
    | .done t => t
    | .take t =>
      match firstFail [chk (o == 32) rcRange 16, chk (leAt m.body 2 2 == 8) rcRange 18, chk (zeroAt m.body 4 4) rcRange 20, chk false rcRange 32] with
      | some r => t.nackAt (m.asker 1 6) r.1 r.2
      | none => t

/-- UNKNOWN_TYPE: check 1, then the part of check 2 that concerns PLANE and TYPE; and a CRITICAL that no row of the table names. (Log: 6 DESIGN CHOICE, 65 DEDUCED) -/
def execUnknownType (plane typ : Byte) (m : Msg) (s : State) : Out :=
  let p := plane.toNat
  let f := match m.check2 p typ.toNat with
    | some r => if r.1 = rcPlane ∨ r.1 = rcType then (match s.rx p typ.toNat m with | .done t => t | .take t => t) else s
    | none => if p = 1 ∧ typ = 6 then s.refuseCrit m else s
  if p = 1 then s.mplane (.unknownType plane typ m) typ.toNat m f else .next f

/-- FORWARD (R207): checks 1 to 4, then the message goes on, or is refused; `res` is the residence of a PTP message. A message that this
device consumes is not this command's. (Log: 65 DEDUCED) -/
def execForward (plane typ : Byte) (m : Msg) (res : Nat) (s : State) : Out :=
  let p := plane.toNat
  let y := typ.toNat
  match s.route p y m with
  | .consume => .next s
  | .both => .next s
  | _ =>
    match s.rxVia p y m true (fun q s => if p = 4 then (if m.ptpType = 0 then s.latchCfg else s).forwardPtp q m res else s.forwardMsg q p y m) with
    | .done t => .next t
    | .take _ => .next s

-- The hunt (R173)

/-- HCRC_HUNT: `bytes` is the payload from the header that fails HCRC on. (Log: 6 DESIGN CHOICE, 65 DEDUCED, 66 DEDUCED, 270 DESIGN CHOICE) -/
def execHcrcHunt (port : Port) (bytes : List Byte) (s : State) : Out :=
  if !s.portUp port ∨ bytes.length < 16 ∨ leAt bytes 14 2 = (crc16 (bytes.take 14)).toNat then .next s
  else .next (s.feed port ((s.port port).rest ++ bytes))

-- Alarms and answers that waited

/-- ALARM_RELEASE (R202): 100 ms after the last ALARM of a code, one ALARM reports the occurrences held. (Log: 4 DESIGN CHOICE, 67 DEDUCED) -/
def execAlarmRelease (code : BitVec 16) (s : State) : Out :=
  let a := sparseGet noAlarm s.alarms code.toNat
  if a.held == 0 || !s.alarmDue a || !s.maySend .up 1 0x05 then .next s
  else .next ({ s with alarms := sparseSet noAlarm s.alarms code.toNat ⟨s.tim.cycles + 1, 0, [], 0⟩ }.transmit .up 1 0x05 1 0x80 a.air
    (withCount a.latest a.held))

/-- NACK_LOST (R178): one NACK to the host reports how many answers were discarded. -/
def execNackLost (s : State) : Out :=
  if s.lost = 0 ∨ 1024 ≤ s.answers.length then .next s
  else .next { s.answer ⟨.up, 0x80, 0, 0, 0, 0⟩ 0x0F rcNackLost noField s.lost with lost := 0 }

end Sys2Proof.Machine
end

