-- ==== Sys2Proof/Machine/Resume.lean ====
section
/-! DEFINITION. The end of a calibration and the return of a synthesizer's lock (R334 to R336, R339, R340): transmit and receive of the
chiplet resume. -/

namespace Sys2Proof.Machine

/-- A path would send an engine symbol that the ring read while its chiplet was kept from its DACs: the pass was there and nothing else
kept it (R248, R249, R320). -/
def State.couldSend (s : State) (k : Nat) (e : Nat × EngSym) (p : Nat) : Bool :=
  chipOf p == k && s.used p && e.2.late.contains p && e.2.done && !e.2.poisoned.contains p && s.mutesAt e.1 == 0 && !s.quietAt p e.1

/-- The engine symbols from a boundary on that the ring has read as zeros for a chiplet's paths go out after all (R340): the tests of R253 and
the duty of R254 take them as they stand now, and LATE stays where another path keeps it. (Log: 272 DEDUCED) -/
def State.chipSends (s : State) (k b : Nat) : State :=
  let played := s.txc.eng.filter (fun e => e.2.played && decide (b ≤ e.1))
  let last := played.foldl (fun m e => max m e.1) 0
  s.each played (fun e t =>
    let back := t.txPaths.filter (t.couldSend k e)
    let reg := (t.regTests e.1 (e.2.sent ++ back)).filter (fun r => back.contains r.1)
    let go := back.filter (fun p => !reg.any (fun r => r.1 == p))
    let held := e.2.muted ++ reg.map (·.1)
    let u := t.each reg (fun r t => t.regulate r.1 r.2)
    let v := if reg.any (fun r => r.2 == 1) then (u.put R.TXC_TOTPWR.TOT_LIMIT 1).alarm 0x0013 2 (0xFF + 256) else u
    let w : State := { v with
      txc := { v.txc with
        eng := sparseSet {} v.txc.eng e.1 { e.2 with muted := held, late := e.2.late.filter (fun p => !back.contains p), sent := e.2.sent ++ go }
        dac := if e.1 = last then go.foldl (fun m p => sparseSet [] m p (sparseGet [] e.2.out p)) v.txc.dac else v.txc.dac }
      vaon := { v.vaon with duty := go.foldl (fun m p =>
        sparseSet [] m p (dutyAdd (sparseGet [] m p) (v.frameStart e.1) v.vaon.osc (v.engLen e.1))) v.vaon.duty } }
    w.each w.dlCarriers (fun c x =>
      let begun := x.symBegin c e.1
      let still := x.txc.eng.any (fun y => y.2.played && x.symBegin c y.1 == begun && y.2.late != [])
      x.setSym c begun (fun r => { r with late := still, muted := r.muted || held != [] })))

/-- Transmit and receive of a chiplet resume at the first engine-symbol boundary at least 64 ticks away (R340, R335). -/
def State.chipResume (s : State) (k : Nat) : State :=
  let b := s.engineFrom (s.tick + 64)
  ((({ s with txc := { s.txc with zeroUntil := sparseSet 0 s.txc.zeroUntil k b } }.validChip k b).renewHeld k).chipSends k b)

/-- The synthesizer of a chiplet is locked again (R334, R335). -/
def State.relocked (s : State) (k : Nat) : State :=
  ((s.setCalChip k { s.calChip k with unlocked := false }).showLock k true).chipResume k

/-- CAL_COMPLETE (R336, R339, R340): the completion discharges the request, unless the calibration had overrun. (Log: 4 DESIGN CHOICE, 113 DEDUCED) -/
def execCalComplete (chiplet : Nat) (s : State) : Out :=
  match (s.calChip chiplet).run with
  | none => .next s
  | some r =>
    let t := (s.calIdle chiplet).calCounted chiplet r.kind
    if r.forLock then .next (t.relocked chiplet)
    else if r.overrun then .next (t.chipResume chiplet)
    else
      let c := t.calChip chiplet
      let left := c.retune.filter (fun n => !r.paths.contains n)
      let u := (t.setCalChip chiplet { c with overruns := sparseSet 0 c.overruns r.kind 0, retune := if r.kind = 4 then left else c.retune }).renewComp
        (if r.kind = 4 then r.paths else chipPaths t.part chiplet)
      if r.kind = 4 ∧ left ≠ [] then .next u
      else .next (u.put (csPending chiplet) (maskClr (u.get (csPending chiplet)) r.kind))

/-- CAL_ABORT (R336, R340): the settings found stay, the request stays pending; after an overrun, CAL_OVERRUN carries bit [9]. (Log: 113 DEDUCED) -/
def execCalAbort (chiplet : Nat) (s : State) : Out :=
  match (s.calChip chiplet).run with
  | none => .next s
  | some r =>
    let t := s.calIdle chiplet
    if r.overrun then .next ((t.calAlarm (chiplet + 4 * r.kind + 0x200) false).chipResume chiplet) else .next t

/-- SYNTHESIZER_RELOCK (R335): it relocks on its stored settings; after a loss in a calibration the lock bits return (R334). -/
def execSynthesizerRelock (chiplet : Nat) (s : State) : Out :=
  let c := s.calChip chiplet
  if c.unlocked ∧ c.run = none then .next (s.relocked chiplet)
  else if s.chipUsed chiplet && !c.unlocked && !c.fullCal && (match c.run with | some r => r.kind != 0 | none => true) then
    .next (s.showLock chiplet true)
  else .next s

end Sys2Proof.Machine
end

