-- ==== Sys2Proof/Machine/Security.lean ====
section
/-! DEFINITION. The commands of the security block (17_security.md): envelope, keys, firmware, policy (R345, R460, R465 to R470), the
clearing of the log (R491), and attestation (R471 to R475). -/

namespace Sys2Proof.Machine

-- Operations in the background (R465)

/-- Begin an operation of R465; its completion answers the command. -/
def State.secBegin (s : State) (a : Asker) (op : SecOp) : State := { s with sec := { s.sec with op := some (op, a) } }.put R.SEC_STAT.BUSY 1

/-- A command of R465: BUSY while another runs, else refused for its own reason, else begun. (Log: 187 DEDUCED) -/
def State.secCommand (s : State) (a : Asker) (op : SecOp) (refusal : Option Nat) : State :=
  if s.sec.op.isSome then s.critNack a rcBusy
  else match refusal with
    | some r => s.critNack a r
    | none => s.secBegin a op

/-- The operation in progress ends. -/
def State.secEnd (s : State) : State := { s with sec := { s.sec with op := none } }.put R.SEC_STAT.BUSY 0

/-- Run states in which an envelope may change (R345). -/
def State.envOpen (s : State) : Bool := s.run == runEmpty || s.run == runReady || s.run == runFaulted

/-- The first parameter byte out of range of a command whose PARAMS are LENGTH and zeros from a byte on. -/
def badAfter (o n : Nat) (p : List Byte) : Option Nat := badZero p o n

/-- A parameter byte outside a range, or one of the zeros after it. -/
def badByte (o lo hi n : Nat) (p : List Byte) : Option Nat :=
  if leAt p o 1 < lo ∨ hi < leAt p o 1 then some o else badZero p (o + 1) n

/-- ENVELOPE_CHANGE (R345). (Log: 189 DEDUCED) -/
def execEnvelopeChange (m : Crit) (s : State) : Out :=
  s.mplane (.envelopeChange m) 0x06 (m.msg 4 []) (s.critical m 4 [] 8 (badAfter 4 4) (fun a p s =>
    s.secCommand a (.envelope (leAt p 0 4)) (if s.envOpen then none else some rcState)))

/-- KEY_OP ENROLL (R467). -/
def execKeyEnroll (m : Crit) (s : State) : Out :=
  s.mplane (.keyEnroll m) 0x06 (m.msg 5 [0]) (s.critical m 5 [0] 8 (badAfter 1 3) (fun a p s =>
    s.secCommand a (.enroll (leAt p 4 4)) none))

/-- The image in the active or the pending firmware slot names a key. -/
def State.keyNamed (s : State) (slot : Nat) : Bool :=
  let w := s.loft.bootA
  leAt (s.slotBytes w.active) 5 1 == slot || (match w.pending with
    | some b => leAt (s.slotBytes b) 5 1 == slot
    | none => false)

/-- KEY_OP REVOKE (R467). -/
def execKeyRevoke (m : Crit) (s : State) : Out :=
  s.mplane (.keyRevoke m) 0x06 (m.msg 5 [1]) (s.critical m 5 [1] 8 (badByte 1 1 4 6) (fun a p s =>
    let slot := leAt p 1 1
    s.secCommand a (.revoke slot) (if ((s.lock.getD {}).key slot).state ≠ 1 ∨ s.keyNamed slot then some rcState else none)))

/-- The key that REKEY carries; none where GCM fails (R468). (Log: 188 DEDUCED) -/
def State.unwrap (s : State) (ctr : BitVec 64) (p : List Byte) : Option (List Byte) :=
  gcmOpen s.cmdKey (p.take 12) (leBytes 8 s.part.serial.toNat ++ leBytes 8 ctr.toNat) ((p.drop 16).take 32) ((p.drop 48).take 16)

/-- REKEY (R468). (Log: 188 DEDUCED) -/
def execRekey (m : Crit) (s : State) : Out :=
  s.mplane (.rekey m) 0x06 (m.msg 6 []) (s.critical m 6 [] 64 (badAfter 12 4) (fun a p s =>
    if s.sec.op.isSome then s.critNack a rcBusy
    else match s.unwrap m.ctr p with
      | none => (s.security 4 6 1).critNack a rcUnwrap
      | some key => s.secBegin a (.rekey key)))

/-- FW_UPDATE INSTALL (R466). -/
def execFwInstall (m : Crit) (s : State) : Out :=
  s.mplane (.fwInstall m) 0x06 (m.msg 8 [0]) (s.critical m 8 [0] 8 (badAfter 1 3) (fun a p s =>
    s.secCommand a (.install (leAt p 4 4)) (if s.flag R.SYS_BOOTSTAT.TRIAL then some rcState else none)))

/-- FW_UPDATE CONFIRM (R466). -/
def execFwConfirm (m : Crit) (s : State) : Out :=
  s.mplane (.fwConfirm m) 0x06 (m.msg 8 [1]) (s.critical m 8 [1] 8 (badByte 1 0 1 6) (fun a p s =>
    s.secCommand a (.confirm (leAt p 1 1 == 1)) (if s.flag R.SYS_BOOTSTAT.TRIAL then none else some rcState)))

/-- LOCK_WRITE (R470). -/
def execLockWrite (m : Crit) (s : State) : Out :=
  s.mplane (.lockWrite m) 0x06 (m.msg 9 []) (s.critical m 9 [] 8
    (fun p => if 1 < leAt p 0 1 then some 0 else badByte 1 0 1 6 p) (fun a p s =>
      s.secCommand a (.lockWrite (leAt p 0 1 + 2 * leAt p 1 1)) none))

-- Completion (R465)

/-- Copy B of the lock block is in force. (Log: 191 DEDUCED) -/
def State.lockInB (s : State) : Bool :=
  s.loft.lockB.good && (!s.loft.lockA.good || later 32 s.loft.lockB.seq s.loft.lockA.seq)

/-- A lock-block copy whose writing stops at a word: R460 writes bytes 64 to 16,383 in order, then HASH, then MAGIC, then SEQ; the words
before it are new, the others as they were. (Log: 192 DEDUCED, 193 DESIGN CHOICE) -/
def cutLock (old new : LockCopy) (k : Nat) : LockCopy :=
  let body := new.body.take (8 * k) ++ old.body.drop (8 * k)
  let hash := (pad 32 new.hash).take (8 * (k - 2040)) ++ (pad 32 old.hash).drop (8 * (k - 2040))
  let c := lockOf (leBytes 4 (if 2044 < k then new.magic else old.magic) ++ leBytes 4 old.seq ++ (old.bytes.drop 8).take 24 ++ hash ++ body)
  { c with good := c.valid }

/-- Write the lock block as R460 states: the copy not in force, with the next SEQ, and read it back. A write that fails stops at a free word
and refuses the command; where the loft is unreadable, the read back fails too. (Log: 190 DEDUCED, 192 DEDUCED) -/
def State.writeLock (s : State) (l : LockCopy) (fails : Bool) (a : Asker) (cmd : Nat) (f : State → State) : State :=
  let inB := s.lockInB
  let new := l.sealed (((s.lock.getD {}).seq + 1) % 2 ^ 32)
  let c := if fails then cutLock (if inB then s.loft.lockA else s.loft.lockB) new (Config.pick (s.free + 1) % 2046) else new
  let t : State := { s with loft := if inB then { s.loft with lockA := c } else { s.loft with lockB := c } }
  if fails || !s.loft.readable then t.fresh.secFail a cmd (if inB then 0x390000 else 0x394000) 2048 else f t.secShow

/-- A change that makes a staged image be verified again (R345, R467); an apply that has begun goes on. (Log: 196 DEDUCED) -/
def State.unstage (s : State) : State :=
  { s with shf := { s.shf with staged := if s.shf.applying.isSome then s.shf.staged else none } }.put R.SHF_STATE.STAGE 0

/-- An operation of R465 on the image in FWSTAGE, checked under R455. -/
def State.withImage (s : State) (a : Asker) (kind len : Nat) (link : LinkErrs) (f : List Byte → State → State) : State :=
  if s.dramFailed then s.critNack a rcDram
  else if linkBad link then (s.dramReq.linkMeets link).critNack a rcDram
  else
    let s := s.linkMeets link
    let b := s.dramBytes fwStageBase (min len 0x100000)
    match s.imageFail b kind len with
    | some r => s.dramReq.critNack a r
    | none => f b s.dramReq

/-- The envelope goes into the lock block, and outputs at their safe voltage move to the new safe pair (R345, R469). (Log: 189 DEDUCED) -/
def State.envelopeDone (s : State) (a : Asker) (b : List Byte) (fails : Bool) : State :=
  let e := imgBody b
  if !s.envOpen then s.critNack a rcState
  else if s.run ≠ runEmpty ∧ s.shf.applied.isSome ∧ !s.envelopeOk e then s.critNack a rcEnvelope
  else
    let l : LockCopy := { s.lock.getD {} with envVersion := leAt b 8 4, envKey := leAt b 5 1, envHash := sha256 (b.take 64), envelope := e }
    s.writeLock l fails a 4 (fun t =>
      (t.unstage.each ((biasOuts t.part).filter (fun o => s.flag (bSafe o))) (fun o t => t.biasSafe o)).critAck a)

/-- A lock block with a key slot replaced. -/
def LockCopy.setKey (l : LockCopy) (slot : Nat) (k : KeySlot) : LockCopy := { l with keys := l.keys.set (slot - 1) k }

/-- The enrolment image's slot is written (R457, R467). -/
def State.enrollDone (s : State) (a : Asker) (b : List Byte) (fails : Bool) : State :=
  let e := imgBody b
  let slot := leAt e 0 1
  let l := s.lock.getD {}
  if leAt b 5 1 ≠ 0 ∧ (l.key slot).state ≠ 0 then s.critNack a rcState
  else
    let c : LockCopy := { l.setKey slot ⟨1, leAt e 1 1, (e.drop 16).take 32⟩ with keySeq := leAt b 8 4 }
    s.writeLock c fails a 5 (fun t => t.unstage.critAck a)

/-- Bytes of a firmware slot whose writing failed at a free block: new before it, as they were after. (Log: 194 DESIGN CHOICE) -/
def cutWrite (old new : List Byte) (k : Nat) : List Byte := new.take (64 * k) ++ old.drop (64 * k)

/-- The image goes into the slot that is not active, which becomes pending (R466). (Log: 18 DESIGN CHOICE, 194 DESIGN CHOICE) -/
def State.installDone (s : State) (a : Asker) (b : List Byte) (fails : Bool) : State :=
  let slot := !s.loft.bootA.active
  let k := Config.pick s.free % (b.length / 64 + 1)
  let image := if fails then cutWrite (s.slotBytes slot) b k else b
  let t : State := { s with loft := if slot then { s.loft with slotB := image } else { s.loft with slotA := image } }
  if fails then
    t.secFail a 8 ((if slot then 0x100000 else 0) + 64 * k) 8
  else
    { t with loft := { t.loft with
        bootA := { t.loft.bootA with pending := some slot }
        bootB := { t.loft.bootB with pending := some slot } } }.critAck a

/-- The running slot becomes active; RAISE_MIN raises the minimum version, which never decreases (R466). (Log: 18 DESIGN CHOICE, 195 DEDUCED) -/
def State.confirmDone (s : State) (a : Asker) (raise fails : Bool) : State :=
  if fails then s.secFail a 8 0x398000 2048
  else
    let slot := s.get R.SYS_BOOTSTAT.SLOT == 1
    let v := match s.boot.image with
      | some i => if raise then max s.loft.minVersion i.version.toNat else s.loft.minVersion
      | none => s.loft.minVersion
    let t : State := { s with loft := { s.loft with
      bootA := { s.loft.bootA with active := slot }
      bootB := { s.loft.bootB with active := slot }
      minVersion := v } }
    ((t.put R.SYS_BOOTSTAT.TRIAL 0).put R.SEC_MINVER.MINVER v).critAck a

/-- A command key record (R450): the key encrypted under the device wrapping key, with an IV that the spec leaves free. A write that fails
leaves the tag of the record before it. (Log: 195 DEDUCED) -/
def State.keyRecord (s : State) (old : KeyCopy) (good : Bool) (seq : BitVec 32) (key : List Byte) : KeyCopy :=
  let iv := (List.range 12).map (fun i => BitVec.ofNat 8 (Config.pick (s.free + i)))
  let c := gcmSeal s.part.wrapKey iv [] key
  ⟨good, seq, iv, c.1, if good then c.2 else old.tag, key⟩

/-- Write a key to the copy of the command key record that is not in force; a write that fails leaves that copy not valid (R450, R468). (Log: 195 DEDUCED) -/
def State.putKey (s : State) (good : Bool) (key : List Byte) : State :=
  if s.keyInB then { s with loft := { s.loft with keyA := s.keyRecord s.loft.keyA good (s.loft.keyB.seq + 1) key }, free := s.free + 12 }
  else { s with loft := { s.loft with keyB := s.keyRecord s.loft.keyB good (s.loft.keyA.seq + 1) key }, free := s.free + 12 }

/-- What the completion of an operation does, `fails` saying that a loft write of it fails. (Log: 195 DEDUCED) -/
def State.secDone (s : State) (op : SecOp) (a : Asker) (fails : Bool) (link : LinkErrs) : State :=
  match op with
  | .envelope n => s.withImage a 2 n link (fun b t => t.envelopeDone a b fails)
  | .enroll n => s.withImage a 3 n link (fun b t => t.enrollDone a b fails)
  | .revoke slot =>
    let l := s.lock.getD {}
    s.writeLock (l.setKey slot { l.key slot with state := 2 }) fails a 5 (fun t => t.unstage.critAck a)
  | .rekey key =>
    if fails then (s.putKey false key).secFail a 6 0x398000 2048
    else ((s.putKey true key).setLast 0).critAck a
  | .install n => s.withImage a 1 n link (fun b t => t.installDone a b fails)
  | .confirm raise => s.confirmDone a raise fails
  | .lockWrite policy => s.writeLock { s.lock.getD {} with policy := policy } fails a 9 (fun t => t.critAck a)

/-- SECURITY_OP_DONE (R465): `link` are the link-ECC errors that the reading of FWSTAGE meets (R407). -/
def execSecurityOpDone (fails : Bool) (s : State) (link : LinkErrs := []) : Out :=
  match s.sec.op with
  | none => .next s
  | some (op, a) => .next (s.secEnd.secDone op a fails link)

-- LOG_CLEAR (R491)

/-- Why a LOG_CLEAR is refused. (Log: 197 DEDUCED) -/
def State.clearRefusal (s : State) : Option Nat :=
  let st := s.get R.TAL_STAT.STATE
  if st = 3 then some rcState else if s.logOpen ∨ st ≠ 1 then some rcLogBusy else none

/-- Write the events that wait, so that the order of the log stays that of R480. (Log: 197 DEDUCED) -/
def State.flushQueue (s : State) : List TalEvent → State
  | [] => s
  | e :: q => ((s.setQueue q).writeEvent e noFailure).flushQueue q

/-- The LOG_CLEARED event and the state CLEARING; a log that stalls on it refuses the command. (Log: 197 DEDUCED) -/
def State.clearLog (s : State) (a : Asker) (ctr : Nat) (report : MediaReport) : State :=
  let t := s.flushQueue s.tal.queue
  let e := t.talEvent 0x00F0 (leBytes 4 t.events.length ++ leBytes 4 0 ++ leBytes 8 ctr)
  let u := { t with tal := { t.tal with seq := (t.tal.seq + 1) % 2 ^ 32, clearFrom := t.tal.wpos } }.writeEvent e report
  if u.get R.TAL_STAT.STATE = 3 then u.critNack a rcInternal else (u.put R.TAL_STAT.STATE 2).critAck a

/-- LOG_CLEAR (R491). -/
def execLogClear (m : Crit) (report : MediaReport) (s : State) : Out :=
  s.mplane (.logClear m report) 0x06 (m.msg 7 []) (s.critical m 7 [] 8 (badAfter 0 8) (fun a _ s =>
    match s.clearRefusal with
    | some r => s.critNack a r
    | none => s.clearLog a m.ctr.toNat report))

-- Attestation (R471 to R475)

/-- TREE_BUILD_DONE (R471): the tree of NEXT after reset, then each next one ahead of its need. (Log: 200 DEDUCED) -/
def execTreeBuildDone (s : State) : Out :=
  let k := match s.sec.treeBuilt with
    | none => s.get R.SEC_SIGIDX.NEXT / 32768
    | some k => min (k + 1) 1023
  if s.boot.inReset then .next s else .next ({ s with sec := { s.sec with treeBuilt := some (min k 1023) } }.attestShow)

/-- Checks 7 and 12 of an ATTEST_REQ body. (Log: 198 DEDUCED, 199 DEDUCED) -/
def State.attestCheck (s : State) (b : List Byte) : Option (Nat × Nat) :=
  firstFail [chk (decide (leAt b 0 1 ≤ 1)) rcRange 16, chk (zeroAt b 1 7) rcRange 17, chk s.attestFree rcBusy noField,
    chk (leAt b 0 1 == 1 || decide (s.get R.SEC_SIGIDX.NEXT < 2 ^ 25)) rcAttestExh noField]

/-- ATTEST_REQ (R474, R475). -/
def execAttestReq (m : Msg) (s : State) : Out :=
  s.mplane (.attestReq m) 0x07 m (match s.rx 1 0x07 m with
    | .done t => t
    | .take t =>
      let a := m.asker 1 0x07
      match t.attestCheck m.body with
      | some r => t.nackAt a r.1 r.2
      | none =>
        let u := t.passed 1 m
        ({ u with sec := { u.sec with attest := some (a, leAt m.body 0 1, (m.body.drop 8).take 32) } }.attestShow).ackIf 1 0x07 m false 0)

/-- The 192-byte report of R474. ENV_HASH is free where no lock block is in force. (Log: 201 DESIGN CHOICE) -/
def State.report (s : State) (nonce : List Byte) : List Byte :=
  let w (r : Fld) : List Byte := leBytes 4 (s.word r.addr).toNat
  let img : List Byte := match s.boot.image with
    | some i => leBytes 4 i.version.toNat ++ pad 32 i.bodyHash
    | none => List.replicate 36 0
  let env : List Byte := match s.lock with
    | some l => pad 32 l.envHash
    | none => (List.range 32).map (fun i => BitVec.ofNat 8 (Config.pick (s.free + i)))
  leBytes 2 1 ++ leBytes 2 0 ++ leBytes 4 (s.get R.SEC_SIGIDX.NEXT) ++ leBytes 8 s.part.serial.toNat ++ pad 32 nonce
    ++ w R.SYS_CAP0.w ++ w R.SYS_CAP1.w
    ++ leBytes 1 (s.get R.SYS_BOOTSTAT.SLOT) ++ leBytes 1 (s.get R.SYS_BOOTSTAT.TRIAL) ++ leBytes 2 0 ++ img
    ++ (match s.shf.applied with | some sh => pad 32 sh.digest | none => List.replicate 32 0)
    ++ env ++ w R.SEC_ENVVER.w ++ leBytes 4 s.loft.minVersion ++ leBytes 8 s.loft.lastCtr
    ++ w R.TAL_PCC.w ++ w R.TAL_OPTIME.w
    ++ leBytes 2 (s.get R.TIM_EPOCH.EPOCH) ++ leBytes 1 (s.get R.SHF_STATE.RUN) ++ leBytes 5 0

/-- Bytes that a leaf or tree of the identity key gives from the seed. (Log: 52 DESIGN CHOICE) -/
def State.identityBytes (s : State) (what : List Nat) (n : Nat) : List Byte :=
  (List.range n).map (fun i => BitVec.ofNat 8 (Config.identityByte s.part.idSeed what i))

/-- An LM-OTS signature of the identity key, LMOTS_SHA256_N32_W8: its type code, the randomizer and 34 chain values (R471). (Log: 52 DESIGN CHOICE) -/
def State.identityOts (s : State) (leaf : List Nat) (msg : List Byte) : List Byte :=
  beBytes 4 4 ++ (List.range (32 + 32 * 34)).map (fun i => BitVec.ofNat 8 (Config.identityOts s.part.idSeed leaf msg i))

/-- An LMS signature of a tree of the identity key: leaf number, LM-OTS signature, type code, and the path of the tree's height (R471). (Log: 52 DESIGN CHOICE) -/
def State.identityLms (s : State) (tree : List Nat) (typ height q : Nat) (msg : List Byte) : List Byte :=
  beBytes 4 q ++ s.identityOts (tree ++ [q]) msg ++ beBytes 4 typ ++ s.identityBytes (tree ++ [q, 1]) (32 * height)

/-- The LMS public key of the bottom tree under a top leaf: LMS_SHA256_M32_H15 and LMOTS_SHA256_N32_W8, identifier and root (R471). (Log: 52 DESIGN CHOICE) -/
def State.identityPub (s : State) (top : Nat) : List Byte := beBytes 4 7 ++ beBytes 4 4 ++ s.identityBytes [top] 48

/-- The 3,124-byte signature of the identity key with an index: an HSS signature of two levels, whose top leaf `k >> 15` signs the public key
of the bottom tree, and the bottom leaf `k mod 32,768` the message (R471, R474). (Log: 52 DESIGN CHOICE) -/
def State.identitySig (s : State) (k : Nat) (msg : List Byte) : List Byte :=
  let top := k / 32768
  beBytes 4 1 ++ s.identityLms [] 6 10 top (s.identityPub top) ++ s.identityPub top ++ s.identityLms [top] 7 15 (k % 32768) msg

/-- The certificate as ATTEST_REPORT sends it (R473). -/
def Cert.bytes (c : Cert) : List Byte :=
  leBytes 2 1 ++ leBytes 2 c.caKey ++ leBytes 4 0 ++ leBytes 8 c.serial.toNat ++ leBytes 4 c.cap0.toNat ++ leBytes 4 c.cap1.toNat
    ++ leBytes 8 c.issued ++ pad 60 c.idPubkey ++ leBytes 4 0 ++ leBytes 4 c.signature.length ++ c.signature

/-- Reserve a block of indices where none is left (R472). -/
def State.reserveIndices (s : State) : State :=
  let next := s.get R.SEC_SIGIDX.NEXT
  if next = s.loft.sigLimit then
    let l := min (next + 1024) (2 ^ 25)
    { s with loft := { s.loft with sigLimit := l } }.put R.SEC_SIGRES.LIMIT l
  else s

/-- Use one index: NEXT, the statistic counter and the events of R476. (Log: 202 DEDUCED, 207 DEDUCED) -/
def State.useIndex (s : State) : State :=
  let n := s.get R.SEC_SIGIDX.NEXT + 1
  let t := (s.put R.SEC_SIGIDX.NEXT n).count R.SEC_CNT_ATTEST.ATTEST R.SEC_CNTOVF.OVF 3
  if n = 2 ^ 25 then t.security 7 0 1
  else if n = 2 ^ 25 - 2 ^ 20 + 1 then t.security 6 0 0
  else t

/-- ATTEST_REPORT (R472, R474): `limitFails` says that the loft write of LIMIT fails. (Log: 193 DESIGN CHOICE, 203 DEDUCED) -/
def execAttestReport (limitFails : Bool) (s : State) : Out :=
  match s.sec.attest with
  | none => .next s
  | some (a, kind, nonce) =>
    let t : State := { s with sec := { s.sec with attest := none } }
    let next := t.get R.SEC_SIGIDX.NEXT
    if kind = 1 then .next (t.attestShow.transmit a.port 1 0x08 1 a.src 0 (leBytes 1 1 ++ leBytes 7 0 ++ t.loft.certificate.bytes))
    else if next = t.loft.sigLimit ∧ limitFails then
      .next (((t.loftFailed 0x39C000 2048).attestShow.security 9 0 1).nack a rcInternal)
    else
      let r := t.report nonce
      let u := { t with free := t.free + 32 }.reserveIndices.useIndex.attestShow
      .next (u.transmit a.port 1 0x08 1 a.src 0 (leBytes 1 0 ++ leBytes 7 0 ++ r ++ t.identitySig next r))

end Sys2Proof.Machine
end

