-- ==== Sys2Proof/Machine/Dispatch.lean ====
section
/-! DEFINITION. The dispatch of the commands: one arm per constructor of Instr, each one direct call of its meaning. -/

namespace Sys2Proof.Machine

def exec (i : Instr) (s : State) : Host.Outcome State Fault Refusal :=
  match i with
  | .railFault rail => Sys2Proof.Machine.execRailFault rail s
  | .railPowerLoss report => Sys2Proof.Machine.execRailPowerLoss report s
  | .uvAccepted report => Sys2Proof.Machine.execUvAccepted report s
  | .ovAccepted report => Sys2Proof.Machine.execOvAccepted report s
  | .powerOnReset vaonLost => Sys2Proof.Machine.execPowerOnReset vaonLost s
  | .thermalTrip within report => Sys2Proof.Machine.execThermalTrip within report s
  | .resetNAssert held => Sys2Proof.Machine.execResetNAssert s held
  | .resetRelease sbLow held => Sys2Proof.Machine.execResetRelease sbLow s held
  | .softReset key => Sys2Proof.Machine.execSoftReset key s
  | .refclkPresent ms badA => Sys2Proof.Machine.execRefclkPresent s ms badA
  | .recoveryImageLoaded image => Sys2Proof.Machine.execRecoveryImageLoaded image s
  | .loftChecksDone badA badB corrected badCopies => Sys2Proof.Machine.execLoftChecksDone badA badB s corrected badCopies
  | .dramTrainingDone size lanes => Sys2Proof.Machine.execDramTrainingDone size lanes s
  | .sbLoad offset data => Sys2Proof.Machine.execSbLoad offset data s
  | .sbBoot length => Sys2Proof.Machine.execSbBoot length s
  | .sbReset first second => Sys2Proof.Machine.execSbReset first second s
  | .tallySeek word => Sys2Proof.Machine.execTallySeek word s
  | .jtagBypass tdi => Sys2Proof.Machine.execJtagBypass tdi s
  | .jtagSamplePreload pins tdi => Sys2Proof.Machine.execJtagSamplePreload pins tdi s
  | .jtagExtest pins tdi => Sys2Proof.Machine.execJtagExtest pins tdi s
  | .sync m ago later res => Sys2Proof.Machine.execSync m ago later res s
  | .followUp m => Sys2Proof.Machine.execFollowUp m s
  | .delayResp m => Sys2Proof.Machine.execDelayResp m s
  | .announce m => Sys2Proof.Machine.execAnnounce m s
  | .ppsInEdge ago => Sys2Proof.Machine.execPpsInEdge ago s
  | .fsyncEdge ago => Sys2Proof.Machine.execFsyncEdge ago s
  | .fctlFrameDone nak => Sys2Proof.Machine.execFctlFrameDone nak s
  | .sheafLoadVerify m => Sys2Proof.Machine.execSheafLoadVerify m s
  | .sheafLoadVerifyApply m => Sys2Proof.Machine.execSheafLoadVerifyApply m s
  | .sheafLoadApply m => Sys2Proof.Machine.execSheafLoadApply m s
  | .sheafLoadDiscard m => Sys2Proof.Machine.execSheafLoadDiscard m s
  | .verifyDone rest link => Sys2Proof.Machine.execVerifyDone rest s link
  | .applyDone fault link => Sys2Proof.Machine.execApplyDone fault s link
  | .start m => Sys2Proof.Machine.execStart m s
  | .stop m => Sys2Proof.Machine.execStop m s
  | .subframeBoundary corrected bad ovl word => Sys2Proof.Machine.execSubframeBoundary corrected bad s ovl word
  | .noOperation a => Sys2Proof.Machine.execNoOperation a s
  | .linkPlacementOpen serve car slotT sym kind => Sys2Proof.Machine.execLinkPlacementOpen serve car slotT sym kind s
  | .linkPlacementClose serve car slotT sym kind => Sys2Proof.Machine.execLinkPlacementClose serve car slotT sym kind s
  | .fetch a lost fixed => Sys2Proof.Machine.execFetch a lost s fixed
  | .recomputeFetch a lost fixed => Sys2Proof.Machine.execRecomputeFetch a lost s fixed
  | .kernelStart a check later => Sys2Proof.Machine.execKernelStart a check later s
  | .kernelCheck a => Sys2Proof.Machine.execKernelCheck a s
  | .cfrSelect a => Sys2Proof.Machine.execCfrSelect a s
  | .dpdSelect a => Sys2Proof.Machine.execDpdSelect a s
  | .commit a => Sys2Proof.Machine.execCommit a s
  | .adapt a => Sys2Proof.Machine.execAdapt a s
  | .adaptDone gleaner buf r => Sys2Proof.Machine.execAdaptDone gleaner buf r s
  | .setNcoTx a => Sys2Proof.Machine.execSetNcoTx a s
  | .setNcoRx a => Sys2Proof.Machine.execSetNcoRx a s
  | .dacQuiet a => Sys2Proof.Machine.execDacQuiet a s
  | .dacActive a => Sys2Proof.Machine.execDacActive a s
  | .tone a => Sys2Proof.Machine.execTone a s
  | .converterBoundary bound => Sys2Proof.Machine.execConverterBoundary bound s
  | .setAttn a => Sys2Proof.Machine.execSetAttn a s
  | .setFilter a => Sys2Proof.Machine.execSetFilter a s
  | .agcStep a codes => Sys2Proof.Machine.execAgcStep a codes s
  | .extract a adc => Sys2Proof.Machine.execExtract a adc s
  | .rxSettingBoundary bound => Sys2Proof.Machine.execRxSettingBoundary bound s
  | .capture a => Sys2Proof.Machine.execCapture a s
  | .captureEnd gleaner codes lead => Sys2Proof.Machine.execCaptureEnd gleaner codes lead s
  | .biasStage a => Sys2Proof.Machine.execBiasStage a s
  | .biasStrobe a => Sys2Proof.Machine.execBiasStrobe a s
  | .biasBoundary bound => Sys2Proof.Machine.execBiasBoundary bound s
  | .biasRangeSwitchDone out => Sys2Proof.Machine.execBiasRangeSwitchDone out s
  | .femPhase a => Sys2Proof.Machine.execFemPhase a s
  | .femChangeInstant bound => Sys2Proof.Machine.execFemChangeInstant bound s
  | .fsbSend a => Sys2Proof.Machine.execFsbSend a s
  | .fsbChainStart bus => Sys2Proof.Machine.execFsbChainStart bus s
  | .fsbFrameDone bus data par => Sys2Proof.Machine.execFsbFrameDone bus data par s
  | .fsbGo word => Sys2Proof.Machine.execFsbGo word s
  | .tineSend a => Sys2Proof.Machine.execTineSend a s
  | .tineStrobe a => Sys2Proof.Machine.execTineStrobe a s
  | .tineReadback chain ret => Sys2Proof.Machine.execTineReadback chain ret s
  | .tineIdleStrobe chain => Sys2Proof.Machine.execTineIdleStrobe chain s
  | .convert a => Sys2Proof.Machine.execConvert a s
  | .dmaOpen a => Sys2Proof.Machine.execDmaOpen a s
  | .dmaClose a => Sys2Proof.Machine.execDmaClose a s
  | .calWindowOpen a close => Sys2Proof.Machine.execCalWindowOpen a close s
  | .calWindowClose a => Sys2Proof.Machine.execCalWindowClose a s
  | .uCPlaneTransmission serve job => Sys2Proof.Machine.execUCPlaneTransmission serve job s
  | .playout a osc => Sys2Proof.Machine.execPlayout a osc s
  | .horizon a => Sys2Proof.Machine.execHorizon a s
  | .engineWindow at_ win => Sys2Proof.Machine.execEngineWindow at_ win s
  | .enginePassDone win poison => Sys2Proof.Machine.execEnginePassDone win poison s
  | .recomputeDone car at_ => Sys2Proof.Machine.execRecomputeDone car at_ s
  | .partialSumClose a => Sys2Proof.Machine.execPartialSumClose a s
  | .covar a adc => Sys2Proof.Machine.execCovar a adc s
  | .solve a => Sys2Proof.Machine.execSolve a s
  | .place a => Sys2Proof.Machine.execPlace a s
  | .synLockLoss chiplet => Sys2Proof.Machine.execSynLockLoss chiplet s
  | .synRelockRetry chiplet => Sys2Proof.Machine.execSynRelockRetry chiplet s
  | .calRequest kinds chiplets => Sys2Proof.Machine.execCalRequest kinds chiplets s
  | .calStart chiplet => Sys2Proof.Machine.execCalStart chiplet s
  | .calComplete chiplet => Sys2Proof.Machine.execCalComplete chiplet s
  | .calAbort chiplet => Sys2Proof.Machine.execCalAbort chiplet s
  | .calHeldRelease chiplet => Sys2Proof.Machine.execCalHeldRelease chiplet s
  | .powerStepBoundary bound => Sys2Proof.Machine.execPowerStepBoundary bound s
  | .protectBoundary bound => Sys2Proof.Machine.execProtectBoundary bound s
  | .alertInputRise input held => Sys2Proof.Machine.execAlertInputRise input s held
  | .alertInputFall input held => Sys2Proof.Machine.execAlertInputFall input s held
  | .tripClear path => Sys2Proof.Machine.execTripClear path s
  | .latchClear input => Sys2Proof.Machine.execLatchClear input s
  | .laneSignalDetect lane => Sys2Proof.Machine.execLaneSignalDetect lane s
  | .laneDetectTimeout lane tx => Sys2Proof.Machine.execLaneDetectTimeout lane tx s
  | .laneTrainDone lane ctle => Sys2Proof.Machine.execLaneTrainDone lane ctle s
  | .laneBitLock lane => Sys2Proof.Machine.execLaneBitLock lane s
  | .laneBlockLock lane inverted => Sys2Proof.Machine.execLaneBlockLock lane inverted s
  | .laneAligned lane logical => Sys2Proof.Machine.execLaneAligned lane logical s
  | .bringupTimeout port => Sys2Proof.Machine.execBringupTimeout port s
  | .bringupRetry port => Sys2Proof.Machine.execBringupRetry port s
  | .capabilityBlock port lane block => Sys2Proof.Machine.execCapabilityBlock port lane block s
  | .alignmentMarker port markers => Sys2Proof.Machine.execAlignmentMarker port markers s
  | .markerTransmit port => Sys2Proof.Machine.execMarkerTransmit port s
  | .laneLossOfLock lane cause invalid => Sys2Proof.Machine.execLaneLossOfLock lane cause s invalid
  | .laneRetrainRetry lane => Sys2Proof.Machine.execLaneRetrainRetry lane s
  | .laneSleep lane => Sys2Proof.Machine.execLaneSleep lane s
  | .laneWake lane => Sys2Proof.Machine.execLaneWake lane s
  | .laneWakeTimeout lane => Sys2Proof.Machine.execLaneWakeTimeout lane s
  | .bitslip lane => Sys2Proof.Machine.execBitslip lane s
  | .laneRetrain lane => Sys2Proof.Machine.execLaneRetrain lane s
  | .laneDisable lane => Sys2Proof.Machine.execLaneDisable lane s
  | .hcrcHunt port bytes => Sys2Proof.Machine.execHcrcHunt port bytes s
  | .forward plane typ m res => Sys2Proof.Machine.execForward plane typ m res s
  | .dlData m => Sys2Proof.Machine.execDlData m s
  | .partialSum m => Sys2Proof.Machine.execPartialSum m s
  | .dlSections m => Sys2Proof.Machine.execDlSections m s
  | .ulSections m => Sys2Proof.Machine.execUlSections m s
  | .beamWrite m link => Sys2Proof.Machine.execBeamWrite m s link
  | .amend m => Sys2Proof.Machine.execAmend m s
  | .revoke m => Sys2Proof.Machine.execRevoke m s
  | .powerStep m => Sys2Proof.Machine.execPowerStep m s
  | .femState m => Sys2Proof.Machine.execFemState m s
  | .tineWeights m => Sys2Proof.Machine.execTineWeights m s
  | .soundReq m => Sys2Proof.Machine.execSoundReq m s
  | .keepalive m => Sys2Proof.Machine.execKeepalive m s
  | .regRead m => Sys2Proof.Machine.execRegRead m s
  | .regWrite m => Sys2Proof.Machine.execRegWrite m s
  | .registerWrite addr value => Sys2Proof.Machine.execRegisterWrite addr value s
  | .alarmRelease code => Sys2Proof.Machine.execAlarmRelease code s
  | .attestReq m => Sys2Proof.Machine.execAttestReq m s
  | .attestReport limitFails => Sys2Proof.Machine.execAttestReport limitFails s
  | .envelopeChange m => Sys2Proof.Machine.execEnvelopeChange m s
  | .keyEnroll m => Sys2Proof.Machine.execKeyEnroll m s
  | .keyRevoke m => Sys2Proof.Machine.execKeyRevoke m s
  | .rekey m => Sys2Proof.Machine.execRekey m s
  | .logClear m report => Sys2Proof.Machine.execLogClear m report s
  | .fwInstall m => Sys2Proof.Machine.execFwInstall m s
  | .fwConfirm m => Sys2Proof.Machine.execFwConfirm m s
  | .lockWrite m => Sys2Proof.Machine.execLockWrite m s
  | .securityOpDone fails link => Sys2Proof.Machine.execSecurityOpDone fails s link
  | .dWrite m link => Sys2Proof.Machine.execDWrite m s link
  | .dRead m link corrected => Sys2Proof.Machine.execDRead m s link corrected
  | .dEnd m link corrected => Sys2Proof.Machine.execDEnd m s link corrected
  | .dmaGo channel => Sys2Proof.Machine.execDmaGo channel s
  | .dmaClear channel => Sys2Proof.Machine.execDmaClear channel s
  | .descriptorStore hi => Sys2Proof.Machine.execDescriptorStore hi s
  | .ringLengthWrite channel length => Sys2Proof.Machine.execRingLengthWrite channel length s
  | .ringAck channel bytes => Sys2Proof.Machine.execRingAck channel bytes s
  | .dmaBurst dramFree ecc lane => Sys2Proof.Machine.execDmaBurst dramFree ecc lane s
  | .conversionDone raw => Sys2Proof.Machine.execConversionDone raw s
  | .urgentGo ch => Sys2Proof.Machine.execUrgentGo ch s
  | .refreshWindow banks => Sys2Proof.Machine.execRefreshWindow banks s
  | .mr4Poll rates postponed => Sys2Proof.Machine.execMr4Poll rates postponed s
  | .dramRetrainDone lanes => Sys2Proof.Machine.execDramRetrainDone lanes s
  | .selfRefreshExit request => Sys2Proof.Machine.execSelfRefreshExit request s
  | .granaryScrub addr ecc => Sys2Proof.Machine.execGranaryScrub addr ecc s
  | .loftWriteDone writer addr words failed => Sys2Proof.Machine.execLoftWriteDone writer addr words failed s
  | .tallyScanDone mfaFail corrected unreadable => Sys2Proof.Machine.execTallyScanDone mfaFail s corrected unreadable
  | .tallyRecordWrite report => Sys2Proof.Machine.execTallyRecordWrite report s
  | .tallyWindowRead corrected bad => Sys2Proof.Machine.execTallyWindowRead s corrected bad
  | .slotResultRead slot => Sys2Proof.Machine.execSlotResultRead slot s
  | .xferDone tile => Sys2Proof.Machine.execXferDone tile s
  | .tileResume tile => Sys2Proof.Machine.execTileResume tile s
  | .tileLdv tile last dst a => Sys2Proof.Machine.execTileLdv tile last dst a s
  | .tileLdb tile last dst a => Sys2Proof.Machine.execTileLdb tile last dst a s
  | .tileSld tile last dst a => Sys2Proof.Machine.execTileSld tile last dst a s
  | .tileStv tile last src a => Sys2Proof.Machine.execTileStv tile last src a s
  | .tileSst tile last src a => Sys2Proof.Machine.execTileSst tile last src a s
  | .tileCmac tile last acc x y clr neg conj wrap => Sys2Proof.Machine.execTileCmac tile last acc x y clr neg conj wrap s
  | .tileAccrd tile last dst acc sh w16 => Sys2Proof.Machine.execTileAccrd tile last dst acc sh w16 s
  | .tileAccadd tile last acc other neg wrap => Sys2Proof.Machine.execTileAccadd tile last acc other neg wrap s
  | .tileAccst tile last acc a => Sys2Proof.Machine.execTileAccst tile last acc a s
  | .tileAccld tile last acc a sh wrap => Sys2Proof.Machine.execTileAccld tile last acc a sh wrap s
  | .tileVadd tile last dst x y => Sys2Proof.Machine.execTileVadd tile last dst x y s
  | .tileVsub tile last dst x y => Sys2Proof.Machine.execTileVsub tile last dst x y s
  | .tileVneg tile last dst x => Sys2Proof.Machine.execTileVneg tile last dst x s
  | .tileVconj tile last dst x => Sys2Proof.Machine.execTileVconj tile last dst x s
  | .tileVshr tile last dst x sh => Sys2Proof.Machine.execTileVshr tile last dst x sh s
  | .tileVshl tile last dst x sh => Sys2Proof.Machine.execTileVshl tile last dst x sh s
  | .tileVsel tile last dst x y mask => Sys2Proof.Machine.execTileVsel tile last dst x y mask s
  | .tileVshuf tile last dst x idx => Sys2Proof.Machine.execTileVshuf tile last dst x idx s
  | .tileVmov tile last dst x => Sys2Proof.Machine.execTileVmov tile last dst x s
  | .tileBfly tile last dst1 dst2 x y w sc => Sys2Proof.Machine.execTileBfly tile last dst1 dst2 x y w sc s
  | .tileSclr tile last max => Sys2Proof.Machine.execTileSclr tile last max s
  | .tileSmax tile last x key => Sys2Proof.Machine.execTileSmax tile last x key s
  | .tileSmin tile last x key => Sys2Proof.Machine.execTileSmin tile last x key s
  | .tileSred tile last key idx => Sys2Proof.Machine.execTileSred tile last key idx s
  | .tileSmov tile last dst x => Sys2Proof.Machine.execTileSmov tile last dst x s
  | .tileSadd tile last dst x y => Sys2Proof.Machine.execTileSadd tile last dst x y s
  | .tileSsub tile last dst x y => Sys2Proof.Machine.execTileSsub tile last dst x y s
  | .tileSand tile last dst x y => Sys2Proof.Machine.execTileSand tile last dst x y s
  | .tileSor tile last dst x y => Sys2Proof.Machine.execTileSor tile last dst x y s
  | .tileSxor tile last dst x y => Sys2Proof.Machine.execTileSxor tile last dst x y s
  | .tileSshl tile last dst x y => Sys2Proof.Machine.execTileSshl tile last dst x y s
  | .tileSshr tile last dst x y => Sys2Proof.Machine.execTileSshr tile last dst x y s
  | .tileSclz tile last dst x => Sys2Proof.Machine.execTileSclz tile last dst x s
  | .tileScsel tile last dst c l r x y => Sys2Proof.Machine.execTileScsel tile last dst c l r x y s
  | .tileAmov tile last r x => Sys2Proof.Machine.execTileAmov tile last r x s
  | .tileAadd tile last r x => Sys2Proof.Machine.execTileAadd tile last r x s
  | .tileLoop tile last c n => Sys2Proof.Machine.execTileLoop tile last c n s
  | .tileRepeat tile last c => Sys2Proof.Machine.execTileRepeat tile last c s
  | .tileEnd tile last => Sys2Proof.Machine.execTileEnd tile last s
  | .tileNop tile last => Sys2Proof.Machine.execTileNop tile last s
  | .tileXin tile last ad off w n => Sys2Proof.Machine.execTileXin tile last ad off w n s
  | .tileXout tile last ad off w n => Sys2Proof.Machine.execTileXout tile last ad off w n s
  | .tileXwait tile last => Sys2Proof.Machine.execTileXwait tile last s
  | .timingInputGlitch pps => Sys2Proof.Machine.execTimingInputGlitch pps s
  | .trainingControlBlock lane block req converged => Sys2Proof.Machine.execTrainingControlBlock lane block s req converged
  | .terminationDetect lane => Sys2Proof.Machine.execTerminationDetect lane s
  | .synthesizerRelock chiplet => Sys2Proof.Machine.execSynthesizerRelock chiplet s
  | .unknownType plane typ m => Sys2Proof.Machine.execUnknownType plane typ m s
  | .ptpMessageDiscarded m => Sys2Proof.Machine.execPtpMessageDiscarded m s
  | .ackOrNackReceived nack m => Sys2Proof.Machine.execAckOrNackReceived nack m s
  | .dramFullTrainingDone lanes => Sys2Proof.Machine.execDramFullTrainingDone lanes s
  | .vinQualified => Sys2Proof.Machine.execVinQualified s
  | .railGroupGood => Sys2Proof.Machine.execRailGroupGood s
  | .railRetry => Sys2Proof.Machine.execRailRetry s
  | .thermalRestart => Sys2Proof.Machine.execThermalRestart s
  | .watchdog => Sys2Proof.Machine.execWatchdog s
  | .firmwareRestartDone => Sys2Proof.Machine.execFirmwareRestartDone s
  | .refclkLate => Sys2Proof.Machine.execRefclkLate s
  | .slotVerifyDone corrected bad => Sys2Proof.Machine.execSlotVerifyDone s corrected bad
  | .sbStatus => Sys2Proof.Machine.execSbStatus s
  | .tallyOpen => Sys2Proof.Machine.execTallyOpen s
  | .tallyRead corrected bad => Sys2Proof.Machine.execTallyRead s corrected bad
  | .tallyClose => Sys2Proof.Machine.execTallyClose s
  | .tallySessionTimeout => Sys2Proof.Machine.execTallySessionTimeout s
  | .exchangeTimeout => Sys2Proof.Machine.execExchangeTimeout s
  | .syncTimeout => Sys2Proof.Machine.execSyncTimeout s
  | .announceTimeout => Sys2Proof.Machine.execAnnounceTimeout s
  | .holdoverLimit => Sys2Proof.Machine.execHoldoverLimit s
  | .servoDisable => Sys2Proof.Machine.execServoDisable s
  | .ppsOutRise => Sys2Proof.Machine.execPpsOutRise s
  | .ppsOutFall => Sys2Proof.Machine.execPpsOutFall s
  | .fullCalDone => Sys2Proof.Machine.execFullCalDone s
  | .runPrepare => Sys2Proof.Machine.execRunPrepare s
  | .runStart => Sys2Proof.Machine.execRunStart s
  | .stopBoundary => Sys2Proof.Machine.execStopBoundary s
  | .stopComplete => Sys2Proof.Machine.execStopComplete s
  | .keepaliveExpiry => Sys2Proof.Machine.execKeepaliveExpiry s
  | .keepaliveMuteLift => Sys2Proof.Machine.execKeepaliveMuteLift s
  | .stepMuteRelease => Sys2Proof.Machine.execStepMuteRelease s
  | .upRestart => Sys2Proof.Machine.execUpRestart s
  | .casRestart => Sys2Proof.Machine.execCasRestart s
  | .segmentStatusChange => Sys2Proof.Machine.execSegmentStatusChange s
  | .nackLost => Sys2Proof.Machine.execNackLost s
  | .treeBuildDone => Sys2Proof.Machine.execTreeBuildDone s
  | .descriptorRead => Sys2Proof.Machine.execDescriptorRead s
  | .barrierRelease => Sys2Proof.Machine.execBarrierRelease s
  | .scanPassStart => Sys2Proof.Machine.execScanPassStart s
  | .monCal => Sys2Proof.Machine.execMonCal s
  | .dramTrain => Sys2Proof.Machine.execDramTrain s
  | .selfRefreshEntry => Sys2Proof.Machine.execSelfRefreshEntry s
  | .tallyClearDone => Sys2Proof.Machine.execTallyClearDone s
  | .optimePersist => Sys2Proof.Machine.execOptimePersist s
  | .mediaClear => Sys2Proof.Machine.execMediaClear s
  | .timeRead => Sys2Proof.Machine.execTimeRead s
  | .counterRead => Sys2Proof.Machine.execCounterRead s
  | .bankReadI => Sys2Proof.Machine.execBankReadI s
  | .bankReadQ => Sys2Proof.Machine.execBankReadQ s

end Sys2Proof.Machine
end

