-- ==== Sys2Proof/Machine/Idle.lean ====
section
/-! DEFINITION. What the block does by itself when no command waits: one tick-clock cycle (R84), the operating time (R481), one answer
that waited (R178), one message of each port that waited for egress bytes (R208), one piece of a D-plane read (R205), the entry of self-refresh (R409), the landing of an extraction (R310),
and the first clock of an FSB_SEND chain (R350). -/

namespace Sys2Proof.Machine

/-- A cycle of the running second of OPTIME, which saturates (R481). (Log: 2 DESIGN CHOICE, 212 DEDUCED) -/
def State.optimeCycle (s : State) : State :=
  if s.tal.optCycles + 1 < secondCycles then { s with tal := { s.tal with optCycles := s.tal.optCycles + 1 } }
  else { s with tal := { s.tal with optCycles := 0 } }.put R.TAL_OPTIME.OPTIME (min (s.get R.TAL_OPTIME.OPTIME + 1) (2 ^ 32 - 1))

/-- One cycle without a command. Before the tick clock runs nothing happens by itself (R64). (Log: 2 DESIGN CHOICE, 88 DESIGN CHOICE) -/
def State.idle (s : State) : State :=
  if s.tim.running then (s.timeCycle.optimeCycle.drainAnswer.outOne .up |>.outOne .cas).serveRead.srEnter.extractsLand.each (List.range 4) (fun b t => t.fsbDue b) else s

end Sys2Proof.Machine
end

