-- ==== Sys2Proof/Machine/Step.lean ====
section
/-! DEFINITION. The step of the block: the command at the front of the queue, or an idle cycle. -/

namespace Sys2Proof.Machine

/-- One step: the first waiting command takes its effect with the rest of the queue waiting; with none, an idle cycle. (Log: 1 DESIGN CHOICE, 13 DESIGN CHOICE) -/
def step (s : State) : Host.Outcome State Fault Refusal :=
  match s.pending with
  | [] => .next s.idle
  | c :: rest => exec c { s with pending := rest }

/-- The state with the command that a word of the opcode table spells put at the front of the queue. No row of the table gives bits, so
no word spells one. (Log: 1 DESIGN CHOICE, 3 DEDUCED) -/
def State.withFetchWord (s : State) (_nbits _w : Nat) : State := s

end Sys2Proof.Machine
end

