-- ==== Sys2Proof/Machine/Pins.lean ====
section
/-! DEFINITION. The output balls (R69): their states as the rail groups, the start-up stage, the run and the units' own state make them. -/

namespace Sys2Proof.Machine

/-- The level of a digital output ball; `pulled` is the internal pull-up of QSPI_CS_N, `frame` an output that a bus frame drives. -/
inductive Ball where
  | unpowered | low | high | highZ | pulled | frame
  deriving DecidableEq, Repr

/-- What a TX ball carries (R320); on a 32-path part half of them are not bonded (R46). -/
inductive TxBall where
  | unbonded | unpowered | quiet | plays
  deriving DecidableEq, Repr

/-- Every rail of a sequencing group is good (R57). -/
def State.groupGood (s : State) (g : Nat) : Bool := (railGroup s.part g).all (bit (s.get R.PWR_STATUS.RAIL_GOOD))

/-- TX ball of a path: unpowered until group 5, then in the quiet state except while a run plays (R69, R320). -/
def State.txBall (s : State) (n : Nat) : TxBall :=
  if s.part.paths ≤ n then .unbonded
  else if !s.groupGood 5 then .unpowered else if s.flag (R.CNV_PATHSTAT_n.TX_QUIET n) then .quiet else .plays

/-- Phase of a path's transmit NCO at its ball, in 1/491,520 of a turn, at a tick: it follows the frequency in force from tick 0 of the
subframe on (R316, R319). -/
def State.txPhase (s : State) (n a : Nat) : Nat := s.get (R.CNV_TXNCO_n.FC n) * (s.cyclePos a % subTicks) % 491520

/-- BG or BA ball: none until group 6; its code and range, or the safe ones while it holds its safe voltage, in a range change or while a
reset takes it to code 0 (R69, R331). -/
def State.biasBall (s : State) (o : Nat) : Option (Nat × Nat) :=
  if !s.groupGood 6 then none
  else match s.cnv.toZero.find? (fun x => x.1 == o) with
    | some x => some x.2
    | none => some (if s.flag (bSafe o) then (envSafeCode s.envelope o, envSafeRange s.envelope o) else (s.get (bCode o), s.get (bRange o)))

/-- FEM lines of a path: none until group 1, then the three levels (R69, R346). -/
def State.femBalls (s : State) (n : Nat) : Option Nat := if s.groupGood 1 then some (s.get (R.RFE_PATH_n.LINES n)) else none

/-- FSBk_DAT: outside a run at high impedance between frames, during one as FSB_IDLE says (R69, R352, R353). -/
def State.fsbDat (s : State) (k : Nat) : Ball :=
  if !s.groupGood 1 then .unpowered
  else if (s.fsbBus k).run ≠ [] then .frame
  else if s.running && bit (leAt (s.sect 9) (324 + k) 1) 0 then .low
  else .highZ

/-- The tine bus of a chain: low between frames (R69). -/
def State.tineBall (s : State) (k : Nat) : Ball :=
  if !s.groupGood 1 then .unpowered else if (s.tineChain k).onBus ≠ [] then .frame else .low

/-- A lane transmitter: unpowered until group 3, in electrical idle while OFF or SLEEP (R69, R152). -/
def State.laneBall (s : State) (n : Nat) : Ball :=
  if !s.groupGood 3 then .unpowered else if s.txState n = 0 ∨ s.txState n = 5 then .highZ else .frame

/-- PPS_OUT (R69, R106). -/
def State.ppsBall (s : State) : Ball := if !s.groupGood 1 then .unpowered else if s.tim.ppsOut then .high else .low

/-- FCTL_SCL and FCTL_SDA: released outside a frame (R69, R97). -/
def State.fctlBall (s : State) : Ball := if s.groupGood 1 && s.tim.fctl.isSome then .frame else .highZ

/-- SB_MISO: at high impedance while SB_CS_N is high, as it is between commands; the bits of an answer while it is low (R49, R69, R74). -/
def State.sbMisoBall (s : State) (selected : Bool) : Ball := if s.groupGood 1 && selected then .frame else .highZ

/-- TDO: at high impedance while the test access port is idle, as it is between commands; what it shifts out while not (R49, R449). -/
def State.tdoBall (s : State) (shifting : Bool) : Ball := if s.groupGood 1 && shifting then .frame else .highZ

/-- ALERT_N (R69). -/
def State.alertBall (s : State) : Ball := if s.alertLow then .low else .highZ

/-- DDR_RESET_N: low until step 8 begins the training of the DRAM, and after power fails (R69, R55 step 4). -/
def State.ddrResetN (s : State) : Ball := if s.get R.MEM_DSTAT.STATE = 0 then .low else .high

/-- QSPI_CS_N: pulled up before step 4, then high, and low while recovery reads the flash (R69, R71). -/
def State.qspiCsN (s : State) : Ball := if s.boot.inReset then .pulled else if s.boot.recovering then .low else .high

end Sys2Proof.Machine
end

