-- ==== Sys2Proof/Safety.lean ====
section
/-! DEFINITION. What a safe run is: the sparse memories keep their one form, the queues their bounds, the part its identity, and no step
stops; and what a frame says: which fields of the register file keep what they read. -/

namespace Sys2Proof.Machine

/-- The register file, the granary, the DRAM and the loft's byte ranges are in their canonical form: keys strictly rising, no entry equal
to what an unlisted key reads as. -/
def State.canonical (s : State) : Prop :=
  sparseWf (resetWord s.part) 0 s.regs = true ∧ sparseWf (fun _ => 0) 0 s.mem.gran = true ∧ sparseWf (fun _ => 0) 0 s.mem.dram = true
    ∧ sparseWf (fun _ => none) 0 s.mem.dramNew = true ∧ sparseWf (fun _ => 0) 0 s.loft.bytes = true

/-- The queues and rings keep the bounds that the spec gives them: 1,024 answers (R178), 64 tally events (R485), 16 ring records (R494),
256 held messages (R62). -/
def State.bounded (s : State) : Prop :=
  s.answers.length ≤ 1024 ∧ s.tal.queue.length ≤ 64 ∧ s.tal.ring.length ≤ 16 ∧ s.boot.heldMsgs.length ≤ 256

/-- The memories are canonical, the queues are within their bounds, and the part is `p`: what bonding and fuses fix (R35, R38, R447). -/
structure State.Sound (p : Part) (s : State) : Prop where
  part : s.part = p
  canonical : s.canonical
  bounded : s.bounded

/-- A step goes on. -/
def State.goesOn (s : State) : Prop := ∃ t, step s = .next t

/-- A field lies within its 32-bit word. -/
def Fld.ok (f : Fld) : Bool := decide (f.lo ≤ f.hi ∧ f.hi < 32)

/-- Two fields share no bit: they lie in different words, or one lies below the other. -/
def Fld.apart (f g : Fld) : Bool := decide (f.addr ≠ g.addr ∨ f.hi < g.lo ∨ g.hi < f.lo)

/-- Outside the fields `fs`, every register field reads as before. -/
def State.regsKeep (fs : List Fld) (s t : State) : Prop := ∀ g : Fld, g.ok = true → fs.all g.apart = true → t.get g = s.get g

/-- Every register word outside the addresses `keep` reads its reset value (R500). -/
def State.resetsRegs (keep : List Nat) (s : State) : Prop := ∀ a, a ∉ keep → s.word a = resetWord s.part a

/-- The messages that wait for room in the replay stores (R160). -/
def Lnk.waiting (l : Lnk) : List (Nat × Sent) × List (Nat × Sent) := (l.up.waitq, l.cas.waitq)

/-- The link block but for the messages that wait. -/
def Lnk.settled (l : Lnk) : Lnk := { l with up := { l.up with waitq := [] }, cas := { l.cas with waitq := [] } }

/-- The components of the state beside the register file, by the name of their field; what waits to be sent (`waitq`) is one of its own. -/
inductive Comp where
  | pending | part | free | vaon | boot | tim | wire | waitq | answers | lost | txSeq
  | streams | alarms | loft | sec | tal | shf | lnk | mem | dma | cnv
  | rfe | txc | con | rxc | mon | dpd | tiles | jtag
  deriving DecidableEq, Repr

/-- A component is as it was. -/
def Comp.same (c : Comp) (s t : State) : Prop :=
  match c with
  | .pending => t.pending = s.pending
  | .part => t.part = s.part
  | .free => t.free = s.free
  | .vaon => t.vaon = s.vaon
  | .boot => t.boot = s.boot
  | .tim => t.tim = s.tim
  | .wire => t.wire = s.wire
  | .waitq => t.lnk.waiting = s.lnk.waiting
  | .answers => t.answers = s.answers
  | .lost => t.lost = s.lost
  | .txSeq => t.txSeq = s.txSeq
  | .streams => t.streams = s.streams
  | .alarms => t.alarms = s.alarms
  | .loft => t.loft = s.loft
  | .sec => t.sec = s.sec
  | .tal => t.tal = s.tal
  | .shf => t.shf = s.shf
  | .lnk => t.lnk.settled = s.lnk.settled
  | .mem => t.mem = s.mem
  | .dma => t.dma = s.dma
  | .cnv => t.cnv = s.cnv
  | .rfe => t.rfe = s.rfe
  | .txc => t.txc = s.txc
  | .con => t.con = s.con
  | .rxc => t.rxc = s.rxc
  | .mon => t.mon = s.mon
  | .dpd => t.dpd = s.dpd
  | .tiles => t.tiles = s.tiles
  | .jtag => t.jtag = s.jtag

/-- The frame of a change from `s` to `t`: only the components `cs` and the register fields `fs` may differ. -/
structure State.frame (cs : List Comp) (fs : List Fld) (s t : State) : Prop where
  comps : ∀ c : Comp, c ∉ cs → c.same s t
  regs : s.regsKeep fs t

/-- A statistic counter has taken `n` increments, or stands at its largest value (R520). -/
def State.counted (c : Fld) (n : Nat) (s t : State) : Prop := t.get c = min (s.get c + n) (2 ^ c.width - 1)

/-- A message passes checks 1 to 6 of R172 and is for this device alone (R207); no hunt for a header is open on its port (R173). -/
structure State.admits (s : State) (plane typ : Nat) (m : Msg) : Prop where
  head : s.rxHead plane typ m = none
  found : (s.port m.port).hunting = false ∧ (s.port m.port).rest = []
  here : s.route plane typ m = .consume
  single : m.dest ≠ 0x0F
  crc : crc32c m.body = m.crc
  once : (s.seqs m plane).contains m.seq.toNat = false

/-- The parameters of a CRITICAL command (R203). -/
def Crit.params (m : Crit) (cmd : Nat) (disc : List Byte) (plen : Nat) : List Byte := ((m.msg cmd disc).body.drop 16).take plen

/-- A CRITICAL command reaches its own conditions: it passes R172, its tag is right and its counter is above LAST (R203, R462, R463), no
firmware restart holds it (R62), and the loft takes the new LAST. -/
structure State.grants (s : State) (m : Crit) (cmd : Nat) (disc : List Byte) (plen : Nat) : Prop where
  free : s.boot.restarting = false
  admits : s.admits 1 6 (m.msg cmd disc)
  params : m.plen.toNat = plen
  resv : m.resv = 0
  len : (m.msg cmd disc).lenIs (32 + plen) = none
  tag : s.commandTag (m.msg cmd disc).body plen = ((m.msg cmd disc).body.drop (16 + plen)).take 16
  counter : ctrRefusal s.loft.lastCtr m.ctr.toNat cmd = none
  last : m.lastFails = false

/-- An answer of R177 has joined the answers that wait, where they have room (R178). -/
def State.queues (s : State) (a : Asker) (typ reason off detail : Nat) (t : State) : Prop :=
  s.answers.length < 1024 →
    t.answers = s.answers ++ [⟨a.port, 1, typ, 1, false, false, 0, a.src, 0, 0, 0, answerBody a reason off detail, 0, false⟩]

/-- The answer that an accepted message asks for: an ACK with a DETAIL, or nothing (R178). -/
def State.acks (s : State) (plane typ : Nat) (m : Msg) (always : Bool) (detail : Nat) (t : State) : Prop :=
  if always || m.ackReq then s.queues (m.asker plane typ) 0x0E 0 noField detail t else t.answers = s.answers

/-- A tile runs with nothing open, waiting or being assembled and no stream word due, so that the next bundle issues at once; `x` is the tile
as that bundle reads it (R369, R370, R380). -/
structure State.issues (s : State) (tile : Byte) (x : Tile) : Prop where
  running : (s.tile tile.toNat).st = tiRunning
  bundle : (s.tile tile.toNat).bundle = []
  need : (s.tile tile.toNat).need = 0
  todo : (s.tile tile.toNat).todo = []
  waiting : (s.tile tile.toNat).waiting = false
  streams : ∀ q ∈ (s.tile tile.toNat).queue, q.due (s.tile tile.toNat).cyc ≤ q.moved
  reads : x = (s.tile tile.toNat).due

/-- A tile has become `y`; nothing else has changed but the components `cs` and the register fields `fs`. -/
structure State.tileIs (s : State) (cs : List Comp) (fs : List Fld) (tile : Byte) (y : Tile) (t : State) : Prop where
  becomes : t.tile tile.toNat = y
  others : ∀ k, k ≠ tile.toNat → t.tile k = s.tile k
  frame : s.frame (.tiles :: .free :: cs) fs t

/-- A granary range holds the bytes, and every byte outside it is as before. -/
structure State.granTakes (s : State) (a : Nat) (b : List Byte) (t : State) : Prop where
  bytes : t.granBytes a b.length = b
  others : ∀ k, k < a ∨ a + b.length ≤ k → sparseGet 0 t.mem.gran k = sparseGet 0 s.mem.gran k

/-- The register fields in which a lost answer is counted (R178). -/
def lostFields : List Fld := [R.LNK_CNT_NACKLOST.LOST, R.LNK_PCNTOVF.OVF]

/-- The register fields that a burst lost on a DRAM byte lane may write: its counters, that of the request completed with error, and those of
the retraining it may start (R403, R407). -/
def linkErrorFields : List Fld :=
  R.MEM_DSTAT.STATE :: R.MEM_DSTAT.RETRAIN :: R.MEM_CNT_DERR.DERR :: R.MEM_CNTOVF.OVF :: (List.range 8).flatMap (fun k => [R.MEM_CNT_DECCU_k.DECCU k, R.MEM_CNTOVF_k.OVF k])

/-- The register fields that a tally trigger writes (R484, R485, R488). -/
def tallyFields : List Fld :=
  [R.TAL_CNT_SUPPR.SUPPR, R.TAL_CNT_DROP.DROP, R.TAL_CNTOVF.OVF, R.TAL_STAT.QUEUE, R.TAL_STAT.FROZEN, R.TAL_STAT.TORN]

end Sys2Proof.Machine
end

