-- ==== Sys2Proof/Certificates/Slice0/Obligations.lean ====
section
/-! DEFINITION. The statements about the model, from the rules of the spec, for the provers. -/

open Sys2Proof Sys2Proof.Machine

/-- The block takes its commands first in, first out: a step is the execution of the command in front on the state with the rest waiting. Where it speaks of them, it takes the model's choices and readings of log entries 1, 13, 14, 88, 114. -/
def Obligations.StepTakesFrontCommand : Prop :=
  ∀ (c : Instr) (s : State), step { s with pending := c :: s.pending } = exec c s

/-- Model's choice (log entry 2): what a step does with no command waiting. Where it speaks of them, it takes the model's choices and readings of log entries 1, 2, 13, 14, 88. -/
def Obligations.IdleStepIsOneCycle : Prop :=
  ∀ s : State, s.pending = [] →
    (s.tim.running = false → step s = .next s) ∧
    (s.tim.running = true → ∃ t, step s = .next t ∧ t.tim.cycles = s.tim.cycles + 1 ∧ t.pending = [] ∧ t.part = s.part ∧ t.loft = s.loft
      ∧ (t.answers = s.answers ∨ ∃ l m r, s.answers = l ++ m :: r ∧ t.answers = l ++ r))

/-- Every step keeps `State.Sound`: the bounds of R178, R485, R494 and R62, the canonical memories, and the part. Where it speaks of them, it takes the model's choices and readings of log entries 1, 13, 14, 88. -/
def Obligations.EveryStepKeepsSound : Prop :=
  ∀ (p : Part) (s t : State), s.Sound p → step s = .next t → t.Sound p

/-- No command stops the block: every step answers a next state. Where it speaks of them, it takes the model's choices and readings of log entries 14. -/
def Obligations.EveryStepGoesOn : Prop := ∀ s : State, s.goesOn

/-- R500 on the state after reset: every register word reads its reset value, and SYS_RESETCAUSE shows POR. Where it speaks of them, it takes the model's choices and readings of log entries 8, 9, 10, 11, 62. -/
def Obligations.ResetLeavesSoundState : Prop :=
  State.reset.Sound State.reset.part ∧ State.reset.resetsRegs [R.SYS_RESETCAUSE.w.addr] ∧ State.reset.word R.SYS_RESETCAUSE.w.addr = 1
    ∧ State.reset.pending = [] ∧ State.reset.answers = [] ∧ State.reset.wire = [] ∧ State.reset.boot.inReset = true

/-- R53, R57, R58: what VIN_QUALIFIED, RAIL_GROUP_GOOD, RAIL_FAULT and RAIL_RETRY do while sequencing, and what they leave. Completes under conditions on state and operands alone: railFault, vinQualified, railGroupGood, railRetry. Where it speaks of them, it takes the model's choices and readings of log entries 10, 14, 114, 263. -/
def Obligations.RailSequencerSteps : Prop :=
  ∀ s : State,
    (∃ t, exec .vinQualified s = .next t ∧ s.frame [.vaon] [R.PWR_STATUS.VIN_OK] t ∧ t.get R.PWR_STATUS.VIN_OK = 1
      ∧ t.vaon = (if s.vaon.seq = .off ∧ s.vaon.thermalOff = false then { s.vaon with vinValid := true, seq := .group 1, attempts := 0 }
          else { s.vaon with vinValid := true })) ∧
    (∀ g, s.vaon.seq = .group g → g ≤ 6 →
      ∃ t, exec .railGroupGood s = .next t ∧ s.frame [.vaon] [R.PWR_STATUS.RAIL_GOOD, R.PWR_FAULT.ATTEMPTS] t
        ∧ (∀ k ∈ railGroup s.part g, bit (t.get R.PWR_STATUS.RAIL_GOOD) k = true)
        ∧ (if g < 6 then t.vaon = { s.vaon with seq := .group (g + 1) } ∧ t.get R.PWR_FAULT.ATTEMPTS = s.get R.PWR_FAULT.ATTEMPTS
           else t.vaon = { s.vaon with seq := .done } ∧ t.get R.PWR_FAULT.ATTEMPTS = s.vaon.attempts % 4)) ∧
    (∀ g rail, s.vaon.seq = .group g → rail ∈ railGroup s.part g →
      ∃ t, exec (.railFault rail) s = .next t ∧ s.frame [.vaon, .boot] [R.PWR_STATUS.RAIL_GOOD, R.PWR_FAULT.RAIL_FAIL] t
        ∧ t.get R.PWR_STATUS.RAIL_GOOD = 0 ∧ bit (t.get R.PWR_FAULT.RAIL_FAIL) rail = true
        ∧ (if s.vaon.attempts < 2 then t.vaon = { s.vaon with seq := .retryWait, attempts := s.vaon.attempts + 1 } ∧ t.boot = s.boot
           else t.vaon = { s.vaon with seq := .latched, attempts := s.vaon.attempts + 1 } ∧ t.boot.alerts.contains 0 = true)) ∧
    (s.vaon.seq = .retryWait → exec .railRetry s = .next { s with vaon := { s.vaon with seq := .group 1 } })

/-- R55, R58 to R60, R69, R500: the five losses of power and what each leaves. Completes under conditions on state and operands alone: railPowerLoss, uvAccepted, ovAccepted, powerOnReset, thermalTrip. Where it speaks of them, it takes the model's choices and readings of log entries 1, 10, 13, 14, 19, 20, 21, 95, 114, 219. -/
def Obligations.PowerFailClearsTheLogic : Prop :=
  ∀ (s : State) (report : MediaReport),
    let cleared (t : State) : Prop :=
      t.boot.inReset = true ∧ t.resetsRegs [R.SYS_RESETCAUSE.w.addr, R.PWR_FAULT.w.addr, R.PWR_STATUS.w.addr]
        ∧ t.get R.PWR_STATUS.RAIL_GOOD = 0 ∧ (∀ n < s.part.paths, t.txBall n = .unpowered) ∧ (∀ n, t.biasBall n = none ∧ t.femBalls n = none ∧ t.laneBall n = .unpowered)
        ∧ t.ddrResetN = .low ∧ t.qspiCsN = .pulled ∧ t.tal.queue = [] ∧ t.answers = [] ∧ t.shf.applied = none
        ∧ t.pending = s.pending ∧ t.part = s.part ∧ t.mem.gran = s.mem.gran ∧ t.mem.dram = [] ∧ t.mem.dramNew = []
        ∧ t.mem.dramGen = s.mem.dramGen + 1
    let failed (f : Fld) (t : State) : Prop :=
      cleared t ∧ t.get f = 1 ∧ t.vaon.coldPending = true ∧ t.vaon.attempts = 0
        ∧ (∀ g : Fld, g.ok = true → (g.addr = R.SYS_RESETCAUSE.w.addr ∨ g.addr = R.PWR_FAULT.w.addr) → g.apart f = true → t.get g = s.get g)
        ∧ t.boot.alerts.contains 0 = s.boot.alerts.contains 0
    (∃ t, exec (.uvAccepted report) s = .next t ∧ failed R.SYS_RESETCAUSE.BROWNOUT t ∧ t.get R.PWR_STATUS.VIN_OK = 0 ∧ t.vaon.vinValid = false) ∧
    (∃ t, exec (.ovAccepted report) s = .next t ∧ failed R.SYS_RESETCAUSE.OVERVOLT t ∧ t.vaon.vinValid = false) ∧
    (s.vaon.seq = .done → ∃ t, exec (.railPowerLoss report) s = .next t ∧ failed R.SYS_RESETCAUSE.RAILFAULT t ∧ t.vaon.seq = .off) ∧
    (∀ within : Bool,
      ∃ t, exec (.thermalTrip within report) s = .next t ∧ failed R.SYS_RESETCAUSE.THERMAL t
        ∧ (if s.vaon.seq = .latched then t.vaon.seq = .latched ∧ t.vaon.thermalOff = s.vaon.thermalOff
           else if within = true ∧ s.vaon.thermalRestart = true then t.vaon.seq = .latched ∧ t.vaon.thermalOff = s.vaon.thermalOff
           else t.vaon.seq = .off ∧ t.vaon.thermalOff = true)) ∧
    (∀ lost : Bool, ∃ t, exec (.powerOnReset lost) s = .next t ∧ cleared t ∧ t.get R.SYS_RESETCAUSE.POR = 1 ∧ t.get R.PWR_STATUS.VIN_OK = 0
      ∧ t.loft = s.loft ∧ t.vaon.seq = .off ∧ t.vaon.coldPending = true ∧ t.vaon.thermalOff = false)

/-- R42, R60, R61, R63, R69, R74, R500: the three warm resets and what each leaves. Completes under conditions on state and operands alone: resetNAssert, softReset, sbReset. Where it speaks of them, it takes the model's choices and readings of log entries 1, 7, 10, 13, 14, 19, 24, 114, 228, 229. -/
def Obligations.WarmResetsClearTheLogic : Prop :=
  ∀ s : State, s.boot.inReset = false →
    let warm (f : Fld) (t : State) : Prop :=
      t.boot.inReset = true ∧ t.resetsRegs [R.SYS_RESETCAUSE.w.addr, R.PWR_FAULT.w.addr] ∧ t.get f = 1
        ∧ (∀ g : Fld, g.ok = true → (g.addr = R.SYS_RESETCAUSE.w.addr ∨ g.addr = R.PWR_FAULT.w.addr) → g.apart f = true → t.get g = s.get g)
        ∧ t.vaon.recordPending = true ∧ t.vaon.seq = s.vaon.seq ∧ t.loft = s.loft ∧ t.mem.gran = s.mem.gran ∧ t.mem.dram = []
        ∧ t.mem.dramNew = [] ∧ t.mem.dramGen = s.mem.dramGen + 1 ∧ t.pending = s.pending ∧ t.part = s.part ∧ t.answers = [] ∧ t.shf.applied = none
        ∧ (∀ n < s.part.paths, t.txBall n = .quiet) ∧ (∀ n < 24, t.laneBall n = .highZ) ∧ (∀ k, t.fsbDat k = .highZ ∧ t.tineBall k = .low)
        ∧ t.ppsBall = .low ∧ t.fctlBall = .highZ ∧ t.ddrResetN = .low ∧ t.qspiCsN = .pulled
    (∀ held : Nat, 1300 ≤ held → ∃ t, exec (.resetNAssert held) s = .next t ∧ warm R.SYS_RESETCAUSE.PIN t ∧ t.vaon.resetN = false) ∧
    (∀ held : Nat, held < 700 → exec (.resetNAssert held) s = .next s.fresh) ∧
    (s.run = runEmpty ∨ s.run = runReady ∨ s.run = runFaulted →
      ∃ t, exec (.softReset 0xA5) s = .next t ∧ warm R.SYS_RESETCAUSE.SOFT t) ∧
    (∀ key : Byte, (key ≠ 0xA5 ∨ s.run = runApplying ∨ s.run = runStarting ∨ s.run = runRunning ∨ s.run = runStopping) →
      ∃ t, exec (.softReset key) s = .next t ∧ s.frame [] [R.SYS_RESETCTL.REFUSED] t ∧ t.get R.SYS_RESETCTL.REFUSED = 1) ∧
    (∃ t, exec (.sbReset 0x5A 0xA5) s = .next t ∧ warm R.SYS_RESETCAUSE.SIDEBAND t)

/-- R42, R54, R59, R62, R64, R391, R481: how the block comes out of reset and of a firmware restart. Completes under conditions on state and operands alone: resetRelease, thermalRestart, watchdog, firmwareRestartDone. Where it speaks of them, it takes the model's choices and readings of log entries 7, 10, 14, 22, 114, 190, 191, 202, 206, 207, 209, 215, 217, 228. -/
def Obligations.ResetReleaseAndRestarts : Prop :=
  ∀ s : State,
    (∀ (sbLow : Bool) (held : Nat), 1300 ≤ held → s.boot.inReset = true → s.vaon.seq = .done →
      ∃ t pcc, exec (.resetRelease sbLow held) s = .next t ∧ pcc = (if s.vaon.coldPending then min (s.loft.pcc + 1) (2 ^ 32 - 1) else s.loft.pcc)
        ∧ t.boot.inReset = false ∧ t.vaon.resetN = true ∧ t.vaon.coldPending = false ∧ t.vaon.recordPending = false
        ∧ t.loft = { s.loft with pcc := pcc } ∧ t.get R.TAL_PCC.PCC = pcc % 2 ^ 32 ∧ t.get R.SYS_BOOTSTAT.STAGE = 1
        ∧ s.frame [.free, .boot, .vaon, .loft, .tal, .wire, .waitq, .txSeq, .alarms] (tallyFields ++ [R.TAL_PCC.PCC, R.TAL_OPTIME.OPTIME, R.SEC_SIGIDX.NEXT, R.SYS_BOOTSTAT.STAGE]) t) ∧
    (s.vaon.thermalOff = true → exec .thermalRestart s
        = .next { s with vaon := { s.vaon with thermalOff := false, thermalRestart := true, seq := if s.vaon.vinValid then .group 1 else .off, attempts := 0 } }) ∧
    (s.boot.inReset = false → s.boot.image ≠ none →
      ∃ t, exec .watchdog s = .next t ∧ s.frame [.boot, .tal] (R.SYS_RESETCAUSE.WDOG :: tallyFields) t ∧ t.get R.SYS_RESETCAUSE.WDOG = 1
        ∧ t.boot = { s.boot with restarting := true }) ∧
    (s.boot.restarting = true →
      ∃ t, exec .firmwareRestartDone s = .next t ∧ t.pending = s.boot.heldMsgs ++ s.pending ∧ t.boot.restarting = false ∧ t.boot.heldMsgs = []
        ∧ (∀ b, b = s.slotBytes s.loft.bootA.active → s.imageFail b 1 (imgLen b) = none → s.granTakes recoveryBase (b.take 0x100000) t)
        ∧ s.frame [.boot, .pending, .mem] [R.SYS_BOOTSTAT.SLOT, R.SYS_BOOTSTAT.TRIAL, R.SEC_FWVER.VERSION] t)

/-- R64, R66, R67, R70, R71, R73, R74, R391, R397, R459. Completes under conditions on state and operands alone: refclkPresent, recoveryImageLoaded, loftChecksDone, sbLoad, sbBoot, refclkLate, slotVerifyDone, sbStatus. Where it speaks of them, it takes the model's choices and readings of log entries 1, 10, 12, 13, 14, 17, 18, 22, 23, 62, 114, 138, 190, 191, 195, 206, 207, 210, 211, 215, 217, 223, 230, 231, 232, 233, 260. -/
def Obligations.BootSlotsAndRecovery : Prop :=
  ∀ s : State,
    (∀ (ms : Nat) (badA : Bool) w, s.get R.SYS_BOOTSTAT.STAGE = 1 → s.boot.sbRecovery = false → w = (if badA then s.loft.bootB else s.loft.bootA) →
      ∃ t, exec (.refclkPresent ms badA) s = .next t ∧ t.tim.running = true ∧ t.boot.refclkMs = ms ∧ t.get R.SYS_BOOTSTAT.STAGE = 2
        ∧ t.boot.attempt = (match w.pending with
            | some p => [(p, true), (w.active, false)]
            | none => [(w.active, false), (!w.active, false)])
        ∧ t.loft = { s.loft with bootA := { w with pending := none }, bootB := { w with pending := none } }
        ∧ t.boot.alerts.contains 1 = false) ∧
    (∀ (ms : Nat) (badA : Bool), s.get R.SYS_BOOTSTAT.STAGE = 1 → s.boot.sbRecovery = true →
      ∃ t, exec (.refclkPresent ms badA) s = .next t ∧ t.tim.running = true ∧ t.boot.refclkMs = ms ∧ t.get R.SYS_BOOTSTAT.STAGE = 7 ∧ t.boot.alerts.contains 4 = true
        ∧ t.loft = s.loft) ∧
    (s.get R.SYS_BOOTSTAT.STAGE = 1 →
      ∃ t, exec .refclkLate s = .next t ∧ s.frame [.boot] [R.SYS_BOOTSTAT.REFCLK_LATE] t ∧ t.get R.SYS_BOOTSTAT.REFCLK_LATE = 1
        ∧ t.boot.alerts.contains 1 = true) ∧
    (∀ slot trial rest corrected bad, s.get R.SYS_BOOTSTAT.STAGE = 2 → s.boot.attempt = (slot, trial) :: rest →
      ∃ t, exec (.slotVerifyDone corrected bad) s = .next t ∧ s.counted R.MEM_CNT_LECCC.LECCC corrected t ∧
        (match if bad then some rcInternal else s.imageFail (s.slotBytes slot) 1 (imgLen (s.slotBytes slot)) with
         | none => t.boot.attempt = [] ∧ t.boot.image = some (imageOf (s.slotBytes slot)) ∧ t.get R.SYS_BOOTSTAT.STAGE = 3
             ∧ t.get R.SYS_BOOTSTAT.SLOT = (if slot then 1 else 0) ∧ t.flag R.SYS_BOOTSTAT.TRIAL = trial
             ∧ s.granTakes recoveryBase ((s.slotBytes slot).take 0x100000) t
             ∧ s.frame [.boot, .mem] [R.SYS_BOOTSTAT.STAGE, R.SYS_BOOTSTAT.SLOT, R.SYS_BOOTSTAT.TRIAL, R.SEC_FWVER.VERSION, R.MEM_CNT_LECCC.LECCC,
                 R.MEM_CNTOVF.OVF] t
         | some _ => t.boot = { s.boot with attempt := rest, recovering := rest.isEmpty }
             ∧ t.get (if slot then R.SYS_BOOTSTAT.SLOT_B_BAD else R.SYS_BOOTSTAT.SLOT_A_BAD) = 1
             ∧ s.frame [.boot, .tal] ([R.SYS_BOOTSTAT.SLOT_A_BAD, R.SYS_BOOTSTAT.SLOT_B_BAD, R.MEM_CNT_LECCC.LECCC, R.MEM_CNTOVF.OVF] ++ tallyFields) t)) ∧
    (∀ image, s.boot.recovering = true →
      ∃ t, exec (.recoveryImageLoaded image) s = .next t ∧ t.boot.recovering = false ∧ t.loft = s.loft
        ∧ (if s.imageFail (image.take 0x100000) 1 (imgLen (image.take 0x100000)) = none
           then t.boot.image = some (imageOf (image.take 0x100000)) ∧ t.get R.SYS_BOOTSTAT.SLOT = 2 ∧ t.get R.SYS_BOOTSTAT.STAGE = 8
             ∧ t.boot.alerts.contains 4 = false
           else t.get R.SYS_BOOTSTAT.STAGE = 7 ∧ t.boot.alerts.contains 4 = true)) ∧
    (∀ (length : BitVec 32) (b : List Byte), s.get R.SYS_BOOTSTAT.STAGE = 7 → b = s.granBytes recoveryBase (min length.toNat 0x100000) →
      s.granPoisoned recoveryBase b.length = false → s.imageFail b 1 length.toNat = none →
      ∃ t, exec (.sbBoot length) s = .next t ∧ t.boot.image = some (imageOf b) ∧ t.get R.SYS_BOOTSTAT.SLOT = 3 ∧ t.get R.SYS_BOOTSTAT.STAGE = 8
        ∧ t.boot.alerts.contains 4 = false
        ∧ s.frame [.boot] [R.SYS_BOOTSTAT.STAGE, R.SYS_BOOTSTAT.SLOT, R.SYS_BOOTSTAT.TRIAL, R.SEC_FWVER.VERSION] t) ∧
    (∀ (badA badB : Bool) (corrected : Nat) (badCopies : List Nat), (s.get R.SYS_BOOTSTAT.STAGE = 3 ∨ s.get R.SYS_BOOTSTAT.STAGE = 8) →
      ∃ t, exec (.loftChecksDone badA badB corrected badCopies) s = .next t ∧ s.counted R.MEM_CNT_LECCC.LECCC corrected t ∧ t.get R.SYS_BOOTSTAT.STAGE = 4 ∧ t.get R.MEM_DSTAT.STATE = 1
        ∧ t.loft.lockA.good = (!badA && s.loft.lockA.valid) ∧ t.loft.lockB.good = (!badB && s.loft.lockB.valid)) ∧
    (∀ (offset : BitVec 24) (data : List Byte), s.get R.SYS_BOOTSTAT.STAGE = 7 → offset.toNat % 256 = 0 → offset.toNat < 0x100000 → data.length = 256 →
      ∃ t, exec (.sbLoad offset data) s = .next t ∧ t = { s with mem := { s.mem with gran := t.mem.gran } }
        ∧ t.granBytes (recoveryBase + offset.toNat) 256 = data
        ∧ (∀ a, (a < recoveryBase + offset.toNat ∨ recoveryBase + offset.toNat + 256 ≤ a) → sparseGet 0 t.mem.gran a = sparseGet 0 s.mem.gran a)) ∧
    (∃ t, exec .sbStatus s = .next t ∧ t = { s with boot := { s.boot with sbOut := t.boot.sbOut } }
      ∧ t.boot.sbOut = leBytes 4 (s.word R.SYS_BOOTSTAT.w.addr).toNat ++ leBytes 4 (s.word R.SYS_RESETCAUSE.w.addr).toNat)

/-- R449: BYPASS, SAMPLE/PRELOAD and EXTEST act on the test access port alone. Completes under conditions on state and operands alone: jtagBypass, jtagSamplePreload, jtagExtest. Where it speaks of them, it takes the model's choices and readings of log entries 14, 114, 218. -/
def Obligations.JtagInstructions : Prop :=
  ∀ (s : State) (pins tdi : List Bool),
    (∃ t, exec (.jtagBypass tdi) s = .next t ∧ t = { s with jtag := t.jtag } ∧ t.jtag.tdo = (false :: tdi).take tdi.length ∧ t.jtag.driven = []
      ∧ t.jtag.cells = s.jtag.cells) ∧
    (∃ t, exec (.jtagSamplePreload pins tdi) s = .next t ∧ t = { s with jtag := t.jtag } ∧ t.jtag.tdo = (pins ++ tdi).take tdi.length
      ∧ t.jtag.cells = (pins ++ tdi).drop tdi.length ∧ t.jtag.driven = []) ∧
    (tdi ≠ [] → ∃ t, exec (.jtagExtest pins tdi) s = .next t ∧ t = { s with jtag := t.jtag } ∧ t.jtag.tdo = (pins ++ tdi).take tdi.length
      ∧ t.jtag.cells = (pins ++ tdi).drop tdi.length ∧ t.jtag.driven = t.jtag.cells) ∧
    (∃ t, exec (.jtagExtest pins []) s = .next t ∧ t = { s with jtag := t.jtag } ∧ t.jtag.driven = s.jtag.cells ∧ t.jtag.cells = s.jtag.cells)

/-- R397, R488 to R490. Completes under conditions on state and operands alone: tallySeek, tallyWindowRead, tallyOpen, tallyRead, tallyClose, tallySessionTimeout. Where it speaks of them, it takes the model's choices and readings of log entries 10, 14, 62, 114, 211, 260. -/
def Obligations.TallySessionAndReading : Prop :=
  ∀ s : State,
    (s.boot.inReset = false → ∃ t, exec .tallyOpen s = .next t ∧ s.frame [.tal, .boot] [R.TAL_STAT.QUEUE, R.TAL_STAT.FROZEN, R.TAL_STAT.TORN] t
      ∧ t.get R.TAL_STAT.FROZEN = (if s.tal.queue.length < 48 then 1 else 0) ∧ (48 ≤ s.tal.queue.length → t.get R.TAL_STAT.TORN = 1)
      ∧ t.tal = { s.tal with session := true, cursor := (0, s.get R.TAL_HEAD.SLOT), cmdAt := s.tim.cycles }
      ∧ t.boot.sbOut = leBytes 4 (t.word R.TAL_STAT.w.addr).toNat ++ leBytes 4 (s.word R.TAL_HEADSEQ.w.addr).toNat) ∧
    (∀ (corrected : Nat) (bad : Bool), s.boot.inReset = false → s.tal.session = true → s.get R.TAL_STAT.STATE ≠ 0 →
      ∃ t, exec (.tallyRead corrected bad) s = .next t ∧ s.counted R.MEM_CNT_LECCC.LECCC corrected t
        ∧ s.frame [.tal, .boot] [R.MEM_CNT_LECCC.LECCC, R.MEM_CNTOVF.OVF] t ∧ t.boot.sbOut = s.slotRead64 s.tal.cursor.1 s.tal.cursor.2 bad
        ∧ t.tal = { s.tal with cursor := (s.tal.cursor.1, (s.tal.cursor.2 + s.srcSize s.tal.cursor.1 - 1) % s.srcSize s.tal.cursor.1), cmdAt := s.tim.cycles }) ∧
    (∀ (corrected : Nat) (bad : Bool), s.boot.inReset = false → (s.tal.session = false ∨ s.get R.TAL_STAT.STATE = 0) →
      exec (.tallyRead corrected bad) s = .next { s with boot := { s.boot with sbOut := List.replicate 64 0 } }) ∧
    (∀ word : BitVec 16, s.tal.session = true → bits word.toNat 15 14 ≤ 2 → bits word.toNat 13 13 = 0 →
      exec (.tallySeek word) s = .next { s with tal := { s.tal with cursor := (bits word.toNat 15 14, bits word.toNat 12 0), cmdAt := s.tim.cycles } }) ∧
    (∀ c ∈ [Instr.tallyClose, Instr.tallySessionTimeout], s.tal.session = true → (c = .tallyClose ∨ s.tal.cmdAt + 491520000 ≤ s.tim.cycles) →
      ∃ t, exec c s = .next t ∧ t.tal = { s.tal with session := false } ∧ s.frame [.tal] [R.TAL_STAT.FROZEN] t
        ∧ ((s.con.xfers.any (fun x => x.read && x.region == 5)) = false → t.get R.TAL_STAT.FROZEN = 0)) ∧
    (∀ (corrected : Nat) (bad : Bool), ∃ t, exec (.tallyWindowRead corrected bad) s = .next t ∧ t = { s with regs := t.regs } ∧ s.counted R.MEM_CNT_LECCC.LECCC corrected t
      ∧ (∀ i < 16, t.word (R.TAL_WIN0.w.addr + 4 * i)
          = BitVec.ofNat 32 (leAt (s.slotRead64 (s.get R.TAL_CUR.SRC) (s.get R.TAL_CUR.SLOT) bad) (4 * i) 4))
      ∧ (∀ a, (a < R.TAL_WIN0.w.addr ∨ R.TAL_WIN0.w.addr + 64 ≤ a) → a ≠ R.MEM_CNT_LECCC.w.addr → a ≠ R.MEM_CNTOVF.w.addr → t.word a = s.word a))

/-- R397, R481, R485, R487, R491, R493 to R495. Completes under conditions on state and operands alone: tallyScanDone, tallyRecordWrite, tallyClearDone, optimePersist, mediaClear. Where it speaks of them, it takes the model's choices and readings of log entries 5, 10, 12, 14, 114, 205, 260. -/
def Obligations.TallyWritesOneEvent : Prop :=
  ∀ s : State,
    (∀ e q, s.tal.queue = e :: q → (s.get R.TAL_STAT.STATE = 1 ∨ s.get R.TAL_STAT.STATE = 2) → s.flag R.TAL_STAT.FROZEN = false →
      ∃ t, exec (.tallyRecordWrite noFailure) s = .next t ∧ t.tal.queue = q ∧ t.get R.TAL_STAT.QUEUE = q.length % 128
        ∧ t.get R.TAL_HEADSEQ.SEQ = e.seq % 2 ^ 32 ∧ t.tal.lastSeq = e.seq
        ∧ s.frame [.tal, .loft] (tallyFields ++ [R.TAL_HEAD.SLOT, R.TAL_HEADSEQ.SEQ, R.TAL_CNT_REC.REC]) t) ∧
    (∀ (mfaFail : Option Nat) (corrected : Nat) (unreadable : List Nat), s.get R.TAL_STAT.STATE = 0 → s.boot.inReset = false →
      (ctlValid ((s.blank unreadable).loftBytes 0x386000 64) = true ∨ ctlValid ((s.blank unreadable).loftBytes 0x387000 64) = true) →
      ∃ t, exec (.tallyScanDone mfaFail corrected unreadable) s = .next t ∧ s.counted R.MEM_CNT_LECCC.LECCC corrected t ∧ (t.get R.TAL_STAT.STATE = 1 ∨ t.get R.TAL_STAT.STATE = 2 ∨ t.get R.TAL_STAT.STATE = 3)
        ∧ t.loft = s.loft ∧ s.frame [.tal] [R.TAL_STAT.STATE, R.TAL_STAT.SPARES, R.TAL_STAT.MEDIA, R.TAL_HEAD.SLOT, R.TAL_HEADSEQ.SEQ,
            R.MEM_CNT_LECCC.LECCC, R.MEM_CNTOVF.OVF] t) ∧
    (∀ (mfaFail : Option Nat) (corrected : Nat) (unreadable : List Nat), s.get R.TAL_STAT.STATE = 0 → s.boot.inReset = false →
      ctlValid ((s.blank unreadable).loftBytes 0x386000 64) = false → ctlValid ((s.blank unreadable).loftBytes 0x387000 64) = false →
      ∃ t, exec (.tallyScanDone mfaFail corrected unreadable) s = .next t ∧ t.get R.TAL_STAT.STATE = 3 ∧ t.get R.TAL_STAT.MEDIA = 1) ∧
    (s.get R.TAL_STAT.STATE = 2 →
      ∃ t, exec .tallyClearDone s = .next t ∧ t.get R.TAL_STAT.STATE = 1 ∧ s.frame [.loft] [R.TAL_STAT.STATE] t) ∧
    (s.boot.inReset = false → exec .optimePersist s = .next { s with loft := { s.loft with optime := s.get R.TAL_OPTIME.OPTIME } }) ∧
    (∃ t, exec .mediaClear s = .next t ∧ s.frame [] [R.TAL_STAT.MEDIA] t ∧ t.get R.TAL_STAT.MEDIA = 0)

/-- R80, R81, R109: SYNC. Completes under conditions on state and operands alone: sync. Where it speaks of them, it takes the model's choices and readings of log entries 5, 10, 14, 26, 27, 28, 29, 44, 46, 62, 114, 220, 221, 235. -/
def Obligations.SyncOpensAnExchange : Prop :=
  ∀ (m : Msg) (ago later res : Nat) (s : State), m.ptpType = 0 → s.admits 4 1 m → s.payloadChecks m = none → m.ptpChecks = none →
    beAt m.ptp 4 1 = s.get R.TIM_CTRL.DOMAIN → m.port = .up → beAt m.body 1 1 = 0 → m.replay = false →
    ∃ t e, exec (.sync m ago later res) s = .next t
      ∧ t.tim.exch = (if s.tcfg R.TIM_CTRL.DOMAIN = s.get R.TIM_CTRL.DOMAIN then s.tim.exch else []) ++ [e]
      ∧ e.seqId = m.ptpSeq ∧ e.port = m.ptpPort ∧ e.t1 = (if m.twoStep then none else some m.ptpTime) ∧ e.c = m.ptpCorr * fine
      ∧ e.t2 = s.stamp ago ∧ e.t3 = s.stamp (-(later : Int)) ∧ e.asym = s.getInt R.TIM_ASYM_UP.ASYM ∧ e.resp = none
      ∧ t.tim.reqs = s.tim.reqs + 1 ∧ s.counted R.TIM_CNT_SYNC.SYNC 1 t ∧ e.reqId = (Config.ptpSeq + s.tim.reqs) % 65536
      ∧ (s.portUp .up = true → s.flag R.LNK_PROTO.POS_VALID = true →
          ∃ w : Sent, (t.wire = s.wire ++ [w] ∨ (t.port .up).waitq = (s.port .up).waitq ++ [(0, w)]) ∧ w.port = .up ∧ w.plane = 4 ∧ w.typ = 1
            ∧ w.dest = 0x80 ∧ w.body = { t with tim := { t.tim with reqs := s.tim.reqs } }.delayReq e.reqId)
      ∧ (∀ f : Fld, f.addr ∈ timConfig → t.tcfg f = s.get f)

/-- R81: FOLLOW_UP and DELAY_RESP. Completes under conditions on state and operands alone: followUp, delayResp. Where it speaks of them, it takes the model's choices and readings of log entries 10, 14, 26, 27, 28, 30, 62, 114, 235. -/
def Obligations.FollowUpAndDelayRespCompleteAnExchange : Prop :=
  ∀ (m : Msg) (s : State) (e : Exchange), s.admits 4 1 m → s.payloadChecks m = none → m.ptpChecks = none → beAt m.ptp 4 1 = s.tcfg R.TIM_CTRL.DOMAIN →
    m.port = .up → beAt m.body 1 1 = 0 →
    let delay (t1 t4 cr c : Int) : Int := (e.t2 - t1 - c + (t4 - e.t3 - cr)) / 2
    (m.ptpType = 8 → s.tim.exch.find? (fun x => x.seqId == m.ptpSeq && x.port == m.ptpPort && x.t1.isNone) = some e → e.resp = none →
      ∃ t, exec (.followUp m) s = .next t
        ∧ t.tim.exch = s.tim.exch.map (fun x => if x = e then { e with t1 := some m.ptpTime, c := e.c + m.ptpCorr * fine } else x)) ∧
    (∀ t4 cr, m.ptpType = 8 → s.tim.exch.find? (fun x => x.seqId == m.ptpSeq && x.port == m.ptpPort && x.t1.isNone) = some e →
      e.resp = some (t4, cr) → s.tcfg R.TIM_CTRL.SERVO_EN = 0 → s.get R.TIM_STATUS.STATE ≠ timLocked → s.get R.TIM_STATUS.STATE ≠ timRemeasure →
      ∃ t, exec (.followUp m) s = .next t ∧ t.tim.exch = s.tim.exch.filter (fun x => decide (x ≠ e))
        ∧ t.tim.mpdHist = (delay m.ptpTime t4 cr (e.c + m.ptpCorr * fine) :: s.tim.mpdHist).take 16) ∧
    (m.ptpType = 9 → s.tim.exch.find? (fun x => x.reqId == m.ptpSeq && x.resp.isNone && decide ((m.ptp.drop 44).take 10 = ptpSelf)) = some e →
      e.t1 = none →
      ∃ t, exec (.delayResp m) s = .next t
        ∧ t.tim.exch = s.tim.exch.map (fun x => if x = e then { e with resp := some (m.ptpTime, m.ptpCorr * fine) } else x)) ∧
    (∀ t1, m.ptpType = 9 → s.tim.exch.find? (fun x => x.reqId == m.ptpSeq && x.resp.isNone && decide ((m.ptp.drop 44).take 10 = ptpSelf)) = some e →
      e.t1 = some t1 → s.tcfg R.TIM_CTRL.SERVO_EN = 0 → s.get R.TIM_STATUS.STATE ≠ timLocked → s.get R.TIM_STATUS.STATE ≠ timRemeasure →
      ∃ t, exec (.delayResp m) s = .next t ∧ t.tim.exch = s.tim.exch.filter (fun x => decide (x ≠ e))
        ∧ t.tim.mpdHist = (delay t1 m.ptpTime (m.ptpCorr * fine) e.c :: s.tim.mpdHist).take 16)

/-- R76, R77, R81, R85, R88, R89, R91. Completes under conditions on state and operands alone: announce, ptpMessageDiscarded, exchangeTimeout, syncTimeout, announceTimeout, holdoverLimit, servoDisable. Where it speaks of them, it takes the model's choices and readings of log entries 4, 10, 14, 27, 28, 33, 43, 62, 67, 114, 235, 236, 238, 264. -/
def Obligations.ServoLosesItsMaster : Prop :=
  ∀ s : State,
    (∀ m : Msg, m.ptpType = 11 → s.admits 4 1 m → s.payloadChecks m = none → m.ptpChecks = none → beAt m.ptp 4 1 = s.tcfg R.TIM_CTRL.DOMAIN → m.port = .up →
      beAt m.body 1 1 = 0 →
      ∃ t, exec (.announce m) s = .next t
        ∧ (s.tim.gm = none ∨ s.tim.gm = some ((m.ptp.drop 53).take 8) ∨ s.servoLive = false →
            t.tim = { s.tim with gm := some ((m.ptp.drop 53).take 8), annLog := some (signed 8 (beAt m.ptp 33 1)) })
        ∧ (∀ g, s.tim.gm = some g → g ≠ (m.ptp.drop 53).take 8 → s.servoLive = true →
            t.get R.TIM_STATUS.STATE = timHoldover ∧ t.get R.TIM_STATUS.LOCK = 0 ∧ t.tim.gm = some ((m.ptp.drop 53).take 8))) ∧
    (∀ c, (c = .syncTimeout ∨ (c = .announceTimeout ∧ s.tim.annLog.isSome = true)) → s.servoLive = true →
      ∃ t, exec c s = .next t ∧ t.get R.TIM_STATUS.STATE = timHoldover ∧ t.get R.TIM_STATUS.LOCK = 0
        ∧ s.frame [.tim, .free] [R.TIM_STATUS.STATE, R.TIM_STATUS.LOCK, R.TIM_FREQ.Y] t ∧ t.tim.now = s.tim.now) ∧
    (s.get R.TIM_STATUS.STATE = timHoldover → s.tcfg R.TIM_HOLDOVER.LIMIT ≠ 0 →
      ∃ t, exec .holdoverLimit s = .next t ∧ t.get R.TIM_STATUS.HOLD_EXPIRED = 1
        ∧ s.frame [.tal, .wire, .waitq, .txSeq, .alarms] (R.TIM_STATUS.HOLD_EXPIRED :: tallyFields) t) ∧
    (∃ t, exec .servoDisable s = .next t ∧ t.get R.TIM_CTRL.SERVO_EN = 0 ∧ t.tcfg R.TIM_CTRL.SERVO_EN = 0
      ∧ t.get R.TIM_STATUS.STATE = timFreerun ∧ t.get R.TIM_STATUS.LOCK = 0 ∧ t.tim.ppsReady = false ∧ t.tim.now = s.tim.now
      ∧ s.frame [.tim] [R.TIM_CTRL.SERVO_EN, R.TIM_STATUS.STATE, R.TIM_STATUS.LOCK] t) ∧
    (∀ e r, s.tim.exch = e :: r →
      ∃ t, exec .exchangeTimeout s = .next t ∧ t.tim = { s.tim with exch := r } ∧ s.counted R.TIM_CNT_DISC.DISC 1 t
        ∧ s.frame [.tim] [R.TIM_CNT_DISC.DISC, R.TIM_CNTOVF.OVF] t) ∧
    (∀ m : Msg, m.ptpType ∉ [0, 8, 9, 11] → s.admits 4 1 m → s.payloadChecks m = none →
      (m.ptpType = 1 → m.ptpChecks = none ∧ beAt m.ptp 4 1 = s.tcfg R.TIM_CTRL.DOMAIN) →
      ∃ t, exec (.ptpMessageDiscarded m) s = .next t ∧ s.counted R.TIM_CNT_DISC.DISC 1 t ∧ t.tim = s.tim)

/-- R98, R99: FCTL_FRAME_DONE. Completes under conditions on state and operands alone: fctlFrameDone. Where it speaks of them, it takes the model's choices and readings of log entries 10, 14, 41, 43, 67, 114, 238. -/
def Obligations.FctlFrames : Prop :=
  ∀ (nak : Bool) (s : State), s.tim.fctl.isSome = true →
    ∃ t, exec (.fctlFrameDone nak) s = .next t ∧ t.tim.fctl = s.tim.fctlNext ∧ t.tim.fctlNext = none
      ∧ t.tim.fctlNaks = (if nak then s.tim.fctlNaks + 1 else 0)
      ∧ (nak = true → s.counted R.TIM_CNT_FCTLNAK.NAK 1 t)
      ∧ (nak = true → s.tim.fctlNaks = 7 → t.get R.TIM_STATUS.FCTL_FAULT = 1)
      ∧ (s.tim.fctlNext = none → t.tim.fctlOut = s.tim.fctlOut)
      ∧ s.frame [.tim, .wire, .waitq, .txSeq, .alarms] [R.TIM_CNT_FCTLNAK.NAK, R.TIM_CNTOVF.OVF, R.TIM_STATUS.FCTL_FAULT] t

/-- R13, R42 to R44, R106 to R109. Completes under conditions on state and operands alone: ppsInEdge, fsyncEdge, timingInputGlitch, ppsOutRise, ppsOutFall, timeRead. Where it speaks of them, it takes the model's choices and readings of log entries 4, 7, 10, 14, 26, 31, 33, 38, 43, 62, 67, 114, 222, 238. -/
def Obligations.TimingPins : Prop :=
  ∀ s : State,
    (s.wholeSecond = true → s.tim.ppsReady = true → s.tim.ppsOut = false → (∀ c, s.tim.ppsRise = some c → c + hundredMs ≤ s.tim.cycles) →
      (∀ c, s.tim.ppsEnd = some c → c + subTicks ≤ s.tim.cycles) →
      exec .ppsOutRise s = .next { s with tim := { s.tim with ppsOut := true, ppsRise := some s.tim.cycles } }) ∧
    (s.tim.ppsOut = true → s.tim.ppsRise.getD 0 + s.tcfg R.TIM_PPSCFG.WIDTH * subTicks ≤ s.tim.cycles → exec .ppsOutFall s = .next { s with tim := { s.tim with ppsOut := false, ppsEnd := some s.tim.cycles } }) ∧
    (∀ pps : Bool, s.tim.running = true →
      ∃ t, exec (.timingInputGlitch pps) s = .next t
        ∧ s.counted (if pps then R.TIM_CNT_GLITCH.PPS else R.TIM_CNT_GLITCH.FSYNC) 1 t
        ∧ s.frame [] [if pps then R.TIM_CNT_GLITCH.PPS else R.TIM_CNT_GLITCH.FSYNC, R.TIM_CNTOVF.OVF] t) ∧
    (∀ ago : Nat, (ago < 8 → exec (.fsyncEdge ago) s = .next s) ∧ (ago < 16 → exec (.ppsInEdge ago) s = .next s)) ∧
    (∀ (ago per r : Nat) (d : Int), 8 ≤ ago → s.tim.running = true → s.tcfg R.TIM_CTRL.FSYNC_EN ≠ 0 →
      per = frameTicks * 2 ^ s.tcfg R.TIM_FSYNCCFG.PERIOD_LOG → r = s.cyclePos (s.tick - ago) % per →
      d = (if 2 * r ≤ per then (r : Int) else (r : Int) - per) → -(2 ^ 31) ≤ d → d < 2 ^ 31 →
      ∃ t, exec (.fsyncEdge ago) s = .next t ∧ t.getInt R.TIM_FSYNCPOS.POS = d
        ∧ ((s.tcfg R.TIM_FSYNCCFG.WINDOW : Int) < |d| → t.get R.TIM_STATUS.FSYNC_ALARM = 1)
        ∧ s.frame [.wire, .waitq, .txSeq, .alarms] [R.TIM_FSYNCPOS.POS, R.TIM_STATUS.FSYNC_ALARM] t) ∧
    (∀ (ago : Nat) (r d : Int), 16 ≤ ago → s.tim.running = true → (s.tcfg R.TIM_CTRL.PPS_MODE = 1 ∨ s.tcfg R.TIM_CTRL.PPS_MODE = 2) →
      s.get R.TIM_STATUS.STATE ≠ timHoldover →
      r = s.stamp (16 * ago) % nsFine 1000000000 → d = (if 2 * r ≤ nsFine 1000000000 then r else r - nsFine 1000000000) →
      ∃ t, exec (.ppsInEdge ago) s = .next t ∧ t.get R.TIM_STATUS.PPS_ALARM
          = (if nsFine (s.tcfg R.TIM_PPSCFG.PPS_LIMIT : Nat) < |d| then 1 else s.get R.TIM_STATUS.PPS_ALARM)
        ∧ (∀ q, d = q * (4096 * fine) → -(2 ^ 31) ≤ q → q < 2 ^ 31 → t.getInt R.TIM_PPSPHASE.PHASE = q)
        ∧ s.frame [.free, .wire, .waitq, .txSeq, .alarms] [R.TIM_PPSPHASE.PHASE, R.TIM_STATUS.PPS_ALARM] t) ∧
    (∃ t, exec .timeRead s = .next t ∧ t.get R.TIM_NOW0.NS = s.tim.now.ns % 2 ^ R.TIM_NOW0.NS.width
      ∧ t.get R.TIM_NOW1.SEC_LO = s.tim.now.sec % 2 ^ 32 ∧ t.get R.TIM_NOW2.SEC_HI = s.tim.now.sec / 2 ^ 32 % 2 ^ 16
      ∧ t.get R.TIM_NOW2.FRAC = s.tim.now.frac % 2 ^ 16
      ∧ s.frame [] [R.TIM_NOW0.NS, R.TIM_NOW1.SEC_LO, R.TIM_NOW2.SEC_HI, R.TIM_NOW2.FRAC] t)

/-- R117, R119, R120, R203, R407, R462 to R464, R470. Completes under conditions on state and operands alone: sheafLoadVerify, sheafLoadVerifyApply, sheafLoadApply, sheafLoadDiscard, verifyDone. Where it speaks of them, it takes the model's choices and readings of log entries 4, 10, 12, 14, 48, 50, 69, 87, 97, 114, 167, 168, 169, 170, 171, 173, 190, 191, 204, 215, 252, 254, 260. -/
def Obligations.SheafLoadsAndTheirResults : Prop :=
  ∀ s : State,
    (∀ (c : Crit → Instr) (mode : Nat) (m : Crit), (c, mode) ∈ [(Instr.sheafLoadVerify, 0), (Instr.sheafLoadVerifyApply, 1)] →
      s.grants m 1 (leBytes 1 mode) 8 → badZero (m.params 1 (leBytes 1 mode) 8) 1 7 = none → s.loadRefusal mode = none →
      ∃ t, exec (c m) s = .next t ∧ t.loft = s.loft.withLast m.ctr.toNat ∧ t.get R.SHF_STATE.STAGE = 1 ∧ t.shf.staged = none
        ∧ t.shf.verifying = some ⟨mode == 1, (m.msg 1 (leBytes 1 mode)).asker 1 6, s.rootSheaf⟩ ∧ t.get R.SHF_STATE.RUN = s.get R.SHF_STATE.RUN) ∧
    (∀ m : Crit, s.grants m 1 (leBytes 1 2) 8 → badZero (m.params 1 (leBytes 1 2) 8) 1 7 = none → s.loadRefusal 2 = none →
      ∃ t, exec (.sheafLoadApply m) s = .next t ∧ t.loft = s.loft.withLast m.ctr.toNat ∧ t.run = runApplying
        ∧ t.shf.applying = some ((m.msg 1 (leBytes 1 2)).asker 1 6) ∧ t.shf.keepalive = none ∧ t.shf.staged = s.shf.staged) ∧
    (∀ m : Crit, s.grants m 1 (leBytes 1 3) 8 → badZero (m.params 1 (leBytes 1 3) 8) 1 7 = none → s.loadRefusal 3 = none →
      ∃ t, exec (.sheafLoadDiscard m) s = .next t ∧ t.loft = s.loft.withLast m.ctr.toNat ∧ t.get R.SHF_STATE.STAGE = 0
        ∧ t.shf.staged = none ∧ t.run = s.run) ∧
    (∀ (rest : Option Nat) (link : LinkErrs) (l : Load), s.shf.verifying = some l → linkBad link = false →
      ∃ t, exec (.verifyDone rest link) s = .next t ∧ t.shf.verifying = none ∧
        (match s.sheafFail s.stagedImage rest with
         | some r => t.get R.SHF_STATE.STAGE = 3 ∧ t.get R.SHF_STATE.LAST_REASON = r % 256 ∧ t.shf.staged = s.shf.staged
         | none => t.shf.staged = some (sheafOf s.stagedImage) ∧ t.get R.SHF_STATE.STAGE = 2
             ∧ (if l.apply then t.run = runApplying ∧ t.shf.applying = some l.asker else t.run = s.run))) ∧
    (∀ (rest : Option Nat) (link : LinkErrs) (l : Load), s.shf.verifying = some l → linkBad link = true →
      ∃ t, exec (.verifyDone rest link) s = .next t ∧ t.shf.verifying = none ∧ t.get R.SHF_STATE.STAGE = 0 ∧ t.get R.SHF_STATE.LAST_REASON = rcDram
        ∧ t.shf.staged = s.shf.staged ∧ t.run = s.run)

/-- R133, R135, R175, R407, R544. Completes under conditions on state and operands alone: applyDone, fullCalDone. Where it speaks of them, it takes the model's choices and readings of log entries 10, 14, 48, 104, 114, 125, 222, 260. -/
def Obligations.ApplyEndsReadyOrEmpty : Prop :=
  ∀ s : State,
    (∀ a sh (link : LinkErrs), s.shf.applying = some a → s.shf.staged = some sh → s.run = runApplying → s.flag R.LNK_PROTO.POS_VALID = true →
      ¬ (bit (leAt sh.hdr 32 4) 1 = true ∧ leAt sh.hdr 36 1 ≠ s.get R.LNK_PROTO.POS) →
      (linkBad link = true → ∃ t, exec (.applyDone false link) s = .next t ∧ t.run = runEmpty ∧ t.get R.SHF_STATE.LAST_REASON = rcDram
        ∧ t.shf.applied = none ∧ t.shf.staged = none) ∧
      (linkBad link = false → ∃ t, exec (.applyDone false link) s = .next t ∧ t.shf.applied = some sh ∧ t.shf.staged = none ∧ t.shf.applying = none
        ∧ t.run = runReady ∧ t.shf.keepalive = some (t.tick + leAt sh.hdr 42 2 * hundredMs))) ∧
    (∀ a sh (link : LinkErrs), s.shf.applying = some a → s.shf.staged = some sh → s.run = runApplying →
      ∃ t, exec (.applyDone true link) s = .next t ∧ t.run = runEmpty ∧ t.get R.SHF_STATE.FAULT_CAUSE = 4
        ∧ t.get R.SHF_STATE.LAST_REASON = rcInternal ∧ t.shf.applied = none ∧ t.shf.applying = none ∧ t.shf.staged = none) ∧
    (s.shf.calPending ≠ [] → (∀ k ∈ s.shf.calPending, k < 4) →
      ∃ t, exec .fullCalDone s = .next t ∧ t.get R.SHF_STATE.CAL_DONE = 1 ∧ t.shf.calPending = [] ∧ t.shf.lastCal = some s.plans
        ∧ (∀ k ∈ s.shf.calPending, t.get (csLock k) = 1 ∧ t.get (clkOk k) = 1 ∧ t.get (csBusy k) = 0))

/-- R133, R134, R138, R139. Completes under conditions on state and operands alone: start, stop. Where it speaks of them, it takes the model's choices and readings of log entries 10, 14, 48, 53, 100, 114, 176, 177, 184, 204, 222. -/
def Obligations.StartAndStop : Prop :=
  ∀ (s : State) (m : Crit),
    (∀ f, s.grants m 2 [] 8 → badFrame (m.params 2 [] 8) = none → f = leAt (m.params 2 [] 8) 0 2 → s.startRefusal f = none →
      ∃ t, exec (.start m) s = .next t ∧ t.run = runStarting ∧ t.get R.SHF_BOUNDS.START_F = f ∧ t.shf.startAt = s.tick + s.ticksTo f
        ∧ t.shf.startAsker = some ((m.msg 2 []).asker 1 6) ∧ t.loft = s.loft.withLast m.ctr.toNat ∧ t.shf.applied = s.shf.applied) ∧
    (∀ f, s.grants m 3 [] 8 → badFrame (m.params 3 [] 8) = none → f = leAt (m.params 3 [] 8) 0 2 → s.running = true → s.shf.stopAt = none →
      0 < s.framesTo f → s.framesTo f < 512 →
      ∃ t, exec (.stop m) s = .next t ∧ t.run = runStopping ∧ t.get R.SHF_BOUNDS.STOP_F = f ∧ t.shf.stopAt = some (s.stopTick f)
        ∧ t.loft = s.loft.withLast m.ctr.toNat) ∧
    (∀ f, s.grants m 3 [] 8 → badFrame (m.params 3 [] 8) = none → f = leAt (m.params 3 [] 8) 0 2 →
      (s.run = runFaulted ∨ s.run = runStarting) →
      ∃ t, exec (.stop m) s = .next t ∧ t.run = runReady ∧ t.get R.SHF_BOUNDS.STOP_F = f ∧ t.loft = s.loft.withLast m.ctr.toNat
        ∧ (s.run = runStarting → t.shf.startAsker = none))

/-- R33, R93, R125, R133, R136 to R138, R143, R292, R392. Completes under conditions on state and operands alone: subframeBoundary, runPrepare, runStart, stopBoundary, stopComplete, keepaliveExpiry, keepaliveMuteLift, stepMuteRelease. Where it speaks of them, it takes the model's choices and readings of log entries 1, 10, 13, 14, 43, 67, 93, 112, 114, 178, 179, 185, 222, 252, 258, 262. -/
def Obligations.RunMovesThroughItsBoundaries : Prop :=
  ∀ s : State,
    (s.run = runStarting →
      ∃ t, exec .runPrepare s = .next t ∧ t.shf.kovf = [] ∧ t.shf.kovfOvf = [] ∧ t.txc.eng = [] ∧ t.txc.pinned = some s.defBeam ∧ t.dpd.caps = []
        ∧ t.shf.startAt = s.shf.startAt ∧ t.loft = s.loft) ∧
    (s.run = runStarting → s.shf.faultAt = none →
      ∃ t, exec .runStart s = .next t ∧ t.run = runRunning ∧ t.shf.stopAt = none ∧ t.shf.startAsker = none ∧ t.shf.tail = false
        ∧ t.txc.muteStop = none ∧ t.shf.startAt = s.shf.startAt) ∧
    (∀ f, s.shf.stopAt = some f → s.run = runStopping →
      ∃ t, exec .stopBoundary s = .next t ∧ t.shf.tail = true
        ∧ t.txc.muteStop = some ⟨(match s.txc.muteStop with | none => f - ringLead | some m => min m.since (f - ringLead)), none⟩
        ∧ s.frame [.shf, .txc, .con, .dpd] [R.TXC_CNT_WINNOW.WINNOW, R.TXC_CNTOVF.OVF] t) ∧
    (∀ f, s.shf.stopAt = some f → s.run = runStopping → s.shf.tail = true → s.shf.faultAt = none →
      ∃ t, exec .stopComplete s = .next t ∧ t.run = runReady ∧ t.get R.SHF_NOW.FURROW = 0 ∧ t.shf.tail = false ∧ t.shf.stopBound = some f
        ∧ t.tim.highWater = none) ∧
    (∀ corrected word (ovl : List Nat) p, s.shf.stepStop = false → s.shf.faultAt = none → s.subRuns s.tick = true →
      p = s.furrowPlace (s.subStart s.tick + subTicks) → s.granPoisoned p.1 p.2 = false →
      ∃ t, exec (.subframeBoundary corrected false ovl word) s = .next t ∧ t.get R.SHF_NOW.FURROW = s.findex (s.frameOf s.tick) (s.subOf s.tick) % 64
        ∧ s.counted R.SHF_CNT_ECC.ECC corrected t ∧ s.counted R.MEM_CNT_GECCC.GECCC corrected t
        ∧ (∀ n < s.part.paths, s.counted (R.RXC_CNT_OVL_n.OVL n) (if s.flag (R.CNV_PATHSTAT_n.RX_ON n) then (ovl.drop n).head?.getD 0 else 0) t)
        ∧ s.frame [] ([R.SHF_NOW.FURROW, R.SHF_CNT_ECC.ECC, R.SHF_CNTOVF.OVF, R.MEM_CNT_GECCC.GECCC, R.MEM_CNTOVF.OVF]
            ++ (List.range s.part.paths).flatMap (fun n => [R.RXC_CNT_OVL_n.OVL n, R.RXC_CNTOVF_n.OVF n])) t) ∧
    (∀ corrected (bad : Bool) word (ovl : List Nat) p, s.shf.stepStop = false → s.shf.faultAt = none →
      s.subRuns (s.subStart s.tick + subTicks) = true → p = s.furrowPlace (s.subStart s.tick + subTicks) → (bad = true ∨ s.granPoisoned p.1 p.2 = true) →
      ∃ t, exec (.subframeBoundary corrected bad ovl word) s = .next t ∧ s.counted R.MEM_CNT_GECCU.GECCU (if bad then 1 else 0) t
        ∧ (bad = true → t.get R.MEM_GECC_ADDR.ADDR = (p.1 + 8 * word) / 8 * 8 % 2 ^ R.MEM_GECC_ADDR.ADDR.width) ∧ t.shf.noFire = some (s.subStart s.tick + subTicks)
        ∧ t.shf.faultAt = some (s.subStart s.tick + 2 * subTicks) ∧ t.get R.SHF_STATE.FAULT_CAUSE = 1 ∧ t.run = s.run) ∧
    (s.shf.keepalive.isSome = true →
      ∃ t, exec .keepaliveExpiry s = .next t ∧ t.shf = { s.shf with keepalive := none, kaExpired := true, kaLift := none }
        ∧ t.txc.muteKa.isSome = true ∧ (s.txc.muteKa = none → t.txc.muteKa = some ⟨s.tick, none⟩)
        ∧ s.frame [.shf, .txc, .tal, .wire, .waitq, .txSeq, .alarms] tallyFields t) ∧
    (s.shf.kaLift.isSome = true → exec .keepaliveMuteLift s
        = .next { s with shf := { s.shf with kaExpired := false, kaLift := none }, txc := { s.txc with muteKa := none } }) ∧
    (∃ t, exec .stepMuteRelease s = .next t ∧ t.txc = { s.txc with muteStep := none } ∧ t.get R.TIM_STATUS.STEP_MUTE = 0
      ∧ s.frame [.txc] [R.TIM_STATUS.STEP_MUTE] t)

/-- R32, R121, R122, R137, R164, R183. Completes under conditions on state and operands alone: noOperation, linkPlacementOpen, linkPlacementClose. Where it speaks of them, it takes the model's choices and readings of log entries 7, 14, 70, 74, 83, 92, 111, 114, 115, 118, 121, 122, 130, 133, 135, 150, 152, 153, 154, 155, 156, 159, 164, 180, 222, 242, 251, 259, 260, 271, 273. -/
def Obligations.LinkPlacementOpensAndCloses : Prop :=
  ∀ s : State,
    (∀ a : Act, exec (.noOperation a) s = .next s) ∧
    (∀ (serve : BitVec 2) (car slotT sym : Nat) (kind : BitVec 3), s.fires ⟨serve, 0, 0, 0⟩ = true →
      (∃ t, exec (.linkPlacementOpen serve car slotT sym kind) s = .next t ∧ t = { s with shf := { s.shf with placed := t.shf.placed } }
        ∧ (∀ k, sparseGet false t.shf.placed k = (if k = placeKey kind.toNat car (s.symOfSlot car slotT sym) then true else sparseGet false s.shf.placed k))) ∧
      (∃ t, exec (.linkPlacementClose serve car slotT sym kind) s = .next t
        ∧ (∀ k, sparseGet false t.shf.placed k = (if k = placeKey kind.toNat car (s.symOfSlot car slotT sym) then false else sparseGet false s.shf.placed k))
        ∧ s.frame [.shf, .con, .txc] [R.LNK_CNT_ORPHAN.ORPHAN, R.LNK_PCNTOVF.OVF, R.SHF_CNT_FILL.FILL, R.SHF_CNTOVF.OVF] t
        ∧ (kind = 0 → t.con = { s.con with data := t.con.data } ∧ s.counted R.LNK_CNT_ORPHAN.ORPHAN (s.con.data.length - t.con.data.length) t
            ∧ ∀ d, d ∈ t.con.data ↔ d ∈ s.con.data ∧ (d.car = car → d.slotT = slotT → d.sym = sym →
              ∃ x ∈ s.con.sects, x.dl = true ∧ x.car = car ∧ x.slotT = slotT ∧ x.sym = sym ∧ x.id = d.id))
        ∧ (∀ fill, fill = s.con.sects.filter (fun x => x.dl && x.car == car && x.slotT == slotT && x.sym == sym && !x.mute && !x.revoked && x.gen == 0
              && decide ((x.pieces.map (·.num)).sum < x.num) && !(s.shedLayers car (s.symOfSlot car slotT sym)).contains x.layer) →
            kind = 1 → t.con = s.con ∧ s.counted R.SHF_CNT_FILL.FILL fill.length t
              ∧ (fill ≠ [] → (t.symRec car (s.symOfSlot car slotT sym)).filled = true)
              ∧ (s.shedLayers car (s.symOfSlot car slotT sym) ≠ [] → (t.symRec car (s.symOfSlot car slotT sym)).shed = true))
        ∧ (2 ≤ kind.toNat → t.con = s.con ∧ t.txc = s.txc))) ∧
    (∀ (a : Act), s.fires a = false →
      ∀ c ∈ [Instr.fetch a [], .recomputeFetch a [], .kernelCheck a, .cfrSelect a, .dpdSelect a, .commit a, .setNcoTx a, .setNcoRx a, .dacQuiet a,
             .dacActive a, .tone a, .setAttn a, .setFilter a, .capture a, .biasStage a, .biasStrobe a, .femPhase a, .fsbSend a, .tineSend a,
             .tineStrobe a, .convert a, .dmaOpen a, .dmaClose a, .calWindowClose a, .horizon a, .partialSumClose a, .solve a, .place a],
        exec c s = .next s)

/-- R225, R226, R233, R239, R245, R246, R407. Completes under conditions on state and operands alone: fetch, recomputeFetch, cfrSelect, horizon, recomputeDone. Where it speaks of them, it takes the model's choices and readings of log entries 1, 12, 13, 14, 70, 74, 92, 114, 152, 153, 154, 155, 159, 164, 208, 222, 224, 242, 251, 260. -/
def Obligations.TransmitPreparation : Prop :=
  ∀ (s : State) (a : Act),
    (∀ (lost : List (Nat × Nat)) (fixed : List Nat), s.fires a = true →
      ∃ t, exec (.fetch a lost fixed) s = .next t ∧ (t.symRec a.car.toNat (s.actBound a)).fetched = true
        ∧ t.tim = { s.tim with highWater := some (match s.tim.highWater with | some h => max h (s.actBound a) | none => s.actBound a) }
        ∧ s.frame [.txc, .con, .mem, .tim] (R.TXC_CNT_FETCHMISS.MISS :: R.TXC_CNTOVF.OVF :: linkErrorFields
            ++ (List.range 8).map R.MEM_CNT_DECCC_k.DECCC) t) ∧
    (∀ (lost : List (Nat × Nat)) (fixed ids : List Nat), s.fires a = true → (s.symRec a.car.toNat (s.actBound a)).await = true →
      ids = (s.namedBeams a.car.toNat (s.actBound a)).filter (fun id => !s.beamPresent id) →
      ∃ t, exec (.recomputeFetch a lost fixed) s = .next t
        ∧ sparseGet [] t.txc.rbuf a.car.toNat
            = (if s.dramOk then (ids.take (min 64 (bits a.arg.toNat 17 7))).filter (fun id => !lost.any (fun x => x.1 == id)) else [])
        ∧ s.counted R.TXC_CNT_FETCHMISS.MISS (ids.length - min 64 (bits a.arg.toNat 17 7)) t) ∧
    (s.fires a = true →
      ∃ t, exec (.cfrSelect a) s = .next t ∧ t = { s with txc := { s.txc with sel := t.txc.sel } }
        ∧ t.txc.sel = s.txc.sel ++ ((List.range s.part.paths).filter (fun p => a.unit.toNat == 0xFF || p / 8 == a.unit.toNat)).map (fun p =>
            (p, s.actSym a a.car.toNat (bits a.arg.toNat 9 7) (bits a.arg.toNat 6 3), bits a.arg.toNat 2 0))) ∧
    (s.fires a = true →
      ∃ t, exec (.horizon a) s = .next t
        ∧ (∀ c ∈ s.dlCarriers, s.symBegin c (s.actBound a) = s.actBound a → (t.symRec c (s.actBound a)).closed = true)
        ∧ s.frame [.con, .txc] [R.LNK_CNT_ORPHAN.ORPHAN, R.LNK_PCNTOVF.OVF, R.SHF_CNT_FILL.FILL, R.SHF_CNT_DEFBEAM.DEFBEAM, R.SHF_CNTOVF.OVF,
            R.TXC_CNT_WINNOW.WINNOW, R.TXC_CNTOVF.OVF] t) ∧
    (∀ car at_, (s.symRec car at_).await = true →
      ∃ t, exec (.recomputeDone car at_) s = .next t ∧ (t.symRec car at_).await = false ∧ (t.symRec car at_).ready = true
        ∧ (t.symRec car at_).freq = s.precode (s.recomputeWeights car) car at_
        ∧ s.counted R.TXC_CNT_RECOMP.RECOMP 1 t ∧ s.frame [.txc] [R.TXC_CNT_RECOMP.RECOMP, R.TXC_CNTOVF.OVF] t)

/-- R231, R235, R237, R238, R242, R245, R248, R249, R252, R257. Completes under conditions on state and operands alone: playout, engineWindow, enginePassDone. Where it speaks of them, it takes the model's choices and readings of log entries 5, 10, 14, 94, 96, 112, 114, 146, 151, 157, 158, 159, 162, 222, 226, 277, 278. -/
def Obligations.EngineAndRingRead : Prop :=
  ∀ s : State,
    (∀ at_ win, s.windowExists win = false → exec (.engineWindow at_ win) s = .next s) ∧
    (∀ at_ win x, runStarting ≤ s.run → s.run ≠ runFaulted → s.symBegin s.grid at_ = at_ → s.windowExists win = true →
      (s.engFrom (s.depth + 1) at_).find? (fun a => let e := s.eng a; !e.done && !e.played && e.busy == 0 && s.eligible a win) = some x →
      ∃ t, exec (.engineWindow at_ win) s = .next t ∧ (t.eng x).busy = win ∧ t.txc.restart = (s.txc.restart && !s.restartsAt x)
        ∧ (∃ h, t.tim.highWater = some h ∧ x ≤ h) ∧ s.frame [.txc, .tim] [] t) ∧
    (∀ win poison x, s.txc.eng.find? (fun e => e.2.busy == win && win != 0) = some x → x.2.stale = false →
      ∃ t, exec (.enginePassDone win poison) s = .next t ∧ (t.eng x.1).done = true ∧ (t.eng x.1).busy = 0
        ∧ (∀ n, n = s.engLen x.1 * s.eRate → ∀ p ∈ s.txPaths, sparseGet [] (t.eng x.1).x p = (s.passCfr x.1 p n).1
            ∧ sparseGet [] (t.eng x.1).out p = s.toneAfter x.1 p ((s.dpdRun p (s.bankAt p x.1).1 (s.eng x.1).hist (t.eng x.1).x n).map (·.1))
            ∧ sparseGet 0 (t.eng x.1).energy p = ((sparseGet [] (t.eng x.1).out p).map cnorm).sum)
        ∧ (t.eng (s.symNext s.grid x.1)).ckpt = true ∧ t.tim = s.tim ∧ t.vaon = s.vaon) ∧
    (∀ win poison x, s.txc.eng.find? (fun e => e.2.busy == win && win != 0) = some x → x.2.stale = true →
      ∃ t, exec (.enginePassDone win poison) s = .next t ∧ t.eng x.1 = { x.2 with busy := 0, stale := false } ∧ s.frame [.txc] [] t) ∧
    (∀ a osc, s.fires a = true →
      ∃ t, exec (.playout a osc) s = .next t ∧ t.vaon.osc = osc ∧ (t.eng (s.actBound a)).played = true
        ∧ (s.mutesAt (s.actBound a) ≠ 0 → t.txc.dac = [] ∧ ∀ p ∈ s.txPaths, t.get (R.TXC_PATHSTAT_n.MUTE p) = s.mutesAt (s.actBound a) % 16))

/-- R290 to R292, R294. Completes under conditions on state and operands alone: setAttn, setFilter, agcStep, rxSettingBoundary. Where it speaks of them, it takes the model's choices and readings of log entries 5, 10, 14, 114, 131, 222, 258. -/
def Obligations.ReceiveSettings : Prop :=
  ∀ (s : State) (a : Act),
    (s.fires a = true →
      (∃ t, exec (.setAttn a) s = .next t ∧ t = { s with rxc := { s.rxc with pend := t.rxc.pend } }
        ∧ t.rxc.pend = s.rxc.pend ++ (s.rxNamed a).map (fun n => ⟨n, 7, s.actBound a, bits a.arg.toNat 11 7⟩)) ∧
      (∃ t, exec (.setFilter a) s = .next t ∧ t = { s with rxc := { s.rxc with pend := t.rxc.pend } }
        ∧ t.rxc.pend = s.rxc.pend ++ (rxUnit s.part a.unit.toNat).map (fun n => ⟨n, a.car.toNat, s.actBound a, bits a.arg.toNat 8 7⟩)) ∧
      (∀ codes, ∃ t l, exec (.agcStep a codes) s = .next t ∧ t.rxc.pend = s.rxc.pend ++ l ∧ l.map (·.path) = s.rxNamed a
        ∧ (∀ p ∈ l, p.car = 7 ∧ p.at_ = s.actBound a) ∧ (∀ n, t.get (R.RXC_ATTN_n.ATTN n) = s.get (R.RXC_ATTN_n.ATTN n)))) ∧
    (∀ bound, ∃ t, exec (.rxSettingBoundary bound) s = .next t ∧ t.rxc.pend = s.rxc.pend.filter (fun p => p.at_ != bound)
      ∧ t.rxc.taken = s.rxc.taken ++ s.rxc.pend.filter (fun p => p.at_ == bound) ∧ t.tim = s.tim ∧ t.txc = s.txc
      ∧ (∀ p, s.rxc.pend.filter (fun p => p.at_ == bound) = [p] → p.car = 7 → t.get (R.RXC_ATTN_n.ATTN p.path) = p.val % 32)
      ∧ (∀ p, s.rxc.pend.filter (fun p => p.at_ == bound) = [p] → p.car < 4 → t.get (filtFld p.path p.car) = p.val % 4))

/-- R122, R138, R184, R185, R194, R286, R296, R298 to R300, R304 to R310, R386. Completes under conditions on state and operands alone: extract, uCPlaneTransmission, partialSumClose, covar, solve, place. Where it speaks of them, it takes the model's choices and readings of log entries 5, 12, 14, 44, 46, 83, 114, 128, 129, 130, 132, 133, 181, 222, 225, 256, 257, 259, 273. -/
def Obligations.ReceiveSumsAndSounding : Prop :=
  ∀ (s : State) (a : Act),
    (s.fires a = true →
      ∃ t, exec (.partialSumClose a) s = .next t
        ∧ (s.expectsPartial = false → t = s)
        ∧ (∀ slotT sym, slotT = s.actSym a a.car.toNat (bits a.arg.toNat 6 4) 0 → sym = bits a.arg.toNat 3 0 → s.expectsPartial = true →
            t.rxc = { s.rxc with closed := s.rxc.closed.filter (fun c => decide (s.tick ≤ c.2.1 + 10 * subTicks))
              ++ [(a.car.toNat, s.symOfSlot a.car.toNat slotT sym, ((s.ulSects a.car.toNat slotT sym).filter (fun x =>
                    s.carriesUl .cas x.layer && (s.partialHere x).isSome)).map (·.id))] })
        ∧ s.frame [.rxc] [R.RXC_CNT_PSSHED.PSSHED, R.RXC_CNT_PSMISS.PSMISS, R.RXC_CNTOVF.OVF] t) ∧
    (∀ adc, s.fires a = true →
      ∃ t, exec (.extract a adc) s = .next t ∧ s.frame [.rxc] [] t
        ∧ t.rxc.extracts.getLast? = some ⟨a.unit.toNat, bits a.arg.toNat 12 7, a.car.toNat, s.actBound a,
            s.symSamples a.car.toNat (s.actBound a) (bits a.arg.toNat 16 13), adc, bit a.arg.toNat 17, 0⟩) ∧
    (∀ e, s.rxc.extracts = [e] → e.mem = true → e.first + e.num * 2 ^ s.rateK e.car + 416 ≤ s.tick →
      s.extractsLand.rxc.extracts = [] ∧ s.granTakes (0x3C00000 + s.rxByte 12 4 + e.k * s.rxByte 16 4)
        ((s.frontEnd e.path e.car e.first e.num e.adc).map (fun c => leBytes 2 (unsigned 16 c.1) ++ leBytes 2 (unsigned 16 c.2))).flatten s.extractsLand) ∧
    (∀ op, s.frame [.tiles] [R.TIL_CNT_SUPPR.SUPPR, R.TIL_CNT_ECCU.ECCU, R.TIL_CNT_HALT.HALT, R.TIL_CNTOVF.OVF] (s.soundKernels op a.arg.toNat)) ∧
    (∀ adc u used, u = s.soundKernels 0 a.arg.toNat → s.fires a = true →
      used = (List.range (12 * u.nPrb a.car.toNat)).map (u.antenna a.car.toNat (u.fftWindows a.car.toNat (u.soundAct a).1 adc)) →
      (bit (u.soundAct a).2.1 7 = true →
        ∃ t x, exec (.covar a adc) s = .next t ∧ t.rxc.sounds.getLast? = some x ∧ x.is a (u.soundAct a).1 = true ∧ x.req = none ∧ x.beams = []
          ∧ x.y = used ∧ u.frame [.rxc] [] t) ∧
      (bit (u.soundAct a).2.1 7 = false →
        ∃ t, exec (.covar a adc) s = .next t ∧ t.rxc.sounds.map (·.y) = u.rxc.sounds.map (fun x => if x.is a (u.soundAct a).1 then used else x.y)
          ∧ u.frame [.rxc] [] t)) ∧
    (∀ u, u = s.soundKernels 1 a.arg.toNat → s.fires a = true → u.rxc.sounds.any (fun x => x.is a (u.soundAct a).1 && x.y != []) = true →
      ∃ t, exec (.solve a) s = .next t ∧ u.counted R.RXC_CNT_SOUND.SOUND 1 t
        ∧ t.rxc.sounds = u.rxc.sounds.map (fun x => if x.is a (u.soundAct a).1 then { x with beams := u.solveAll x } else x)) ∧
    (s.placeHeld.rxc = { s.rxc with cacheHeld := [] } ∧ s.frame [.rxc, .mem] [] s.placeHeld
      ∧ ∀ g b, s.rxc.cacheHeld = [(g, b)] → s.granTakes g b s.placeHeld) ∧
    (∀ u x, u = s.placeHeld.soundKernels 2 a.arg.toNat → s.fires a = true → u.rxc.sounds.find? (fun x => x.is a (u.soundAct a).1 && x.beams != []) = some x →
      x.req = none →
      ∃ t, exec (.place a) s = .next t ∧ t.rxc.sounds = u.rxc.sounds.filter (fun y => !y.is a (u.soundAct a).1)
        ∧ u.frame [.rxc, .mem, .txc] [R.RXC_SOUND.SKIPPED, R.RXC_CNT_SNDSKIP.SNDSKIP, R.RXC_CNTOVF.OVF] t
        ∧ (∀ v, x.place = true → x.invalid = false → x.beams = [[v]] → u.beamPinned x.base = false →
            t.beamPresent x.base = true ∧ t.granBytes (beamAddr x.base) 256 = pad 256 (u.beamBytes v.2))) ∧
    (∀ serve : BitVec 2, s.fires ⟨serve, 7, 0, 0⟩ = true → s.portUp .up = true → s.flag R.LNK_PROTO.POS_VALID = true →
      (∀ car slotT, ∃ t w, exec (.uCPlaneTransmission serve (.txReport car slotT)) s = .next t ∧ t.wire = s.wire ++ [w] ∧ w.plane = 2 ∧ w.typ = 0x0B
        ∧ s.frame [.wire, .waitq, .txSeq] [] t) ∧
      (∀ car symT x, s.rxc.sounds.find? (fun x => x.car == car && x.symT == symT && x.req.isSome && x.beams != []) = some x → s.outputFor symT = true →
        ∃ t w, exec (.uCPlaneTransmission serve (.soundResult car symT)) s = .next t ∧ t.wire = s.wire ++ [w] ∧ w.plane = 2 ∧ w.typ = 0x0A) ∧
      (∀ k num e, s.rxc.extracts.find? (fun e => e.k == k && !e.mem) = some e → 0 < num → e.sent < e.num →
        s.outputFor (e.first + e.sent * 2 ^ s.rateK e.car) = true →
        ∃ t w, exec (.uCPlaneTransmission serve (.ulTime k num)) s = .next t ∧ t.wire = s.wire ++ [w] ∧ w.plane = 3 ∧ w.typ = 3) ∧
      (∀ car slotT sym sect adc x, (s.ulSects car slotT sym).find? (fun x => x.id == sect) = some x → s.carriesUl .up x.layer = true →
        s.outputFor (s.symOfSlot car slotT sym) = true →
        ∃ t w, exec (.uCPlaneTransmission serve (.ulData car slotT sym sect adc)) s = .next t ∧ t.wire = s.wire ++ [w] ∧ w.plane = 3
          ∧ w.typ = (if s.isHead then 2 else 4)))

/-- R267, R270. Completes under conditions on state and operands alone: dpdSelect, commit. Where it speaks of them, it takes the model's choices and readings of log entries 10, 14, 114, 222. -/
def Obligations.DpdSelectionAndCommit : Prop :=
  ∀ (s : State) (a : Act), s.fires a = true →
    (∃ t, exec (.dpdSelect a) s = .next t ∧ t = { s with dpd := { s.dpd with sel := t.dpd.sel } }
      ∧ t.dpd.sel = s.dpd.sel ++ ((List.range s.part.paths).filter (fun p => a.unit.toNat == 0xFF || p / 8 == a.unit.toNat)).map (fun p =>
          (p, s.actSym a a.car.toNat (bits a.arg.toNat 8 6) (bits a.arg.toNat 5 2), bits a.arg.toNat 1 0))) ∧
    (∀ o b l, o = bits a.arg.toNat 1 0 → b = s.actSym a a.car.toNat (bits a.arg.toNat 8 6) (bits a.arg.toNat 5 2) →
      l = (s.groupPaths a.unit.toNat).filter (fun p => (s.bankSet p o).changed) →
      (l = [] → ∃ t, exec (.commit a) s = .next t ∧ s.counted R.DPD_CNT_CIDLE.CIDLE 1 t
        ∧ s.frame [] [R.DPD_CNT_CIDLE.CIDLE, R.DPD_CNTOVF.OVF] t) ∧
      (l ≠ [] → (∀ p ∈ l, (s.bankSet p o).fail = 0) →
        ∃ t, exec (.commit a) s = .next t ∧ s.counted R.DPD_CNT_COMMIT.COMMIT 1 t
          ∧ (∀ p ∈ s.groupPaths a.unit.toNat, let x := s.bankSet p o
              t.bankSet p o = { cur := x.shadow, prev := x.cur, shadow := x.shadow, ver := (x.ver + 1) % 256, at_ := b, changed := false, fail := 0 })) ∧
      (∀ p, l.find? (fun p => (s.bankSet p o).fail != 0) = some p →
        ∃ t, exec (.commit a) s = .next t ∧ s.counted R.DPD_CNT_CFAIL.CFAIL 1 t
          ∧ t.get R.DPD_LASTFAIL.PATH = p % 2 ^ R.DPD_LASTFAIL.PATH.width ∧ t.get R.DPD_LASTFAIL.OPPT = o
          ∧ (∀ q ∈ l, t.bankSet q o = { s.bankSet q o with shadow := (s.bankSet q o).cur, changed := false, fail := 0 })))

/-- R273 to R275, R278 to R281, R284, R325. Completes under conditions on state and operands alone: adapt, adaptDone, capture, captureEnd, bankReadI, bankReadQ. Where it speaks of them, it takes the model's choices and readings of log entries 1, 5, 7, 10, 12, 13, 14, 48, 53, 100, 114, 146, 148, 149, 150, 151, 184, 204, 222, 271. -/
def Obligations.DpdCaptureAndAdaptation : Prop :=
  ∀ s : State,
    (∀ a : Act, s.fires a = true → a.unit.toNat < s.part.gleaners →
      ∃ t c, exec (.capture a) s = .next t ∧ t.get (glStat a.unit.toNat 4 4) = 1 ∧ t.get (glStat a.unit.toNat 2 0) = bits a.arg.toNat 2 0
        ∧ t.dpd.caps = s.dpd.caps.filter (fun c => c.gleaner != a.unit.toNat) ++ [c]
        ∧ c.gleaner = a.unit.toNat ∧ c.path = 8 * a.unit.toNat + bits a.arg.toNat 2 0 ∧ c.buf = bits a.arg.toNat 7 4 ∧ c.start = s.tick + 64) ∧
    (∀ gleaner codes lead c, s.dpd.caps.find? (fun c => c.gleaner == gleaner) = some c →
      ∃ t, exec (.captureEnd gleaner codes lead) s = .next t ∧ t.dpd.caps = s.dpd.caps.filter (fun x => x.gleaner != gleaner)
        ∧ sparseGet 0 t.dpd.written (16 * gleaner + c.buf) = c.start + 1 ∧ s.counted (R.DPD_CNT_GSAT_n.GSAT c.path) (s.gleanOver c codes lead) t
        ∧ s.frame [.dpd, .mem] [glStat gleaner 4 4, R.DPD_CNT_GSAT_n.GSAT c.path, R.DPD_CNTOVF_n.OVF c.path] t) ∧
    (∀ a : Act, s.fires a = true →
      ∃ t r, exec (.adapt a) s = .next t ∧ t = { s with dpd := { s.dpd with adapts := s.dpd.adapts ++ [r] } }
        ∧ r.gleaner = a.unit.toNat ∧ r.buf = bits a.arg.toNat 3 0
        ∧ (sparseGet 0 s.dpd.written (16 * a.unit.toNat + bits a.arg.toNat 3 0) = 0 → r.void = 1)) ∧
    (∀ gleaner buf r run p, s.dpd.adapts.find? (fun x => x.gleaner == gleaner && x.buf == buf) = some run →
      p = (if run.void = 1 then 8 * gleaner + s.get (glStat gleaner 2 0) else leAt (s.slotHead gleaner buf) 0 1) → p < s.part.paths →
      (run.void ≠ 0 ∨ s.capStale (s.slotHead gleaner buf) = true) →
      ∃ t, exec (.adaptDone gleaner buf r) s = .next t ∧ s.counted (R.DPD_CNT_VOID_n.VOID p) 1 t
        ∧ t.get (R.DPD_LASTCAP_n.VOID p)
            = (if run.void = 1 then 1 else if s.capStale (s.slotHead gleaner buf) then 2 else run.void) % 2 ^ (R.DPD_LASTCAP_n.VOID p).width
        ∧ t.dpd = { s.dpd with adapts := s.dpd.adapts.erase run }) ∧
    (∀ gleaner buf r run p o, s.dpd.adapts.find? (fun x => x.gleaner == gleaner && x.buf == buf) = some run → run.void = 0 →
      s.capStale (s.slotHead gleaner buf) = false → p = leAt (s.slotHead gleaner buf) 0 1 → p < s.part.paths → o = headOppt (s.slotHead gleaner buf) →
      (alignOk (s.slotZ gleaner buf) (s.slotRef gleaner buf 0) (leAt (s.slotHead gleaner buf) 5 1) (headDir (s.slotHead gleaner buf)) = false →
        ∃ t, exec (.adaptDone gleaner buf r) s = .next t ∧ s.counted (R.DPD_CNT_VOID_n.VOID p) 1 t ∧ t.get (R.DPD_LASTCAP_n.VOID p) = 10
          ∧ t.dpd = { s.dpd with adapts := s.dpd.adapts.erase run }) ∧
      (alignOk (s.slotZ gleaner buf) (s.slotRef gleaner buf 0) (leAt (s.slotHead gleaner buf) 5 1) (headDir (s.slotHead gleaner buf)) = true →
      headDir (s.slotHead gleaner buf) = false → s.hasModel p = true →
      ∃ t, exec (.adaptDone gleaner buf r) s = .next t ∧ s.counted (R.DPD_CNT_CAP_n.CAP p) 1 t ∧ t.get (R.DPD_LASTCAP_n.VOID p) = 0
        ∧ (t.bankSet p o).changed = true ∧ (t.bankSet p o).cur = (s.bankSet p o).cur ∧ (t.bankSet p o).ver = (s.bankSet p o).ver
        ∧ (t.bankSet p o).shadow = (s.slotCoef p o gleaner buf r).map (fun c => (max (-131072) (min 131071 c.1), max (-131072) (min 131071 c.2))))) ∧
    (∃ t, exec .bankReadI s = .next t ∧ t.getInt R.DPD_BANKI.I = signed R.DPD_BANKI.I.width (unsigned R.DPD_BANKI.I.width s.bankShown.1)
      ∧ t.getInt R.DPD_BANKQ.Q = signed R.DPD_BANKQ.Q.width (unsigned R.DPD_BANKQ.Q.width s.bankShown.2)
      ∧ s.frame [] [R.DPD_BANKI.I, R.DPD_BANKQ.Q] t) ∧
    (∃ t, exec .bankReadQ s = .next t ∧ t.get R.DPD_BANKSEL.TERM = (s.get R.DPD_BANKSEL.TERM + 1) % 64
      ∧ s.frame [] [R.DPD_BANKSEL.TERM] t)

/-- R317 to R320, R322. Completes under conditions on state and operands alone: setNcoTx, setNcoRx, dacQuiet, dacActive, tone, converterBoundary. Where it speaks of them, it takes the model's choices and readings of log entries 10, 14, 114, 222. -/
def Obligations.ConverterActions : Prop :=
  ∀ s : State,
    (∀ (a : Act), s.fires a = true →
      ∀ x ∈ [(Instr.setNcoTx a, 0, s.param a.param % 2 ^ 24, 0), (.setNcoRx a, 1, s.param a.param % 2 ^ 24, 0), (.dacQuiet a, 2, 0, 0),
             (.dacActive a, 3, 0, 0), (.tone a, 4, s.param a.param, s.param (a.param + 1))],
        ∃ t, exec x.1 s = .next t ∧ t = { s with cnv := { s.cnv with pend := t.cnv.pend } }
          ∧ (∀ n ∈ unitPaths s.part a.unit.toNat, ⟨n, x.2.1, s.actBound a, x.2.2.1, x.2.2.2⟩ ∈ t.cnv.pend)
          ∧ (∀ p ∈ s.cnv.pend, ¬ (p.path ∈ unitPaths s.part a.unit.toNat ∧ p.op = x.2.1 ∧ p.at_ = s.actBound a) → p ∈ t.cnv.pend)) ∧
    (∀ bound, ∃ t, exec (.converterBoundary bound) s = .next t ∧ t.cnv.pend = s.cnv.pend.filter (fun p => p.at_ != bound) ∧ t.tim = s.tim
      ∧ t.txc = s.txc
      ∧ (∀ p, s.cnv.pend.filter (fun p => p.at_ == bound) = [p] →
          (p.op = 0 → t.get (R.CNV_TXNCO_n.FC p.path) = p.a % 2 ^ (R.CNV_TXNCO_n.FC p.path).width) ∧
          (p.op = 1 → t.get (R.CNV_RXNCO_n.FC p.path) = p.a % 2 ^ (R.CNV_RXNCO_n.FC p.path).width) ∧
          (p.op = 2 → p.path < s.part.paths → t.get (R.CNV_PATHSTAT_n.TX_QUIET p.path) = 1) ∧
          (p.op = 3 → p.path < s.part.paths → s.used p.path = true → p.path ∉ s.cnv.active → s.cnv.held.contains (chipOf p.path) = false →
            t.get (R.CNV_PATHSTAT_n.TX_QUIET p.path) = 0) ∧
          (p.op = 4 → t.get (R.CNV_TONEF_n.FREQ p.path) = p.a % 2 ^ (R.CNV_TONEF_n.FREQ p.path).width
            ∧ t.get (R.CNV_TONEA_n.AMPL p.path) = bits p.b 12 0 ∧ t.get (R.CNV_PATHSTAT_n.TONE p.path) = bits p.b 14 13)))

/-- R329 to R331. Completes under conditions on state and operands alone: biasStage, biasStrobe, biasBoundary, biasRangeSwitchDone. Where it speaks of them, it takes the model's choices and readings of log entries 10, 14, 114, 122, 222. -/
def Obligations.BiasOutputs : Prop :=
  ∀ s : State,
    (∀ (a : Act) (w : Nat → Nat), s.fires a = true → (∀ i, w i = s.param (bits a.arg.toNat 15 0 + i)) →
      ∃ t, exec (.biasStage a) s = .next t
        ∧ (∀ i < bits a.arg.toNat 22 16, bits (w i) 6 0 ∈ biasOuts s.part → (∀ j < bits a.arg.toNat 22 16, i < j → bits (w j) 6 0 ≠ bits (w i) 6 0) →
            t.get (sCode (bits (w i) 6 0)) = bits (w i) 19 8 ∧ t.get (sRange (bits (w i) 6 0)) = bits (w i) 21 20
              ∧ t.get (sPending (bits (w i) 6 0)) = 1)
        ∧ s.frame [] ((List.range (bits a.arg.toNat 22 16)).flatMap (fun i => [sCode (bits (w i) 6 0), sRange (bits (w i) 6 0), sPending (bits (w i) 6 0)])) t) ∧
    (∀ a : Act, s.fires a = true → (∀ o ∈ biasOuts s.part, s.flag (bSwitching o) = false) →
      ∃ t, exec (.biasStrobe a) s = .next t ∧ t = { s with cnv := { s.cnv with latched := t.cnv.latched } }
        ∧ t.cnv.latched = s.cnv.latched ++ ((biasOuts s.part).filter (fun o => s.flag (sPending o) && s.get (bGroup o) != 0x1F
            && (a.unit.toNat == 0xFF || s.get (bGroup o) == a.unit.toNat))).map (fun o => ⟨o, s.actBound a, s.get (sCode o), s.get (sRange o)⟩)) ∧
    (∀ bound b, s.cnv.latched.filter (fun b => b.at_ == bound) = [b] → s.flag (bSwitching b.out) = false → b.out < 128 →
      ∃ t, exec (.biasBoundary bound) s = .next t ∧ t.get (bCode b.out) = b.code % 4096 ∧ t.get (bRange b.out) = b.range % 4
        ∧ (s.get (bRange b.out) = b.range → t.get (bSafe b.out) = 0 ∧ t.get (bSwitching b.out) = 0)
        ∧ (s.get (bRange b.out) ≠ b.range → t.get (bSafe b.out) = 1 ∧ t.get (bSwitching b.out) = 1)
        ∧ (∀ x ∈ t.cnv.latched, x.at_ ≠ bound)
        ∧ s.frame [.cnv] [bCode b.out, bRange b.out, bSafe b.out, bSwitching b.out, sPending b.out] t) ∧
    (∀ out, out < 128 → ∃ t, exec (.biasRangeSwitchDone out) s = .next t ∧ t.get (bSwitching out) = 0
      ∧ t.cnv = { s.cnv with toZero := s.cnv.toZero.filter (·.1 != out) } ∧ s.frame [.cnv] [bSwitching out] t)

/-- R334 to R336, R338 to R341. Completes under conditions on state and operands alone: calWindowOpen, calWindowClose, synLockLoss, synRelockRetry, calRequest, calStart, calComplete, calAbort, calHeldRelease, synthesizerRelock. Where it speaks of them, it takes the model's choices and readings of log entries 1, 4, 10, 13, 14, 113, 114, 115, 116, 150, 175, 206, 222, 248, 256. -/
def Obligations.CalibrationRuns : Prop :=
  ∀ s : State,
    (∀ (kinds : BitVec 5) (chiplets : BitVec 4), ∃ t, exec (.calRequest kinds chiplets) s = .next t ∧ t = { s with regs := t.regs }
      ∧ (∀ k < s.part.chiplets, bit chiplets.toNat k = true → s.chipUsed k = true →
          ∀ i < 5, bit (t.get (csPending k)) i = (bit (s.get (csPending k)) i || bit kinds.toNat i))
      ∧ s.frame [] ((List.range 4).map csPending) t) ∧
    (∀ k kind rest, k < s.part.chiplets → (s.calChip k).run = none → (s.calChip k).fullCal = false → (s.calChip k).unlocked = false →
      s.run ≠ runApplying → s.calReady k = kind :: rest →
      (s.running = false ∨ ∃ w, (s.calChip k).window = some w ∧ s.tick + calNominal kind ≤ w) →
      ∃ t r, exec (.calStart k) s = .next t ∧ (t.calChip k).run = some r ∧ r.kind = kind ∧ r.started = s.tick ∧ r.overrun = false
        ∧ t.get (csBusy k) = 1 ∧ t.get (csRunKind k) = kind % 8 ∧ (kind = 0 → t.get (csLock k) = 0 ∧ t.get (clkOk k) = 0)) ∧
    (∀ k, k < s.part.chiplets → (s.calChip k).run = none → (s.calChip k).fullCal = false → (s.calChip k).unlocked = true →
      ∀ c ∈ [Instr.calStart k, .synRelockRetry k],
        ∃ t r, exec c s = .next t ∧ (t.calChip k).run = some r ∧ r.kind = 0 ∧ r.forLock = true ∧ t.get (csBusy k) = 1) ∧
    (∀ k r, k < 4 → (s.calChip k).run = some r → r.forLock = false → r.overrun = false → r.kind < 5 →
      ∃ t, exec (.calComplete k) s = .next t ∧ (t.calChip k).run = none ∧ t.get (csBusy k) = 0 ∧ t.get (csRunKind k) = 7
        ∧ bit (t.get (csPending k)) r.kind
            = (r.kind == 4 && (s.calChip k).retune.any (fun n => !r.paths.contains n) && bit (s.get (csPending k)) r.kind) ∧ s.counted R.RFE_CNT_CAL.CAL 1 t ∧ sparseGet 0 (t.calChip k).overruns r.kind = 0) ∧
    (∀ k r, k < 4 → (s.calChip k).run = some r → r.overrun = false →
      ∃ t, exec (.calAbort k) s = .next t ∧ (t.calChip k).run = none ∧ t.get (csBusy k) = 0 ∧ t.get (csPending k) = s.get (csPending k)) ∧
    (∀ (a : Act) close, s.fires a = true → ∃ t, exec (.calWindowOpen a close) s = .next t ∧ (t.calChip a.unit.toNat).window = some close
      ∧ s.frame [.rfe, .dpd] [] t) ∧
    (∀ a : Act, s.fires a = true →
      ∃ t, exec (.calWindowClose a) s = .next t ∧ (t.calChip a.unit.toNat).window = none
        ∧ (∀ r, (s.calChip a.unit.toNat).run = some r → r.forLock = false → r.overrun = false → a.unit.toNat < 4 →
            (t.calChip a.unit.toNat).run = some { r with overrun := true } ∧ t.get (csOverrun a.unit.toNat) = 1 ∧ s.counted R.RFE_CNT_OVERRUN.OVERRUN 1 t)) ∧
    (∀ k, k < 4 → ∃ t, exec (.calHeldRelease k) s = .next t ∧ (t.calChip k).held = [] ∧ t.get (csHeld k) = 0 ∧ s.frame [.rfe] [csHeld k] t) ∧
    (∀ k, k < s.part.chiplets →
      ((s.calChip k).run = none → (s.calChip k).fullCal = false → (s.calChip k).unlocked = false →
        ∃ t, exec (.synLockLoss k) s = .next t ∧ (t.calChip k).unlocked = true ∧ t.get (csLock k) = 0 ∧ t.get (clkOk k) = 0
          ∧ s.counted R.RFE_CNT_LOCKLOSS.LOCKLOSS 1 t ∧ t.cnv.held.contains k = true
          ∧ (∀ n ∈ chipPaths s.part k, ⟨n, 7, s.tick, none, false, false⟩ ∈ t.rxc.inval)) ∧
      ((s.calChip k).unlocked = false → ((s.calChip k).run.isSome = true ∨ (s.calChip k).fullCal = true) →
        ∃ t, exec (.synLockLoss k) s = .next t ∧ t.get (csLock k) = 0 ∧ t.get (clkOk k) = 0 ∧ s.frame [] [csLock k, clkOk k] t) ∧
      ((s.calChip k).run = none → (s.calChip k).fullCal = false → (s.calChip k).unlocked = true →
        ∃ t, exec (.synthesizerRelock k) s = .next t ∧ (t.calChip k).unlocked = false ∧ t.get (csLock k) = 1 ∧ t.get (clkOk k) = 1
          ∧ t.cnv.held.contains k = false))

/-- R343, R347 to R352. Completes under conditions on state and operands alone: femPhase, femChangeInstant, fsbSend, fsbChainStart, fsbFrameDone, fsbGo, powerStepBoundary. Where it speaks of them, it takes the model's choices and readings of log entries 7, 10, 14, 114, 118, 222. -/
def Obligations.FrontEndLinesAndBuses : Prop :=
  ∀ s : State,
    (∀ a : Act, s.fires a = true → ∃ t, exec (.femPhase a) s = .next t ∧ t = { s with rfe := { s.rfe with phases := t.rfe.phases } }
      ∧ t.rfe.phases = s.rfe.phases ++ (unitPaths s.part a.unit.toNat).map (fun n =>
          ⟨n, (s.actBound a + signed 14 (bits a.arg.toNat 22 9)).toNat, bits a.arg.toNat 8 7⟩)) ∧
    (∀ bound, ∀ c ∈ [Instr.femChangeInstant bound, .powerStepBoundary bound],
      ∃ t, exec c s = .next t ∧ t.rfe.steps = s.rfe.steps.filter (fun x => x.at_ != bound) ∧ t.rfe.phases = s.rfe.phases.filter (fun x => x.at_ != bound)
        ∧ t.rfe.protOn = s.rfe.protOn ∧ t.cnv = s.cnv
        ∧ (∀ x, s.rfe.phases.filter (fun x => x.at_ == bound) = [x] → t.get (R.RFE_PATH_n.PHASE x.path) = x.phase % 4)
        ∧ (∀ x, s.rfe.steps.filter (fun x => x.at_ == bound) = [x] → x.fem = false → x.path ∉ s.rfe.protOn →
            t.get (R.RFE_PATH_n.PSREQ x.path) = x.index % 2 ^ (R.RFE_PATH_n.PSREQ x.path).width
              ∧ t.get (R.RFE_PATH_n.PSTEP x.path) = x.index % 2 ^ (R.RFE_PATH_n.PSTEP x.path).width)) ∧
    (∀ a : Act, s.fires a = true →
      ∃ t, exec (.fsbSend a) s = .next t ∧ t.fsbBus a.unit.toNat = { s.fsbBus a.unit.toNat with
            send := (s.fsbBus a.unit.toNat).send ++ [(s.tick + 16, s.fsbChain 16 (bits a.arg.toNat 15 0))] }
        ∧ t.rfe.fsbSent = s.rfe.fsbSent ∧ s.frame [.rfe] [] t) ∧
    (∀ bus at_ c q, (s.fsbBus bus).send = (at_, c) :: q →
      (s.tick < at_ → s.fsbDue bus = s) ∧
      (at_ ≤ s.tick → (s.fsbBus bus).run = [] → (s.fsbDue bus).fsbBus bus = { s.fsbBus bus with send := q, run := c }
        ∧ ∀ w l, c = w :: l → (s.fsbDue bus).rfe.fsbSent = s.rfe.fsbSent ++ [(bus, fsbFrame w)]) ∧
      (at_ ≤ s.tick → (s.fsbBus bus).run ≠ [] → ((s.fsbDue bus).fsbBus bus = { s.fsbBus bus with send := q, wait := c :: (s.fsbBus bus).wait }
        ∨ (s.fsbDue bus).fsbBus bus = { s.fsbBus bus with send := q, wait := (s.fsbBus bus).wait ++ [c] }) ∧ s.frame [.rfe, .free] [] (s.fsbDue bus))) ∧
    (∀ bus w l r, (s.fsbBus bus).run = [] → (s.fsbBus bus).wait = (w :: l) :: r → (∀ x ∈ (s.fsbBus bus).send.head?, s.tick < x.1) →
      ∃ t, exec (.fsbChainStart bus) s = .next t ∧ (t.fsbBus bus).run = w :: l ∧ (t.fsbBus bus).wait = r
        ∧ t.rfe.fsbSent = s.rfe.fsbSent ++ [(bus, fsbFrame w)] ∧ s.frame [.rfe] [] t) ∧
    (∀ bus data par w r, (s.fsbBus bus).run = w :: r →
      ∃ t, exec (.fsbFrameDone bus data par) s = .next t
        ∧ ((∀ x ∈ (s.fsbBus bus).send.head?, s.tick < x.1) → t.fsbBus bus = { s.fsbBus bus with run := r })
        ∧ (∀ at_ c q, (s.fsbBus bus).send = (at_, c) :: q → at_ ≤ s.tick → r = [] → t.fsbBus bus = { s.fsbBus bus with run := c, send := q })
        ∧ (bit w 20 = true → t.get R.RFE_FSBRD.DATA = data.toNat ∧ t.get R.RFE_FSBRD.BUS = bus % 2 ^ R.RFE_FSBRD.BUS.width
            ∧ t.flag R.RFE_FSBRD.PERR = ((popcount data.toNat 8 + (if par then 1 else 0)) % 2 == 0))
        ∧ (bit w 31 = true → t.get R.RFE_FSBCMD.BUSY = 0)
        ∧ s.frame [.rfe, .free] [R.RFE_FSBRD.DATA, R.RFE_FSBRD.BUS, R.RFE_FSBRD.PERR, R.RFE_FSBCMD.BUSY, R.RFE_CNT_FSBPERR.FSBPERR, R.RFE_CNTOVF.OVF] t) ∧
    (∀ w : Word, s.run ≠ runStarting → s.running = false → s.flag R.RFE_FSBCMD.BUSY = false →
      ∃ t, exec (.fsbGo w) s = .next t ∧ t.get R.RFE_FSBCMD.BUSY = 1
        ∧ ((s.fsbBus (R.RFE_FSBCMD.BUS.read w)).run = [] → (t.fsbBus (R.RFE_FSBCMD.BUS.read w)).run = [w.toNat % 2 ^ 21 + 2 ^ 31])
        ∧ ((s.fsbBus (R.RFE_FSBCMD.BUS.read w)).run ≠ [] →
            (t.fsbBus (R.RFE_FSBCMD.BUS.read w)).wait = (s.fsbBus (R.RFE_FSBCMD.BUS.read w)).wait ++ [[w.toNat % 2 ^ 21 + 2 ^ 31]])
        ∧ t.get R.RFE_FSBCMD.DATA = R.RFE_FSBCMD.DATA.read w) ∧
    (∀ w : Word, (s.run = runStarting ∨ s.running = true ∨ s.flag R.RFE_FSBCMD.BUSY = true) →
      ∃ t, exec (.fsbGo w) s = .next t ∧ t.get R.RFE_FSBCMD.REFUSED = 1 ∧ t.rfe = s.rfe)

/-- R42, R44, R355, R356. Completes under conditions on state and operands alone: protectBoundary, alertInputRise, alertInputFall, tripClear, latchClear. Where it speaks of them, it takes the model's choices and readings of log entries 10, 14, 114, 119, 126. -/
def Obligations.AlertsAndProtection : Prop :=
  ∀ s : State,
    let marked (t : State) : Prop := ∀ p < t.part.paths, t.flag (R.RFE_PATH_n.PROT p) = t.protWanted p
    (∀ input held, held < 256 → exec (.alertInputRise input held) s = .next s ∧ exec (.alertInputFall input held) s = .next s) ∧
    (∀ input held, input < 8 → 256 ≤ held → s.tim.running = true →
      (∃ t, exec (.alertInputRise input held) s = .next t ∧ bit (t.get R.RFE_ALERT.LEVEL) input = true ∧ bit (t.get R.RFE_ALERT.LATCH) input = true ∧ marked t) ∧
      (∃ t, exec (.alertInputFall input held) s = .next t ∧ bit (t.get R.RFE_ALERT.LEVEL) input = false ∧ s.frame [] [R.RFE_ALERT.LEVEL] t)) ∧
    (∀ input, input < 8 →
      (bit (s.get R.RFE_ALERT.LEVEL) input = false →
        ∃ t, exec (.latchClear input) s = .next t ∧ bit (t.get R.RFE_ALERT.LATCH) input = false ∧ marked t) ∧
      (bit (s.get R.RFE_ALERT.LEVEL) input = true → exec (.latchClear input) s = .next s)) ∧
    (∀ path, path < s.part.paths → s.tripped path = true →
      ∃ t, exec (.tripClear path) s = .next t ∧ t.tripped path = false ∧ path ∉ t.rfe.lowRl ∧ marked t) ∧
    (∀ bound, ∃ t, exec (.protectBoundary bound) s = .next t ∧ t.rfe.prot = s.rfe.prot.filter (fun x => x.at_ != bound)
      ∧ (∀ x, s.rfe.prot.filter (fun x => x.at_ == bound) = [x] →
          (x.on = true → x.path ∈ t.rfe.protOn ∧ t.get (R.RFE_PATH_n.PSTEP x.path) = s.protStep x.path % 2 ^ (R.RFE_PATH_n.PSTEP x.path).width) ∧
          (x.on = false → x.path ∉ t.rfe.protOn ∧ t.get (R.RFE_PATH_n.PSTEP x.path) = s.get (R.RFE_PATH_n.PSREQ x.path))))

/-- R358, R360 to R363. Completes under conditions on state and operands alone: tineSend, tineStrobe, tineReadback, tineIdleStrobe. Where it speaks of them, it takes the model's choices and readings of log entries 10, 14, 35, 45, 46, 51, 88, 100, 114, 118, 121, 212, 222, 239. -/
def Obligations.TineBus : Prop :=
  ∀ s : State,
    (∀ (a : Act) l, s.fires a = true → s.tineUsed a.unit.toNat = true →
      l = s.rfe.tineHeld.filter (fun h => h.chain == a.unit.toNat && h.at_ == s.actBound a) →
      ∃ t, exec (.tineSend a) s = .next t
        ∧ (t.tineChain a.unit.toNat).onBus = (s.tineChain a.unit.toNat).onBus ++ l.map (fun h => tineFrame 1 h.chip (h.words.length / 16) h.words)
        ∧ t.rfe.tineHeld = s.rfe.tineHeld.filter (fun h => !(h.chain == a.unit.toNat && h.at_ == s.actBound a))
        ∧ s.counted (R.RFE_CNT_TFRAME_k.TFRAME a.unit.toNat) l.length t ∧ (l ≠ [] → t.get (R.RFE_TINE_k.BUSY a.unit.toNat) = 1)) ∧
    (∀ a : Act, s.fires a = true →
      ∃ t, exec (.tineStrobe a) s = .next t ∧ s.frame [.rfe] [] t
        ∧ (∀ k < 16, s.tineUsed k = true → (a.unit.toNat = 0xFF ∨ a.unit.toNat = k) →
            (t.tineChain k).loads = (s.tineChain k).loads ++ [(s.actBound a + signed 14 (bits a.arg.toNat 22 9)).toNat])) ∧
    (∀ chain ret f r, (s.tineChain chain).onBus = f :: r →
      ∃ t, exec (.tineReadback chain ret) s = .next t ∧ (t.tineChain chain).onBus = r ∧ (r = [] → t.get (R.RFE_TINE_k.BUSY chain) = 0)
        ∧ (f ≠ ret → t.get (R.RFE_TINE_k.RBERR chain) = 1 ∧ s.counted (R.RFE_CNT_TRBERR_k.TRBERR chain) 1 t)
        ∧ (f = ret → t.get (R.RFE_TINE_k.RBERR chain) = s.get (R.RFE_TINE_k.RBERR chain))
        ∧ s.frame [.rfe] [R.RFE_TINE_k.BUSY chain, R.RFE_TINE_k.RBERR chain, R.RFE_CNT_TRBERR_k.TRBERR chain, R.RFE_TCNTOVF_k.OVF chain] t) ∧
    (∀ chain, (s.tineChain chain).idle = true →
      ∃ t, exec (.tineIdleStrobe chain) s = .next t ∧ t.tineChain chain = { s.tineChain chain with idle := false, loads := (s.tineChain chain).loads ++ [s.tick] }
        ∧ s.frame [.rfe] [] t)

/-- R369, R373: a bundle issues as one; its operations act when its last one has joined. Where it speaks of them, it takes the model's choices and readings of log entries 7, 14, 114, 144. -/
def Obligations.TileOperationsJoinTheirBundle : Prop :=
  ∀ (s : State) (t : Byte) (last : Bool) (v w : BitVec 5) (r q : BitVec 4) (c d : BitVec 3) (o : Option (BitVec 5)) (a : TAddr) (x y z : VSrc)
      (i j k l : SSrc) (cnt : TCount) (g : AReg) (cond : SCond) (b1 b2 b3 b4 : Bool) (sh : BitVec 5) (key win : BitVec 2) (n : Nat),
    ∀ e ∈ [(Instr.tileLdv t last o a, TOp.ldv o a), (.tileLdb t last o a, .ldb o a), (.tileSld t last r a, .sld r a), (.tileStv t last v a, .stv v a),
           (.tileSst t last r a, .sst r a), (.tileCmac t last c x y b1 b2 b3 b4, .cmac c x y b1 b2 b3 b4), (.tileAccrd t last v c i b1, .accrd v c i b1),
           (.tileAccadd t last c d b1 b2, .accadd c d b1 b2), (.tileAccst t last c a, .accst c a), (.tileAccld t last c a sh b1, .accld c a sh b1),
           (.tileVadd t last v x y, .vadd v x y), (.tileVsub t last v x y, .vsub v x y), (.tileVneg t last v x, .vneg v x),
           (.tileVconj t last v x, .vconj v x), (.tileVshr t last v x i, .vshr v x i), (.tileVshl t last v x i, .vshl v x i),
           (.tileVsel t last v x y r, .vsel v x y r), (.tileVshuf t last v x y, .vshuf v x y), (.tileVmov t last v x, .vmov v x),
           (.tileBfly t last v w x y z b1, .bfly v w x y z b1), (.tileSclr t last b1, .sclr b1), (.tileSmax t last x key, .smax x key),
           (.tileSmin t last x key, .smin x key), (.tileSred t last r q, .sred r q), (.tileSmov t last r i, .smov r i),
           (.tileSadd t last r i j, .sadd r i j), (.tileSsub t last r i j, .ssub r i j), (.tileSand t last r i j, .sand r i j),
           (.tileSor t last r i j, .sor r i j), (.tileSxor t last r i j, .sxor r i j), (.tileSshl t last r i j, .sshl r i j),
           (.tileSshr t last r i j, .sshr r i j), (.tileSclz t last r i, .sclz r i), (.tileScsel t last r cond i j k l, .scsel r cond i j k l),
           (.tileAmov t last g i, .amov g i), (.tileAadd t last g i, .aadd g i), (.tileLoop t last cnt n, .loop cnt n), (.tileRepeat t last cnt, .rep cnt),
           (.tileEnd t last, .done), (.tileNop t last, .nop), (.tileXin t last c r win n, .xin c r win n), (.tileXout t last c r win n, .xout c r win n),
           (.tileXwait t last, .xwait)],
      ((s.tile t.toNat).st = tiRunning → last = false →
        ∃ u, exec e.1 s = .next u ∧ s.tileIs [] [] t { s.tile t.toNat with bundle := (s.tile t.toNat).bundle ++ [e.2] } u) ∧
      ((s.tile t.toNat).st ≠ tiRunning → (s.tile t.toNat).st ≠ tiOff ∨ s.bound = true → exec e.1 s = .next s) ∧
      ((s.tile t.toNat).st = tiOff → s.bound = false → last = false →
        ∃ u, exec e.1 s = .next u ∧ s.tileIs [] [] t { (s.tile t.toNat).fresh tiRunning with bundle := [e.2] } u)

/-- R368, R370, R375, R378. Completes under conditions on state and operands alone: tileSmov, tileSadd, tileSsub, tileSand, tileSor, tileSxor, tileSshl, tileSshr, tileSclz, tileScsel, tileAmov, tileAadd. Where it speaks of them, it takes the model's choices and readings of log entries 14, 114, 144. -/
def Obligations.TileScalarOperations : Prop :=
  ∀ (s : State) (t : Byte) (x : Tile) (d : BitVec 4) (p q l r : SSrc) (c : SCond), s.issues t x →
    (∀ e ∈ [(Instr.tileSmov t true d p, x.src p), (.tileSadd t true d p q, x.src p + x.src q), (.tileSsub t true d p q, x.src p + 2 ^ 32 - x.src q),
            (.tileSand t true d p q, maskAnd (x.src p) (x.src q) 32), (.tileSor t true d p q, maskOr (x.src p) (x.src q) 32),
            (.tileSxor t true d p q, x.src p + x.src q - 2 * maskAnd (x.src p) (x.src q) 32), (.tileSclz t true d p, leadingSign (x.src p)),
            (.tileScsel t true d c l r p q, if c.holds (x.src l) (x.src r) then x.src p else x.src q)],
      ∃ u, exec e.1 s = .next u ∧ s.tileIs [] [] t { x with s := sparseSet 0 x.s d.toNat (e.2 % 2 ^ 32), cyc := x.cyc + 1 } u) ∧
    (x.src q < 32 → ∀ e ∈ [(Instr.tileSshl t true d p q, x.src p * 2 ^ x.src q)],
      ∃ u, exec e.1 s = .next u ∧ s.tileIs [] [] t { x with s := sparseSet 0 x.s d.toNat (e.2 % 2 ^ 32), cyc := x.cyc + 1 } u) ∧
    (x.src q < 32 → bit (x.src p) 31 = false →
      ∃ u, exec (.tileSshr t true d p q) s = .next u
        ∧ s.tileIs [] [] t { x with s := sparseSet 0 x.s d.toNat (x.src p / 2 ^ x.src q % 2 ^ 32), cyc := x.cyc + 1 } u) ∧
    (x.src q < 32 →
      ∃ u w, (w = x.src p / 2 ^ x.src q ∨ w = unsigned 32 (s32 (x.src p) / 2 ^ x.src q)) ∧ exec (.tileSshr t true d p q) s = .next u
        ∧ s.tileIs [] [] t { x with s := sparseSet 0 x.s d.toNat (w % 2 ^ 32), cyc := x.cyc + 1 } u) ∧
    (32 ≤ x.src q → ∀ e ∈ [Instr.tileSshl t true d p q, .tileSshr t true d p q],
      ∃ u w, exec e s = .next u ∧ s.tileIs [] [] t { x with s := sparseSet 0 x.s d.toNat (w % 2 ^ 32), cyc := x.cyc + 1 } u) ∧
    (∀ g : AReg, ∃ u, exec (.tileAmov t true g p) s = .next u ∧ s.tileIs [] [] t { x.setAReg g (s32 (x.src p)) with cyc := x.cyc + 1 } u) ∧
    (∀ g : AReg, ∃ u, exec (.tileAadd t true g p) s = .next u ∧ s.tileIs [] [] t { x.setAReg g (x.aReg g + s32 (x.src p)) with cyc := x.cyc + 1 } u)

/-- R370 to R374, R379. Completes under conditions on state and operands alone: tileCmac, tileAccrd, tileAccadd, tileVadd, tileVsub, tileVneg, tileVconj, tileVshr, tileVshl, tileVsel, tileVshuf, tileBfly, tileSclr, tileSmax, tileSmin, tileSred. Where it speaks of them, it takes the model's choices and readings of log entries 14, 114, 144. -/
def Obligations.TileVectorOperations : Prop :=
  ∀ (s : State) (t : Byte) (x : Tile) (d e : BitVec 5) (p q w : BitVec 5) (a b : BitVec 3), s.issues t x →
    (∀ (sh : SSrc) (m : BitVec 4), ∀ i ∈ [
        (Instr.tileVadd t true d (.v p) (.v q), eachComp2 (fun a b => sat 16 (a + b)) (x.vec p.toNat) (x.vec q.toNat)),
        (.tileVsub t true d (.v p) (.v q), eachComp2 (fun a b => sat 16 (a - b)) (x.vec p.toNat) (x.vec q.toNat)),
        (.tileVneg t true d (.v p), eachComp (fun a => sat 16 (-a)) (x.vec p.toNat)),
        (.tileVconj t true d (.v p), (x.vec p.toNat).map (fun c => (c.1, sat 16 (-c.2)))),
        (.tileVshr t true d (.v p) sh, eachComp (shiftUp (min (x.src sh) 64)) (x.vec p.toNat)),
        (.tileVshl t true d (.v p) sh, eachComp (fun a => sat 16 (a * 2 ^ min (x.src sh) 64)) (x.vec p.toNat)),
        (.tileVsel t true d (.v p) (.v q) m, (List.range 16).map (fun l => if bit (x.sReg m.toNat) l then cAt (x.vec p.toNat) l else cAt (x.vec q.toNat) l)),
        (.tileVshuf t true d (.v p) (.v q), (List.range 16).map (fun l => cAt (x.vec p.toNat) ((cAt (x.vec q.toNat) l).1 % 16).toNat)),
        (.tileVmov t true d (.v p), x.vec p.toNat)],
      ∃ u, exec i.1 s = .next u ∧ s.tileIs [] [] t { x with pend := x.pend ++ [(x.cyc + 4, .v d.toNat i.2)], cyc := x.cyc + 1 } u) ∧
    (∀ sc n bw, n = 15 + (if sc then 1 else 0) → bw = ((x.vec q.toNat).zip (x.vec w.toNat)).map (fun z => cmul z.1 z.2) →
      ∃ u, exec (.tileBfly t true d e (.v p) (.v q) (.v w) sc) s = .next u
        ∧ s.tileIs [] [] t { x with
            pend := x.pend ++ [(x.cyc + 4, .v d.toNat (eachComp2 (fun a b => sat 16 (shiftUp n (a * 2 ^ 15 + b))) (x.vec p.toNat) bw)),
                               (x.cyc + 4, .v e.toNat (eachComp2 (fun a b => sat 16 (shiftUp n (a * 2 ^ 15 - b))) (x.vec p.toNat) bw))],
            cyc := x.cyc + 1 } u) ∧
    (∀ clr neg conj wrap y, y = eachComp2 (fun o y => if neg then o - y else o + y) (if clr then zeroVec else x.accLive a.toNat)
          (((x.vec p.toNat).zip (x.vec q.toNat)).map (fun z => cmul z.1 (if conj then cconj z.2 else z.2))) →
      ∃ u, exec (.tileCmac t true a (.v p) (.v q) clr neg conj wrap) s = .next u ∧ s.tileIs [] [] t { x.setAcc a.toNat (wrap && !s.bound) y with cyc := x.cyc + 1 } u) ∧
    (∀ neg wrap, ∃ u, exec (.tileAccadd t true a b neg wrap) s = .next u
      ∧ s.tileIs [] [] t { x.setAcc a.toNat (wrap && !s.bound) (eachComp2 (fun o y => if neg then o - y else o + y) (x.accLive a.toNat) (x.accLive b.toNat))
          with cyc := x.cyc + 1 } u) ∧
    (∀ (sh : SSrc) w16, x.src sh ≤ 31 → ∃ u, exec (.tileAccrd t true d a sh w16) s = .next u
      ∧ s.tileIs [] [] t { x with
          pend := x.pend ++ [(x.cyc + 4, .v d.toNat (eachComp (fun v => sat (if w16 then 16 else 14) (shiftUp (x.src sh) v)) (x.accRead a.toNat)))],
          cyc := x.cyc + 1 } u) ∧
    (∀ (sh : SSrc) w16, 31 < x.src sh → ∃ u y, exec (.tileAccrd t true d a sh w16) s = .next u
      ∧ s.tileIs [] [] t { x with pend := x.pend ++ [(x.cyc + 4, .v d.toNat y)], cyc := x.cyc + 1 } u) ∧
    (∀ mx, ∃ u, exec (.tileSclr t true mx) s = .next u
      ∧ s.tileIs [] [] t { x with searchMax := mx, keys := List.replicate 16 none, idxs := List.replicate 16 0, issue := 0, cyc := x.cyc + 1 } u) ∧
    (∀ key : BitVec 2, (∃ u, exec (.tileSmax t true (.v p) key) s = .next u ∧ s.tileIs [] [] t { x.search true key.toNat (x.vec p.toNat) with cyc := x.cyc + 1 } u) ∧
      (∃ u, exec (.tileSmin t true (.v p) key) s = .next u ∧ s.tileIs [] [] t { x.search false key.toNat (x.vec p.toNat) with cyc := x.cyc + 1 } u)) ∧
    (∀ k i : BitVec 4, ∃ u, exec (.tileSred t true k i) s = .next u
      ∧ s.tileIs [] [] t { x with pend := x.pend ++ [(x.cyc + 4, .s k.toNat (unsigned 32 x.best.1)), (x.cyc + 4, .s i.toNat x.best.2)], cyc := x.cyc + 1 } u)

/-- R366, R367, R370, R375. Completes under conditions on state and operands alone: tileLdv, tileLdb, tileSld, tileStv, tileSst, tileAccst, tileAccld, tileVmov. Where it speaks of them, it takes the model's choices and readings of log entries 12, 14, 114, 139, 144. -/
def Obligations.TileLoadsAndStores : Prop :=
  ∀ (s : State) (t : Byte) (x : Tile) (a : TAddr), s.issues t x →
    let ad := if a.mode = .none then x.ad else sparseSet 0 x.ad a.ad.toNat (x.postMod a)
    (s.mem.poison = [] →
      (∀ d : BitVec 5, ∃ u, exec (.tileLdv t true (some d) a) s = .next u
        ∧ s.tileIs [] [] t { x with pend := x.pend ++ [(x.cyc + 3, .v d.toNat (vecOf (s.localRead t.toNat (x.access a 64) 64)))], ad := ad, cyc := x.cyc + 1 } u) ∧
      (∀ d : BitVec 5, ∃ u, exec (.tileLdb t true (some d) a) s = .next u
        ∧ s.tileIs [] [] t { x with
            pend := x.pend ++ [(x.cyc + 3, .v d.toNat (let b := s.localRead t.toNat (x.access a 4) 4
              List.replicate 16 (signed 16 (leAt b 0 2), signed 16 (leAt b 2 2))))],
            ad := ad, cyc := x.cyc + 1 } u) ∧
      (∀ d : BitVec 4, ∃ u, exec (.tileSld t true d a) s = .next u
        ∧ s.tileIs [] [] t { x with pend := x.pend ++ [(x.cyc + 3, .s d.toNat (leNat (s.localRead t.toNat (x.access a 4) 4)))], ad := ad, cyc := x.cyc + 1 } u) ∧
      (∀ (d : BitVec 3) (sh : BitVec 5) wrap, ∃ u, exec (.tileAccld t true d a sh wrap) s = .next u
        ∧ s.tileIs [] [] t { (x.setAcc d.toNat (wrap && !s.bound) (eachComp (fun v => v * 2 ^ sh.toNat) (accOf (s.localRead t.toNat (x.access a 64) 256))))
            with ad := ad, cyc := x.cyc + 1 } u) ∧
      (∀ d : BitVec 5, ∃ v u, exec (.tileLdv t false none a) s = .next v ∧ exec (.tileVmov t true d .loadA) v = .next u
        ∧ s.tileIs [] [] t { x with pend := x.pend ++ [(x.cyc + 4, .v d.toNat (vecOf (s.localRead t.toNat (x.access a 64) 64)))], ad := ad, cyc := x.cyc + 1 } u)) ∧
    (s.localBad t.toNat (x.access a 64) 64 = true → ∀ d : Option (BitVec 5),
      ∃ u, exec (.tileLdv t true d a) s = .next u ∧ (u.tile t.toNat).st = tiHalted ∧ (u.tile t.toNat).eccu = true ∧ s.counted R.TIL_CNT_ECCU.ECCU 1 u
        ∧ s.counted R.TIL_CNT_HALT.HALT 1 u ∧ s.frame [.tiles, .free] [R.TIL_CNT_ECCU.ECCU, R.TIL_CNT_HALT.HALT, R.TIL_CNTOVF.OVF] u) ∧
    (s.protLen t.toNat ≤ x.access a 64 → x.access a 64 < localBytes →
      (∀ r : BitVec 5, ∃ u, exec (.tileStv t true r a) s = .next u ∧ s.tileIs [.mem] [] t { x with ad := ad, cyc := x.cyc + 1 } u
        ∧ s.granTakes (t.toNat * localBytes + x.access a 64) (vecBytes (x.vec r.toNat)) u) ∧
      (∀ r : BitVec 3, x.access a 64 + 256 ≤ localBytes ∨ s.protLen t.toNat = 0 →
        ∃ u, exec (.tileAccst t true r a) s = .next u ∧ s.tileIs [.mem] [] t { x with ad := ad, cyc := x.cyc + 1 } u
          ∧ (x.access a 64 + 256 ≤ localBytes → s.granTakes (t.toNat * localBytes + x.access a 64) (accBytes (x.accRead r.toNat)) u)) ∧
      (∀ r : BitVec 3, localBytes < x.access a 64 + 256 → 0 < s.protLen t.toNat →
        ∃ u, exec (.tileAccst t true r a) s = .next u ∧ (u.tile t.toNat).st = tiHalted ∧ (u.tile t.toNat).protfault = true ∧ u.mem = s.mem
          ∧ s.counted R.TIL_CNT_HALT.HALT 1 u ∧ s.frame [.tiles, .free] [R.TIL_CNT_HALT.HALT, R.TIL_CNTOVF.OVF] u)) ∧
    (s.protLen t.toNat ≤ x.access a 4 → x.access a 4 < localBytes →
      ∀ r : BitVec 4, ∃ u, exec (.tileSst t true r a) s = .next u ∧ s.tileIs [.mem] [] t { x with ad := ad, cyc := x.cyc + 1 } u
        ∧ s.granTakes (t.toNat * localBytes + x.access a 4) (leBytes 4 (x.sReg r.toNat)) u) ∧
    (x.access a 64 < s.protLen t.toNat → ∀ (r : BitVec 5) (q : BitVec 3), ∀ i ∈ [Instr.tileStv t true r a, .tileAccst t true q a],
      ∃ u, exec i s = .next u ∧ (u.tile t.toNat).st = tiHalted ∧ (u.tile t.toNat).protfault = true ∧ u.mem = s.mem
        ∧ s.counted R.TIL_CNT_HALT.HALT 1 u ∧ s.frame [.tiles, .free] [R.TIL_CNT_HALT.HALT, R.TIL_CNTOVF.OVF] u) ∧
    (x.access a 4 < s.protLen t.toNat → ∀ r : BitVec 4,
      ∃ u, exec (.tileSst t true r a) s = .next u ∧ (u.tile t.toNat).st = tiHalted ∧ (u.tile t.toNat).protfault = true ∧ u.mem = s.mem
        ∧ s.counted R.TIL_CNT_HALT.HALT 1 u ∧ s.frame [.tiles, .free] [R.TIL_CNT_HALT.HALT, R.TIL_CNTOVF.OVF] u)

/-- R369, R373, R376 to R378, R380, R381, R383, R384. Completes under conditions on state and operands alone: xferDone, tileLoop, tileRepeat, tileEnd, tileNop, tileXin, tileXout, tileXwait. Where it speaks of them, it takes the model's choices and readings of log entries 12, 14, 114, 143, 144, 145. -/
def Obligations.TileSequencingAndStreams : Prop :=
  ∀ (s : State) (t : Byte),
    (∀ x : Tile, s.issues t x →
      (∃ u, exec (.tileNop t true) s = .next u ∧ s.tileIs [] [] t { x with cyc := x.cyc + 1 } u) ∧
      (∃ u, exec (.tileEnd t true) s = .next u
        ∧ s.tileIs [] [] t { x with st := if s.bound then tiIdle else tiOff, ended := true, cycles := x.cyc + 1, cyc := x.cyc + 1, pend := [] } u) ∧
      (∃ u, exec (.tileXwait t true) s = .next u ∧ s.tileIs [] [] t { x with cyc := x.cyc + 1, waiting := x.queue.any (fun q => decide (x.cyc < q.doneAt)) } u) ∧
      (∀ (ad : BitVec 3) (off : BitVec 4) (win : BitVec 2) n, (x.queue.filter (fun q => decide (x.cyc ≤ q.doneAt))).length < 4 →
        ∀ e ∈ [(Instr.tileXin t true ad off win n, true), (.tileXout t true ad off win n, false)],
        (∀ g, s.windowAddr x.kernel win.toNat (x.sReg off.toNat / 8 * 8) n (!e.2) = some g →
          ∃ u q, exec e.1 s = .next u ∧ s.tileIs [] [] t { x with queue := x.queue ++ [q], cyc := x.cyc + 1 } u
            ∧ q.inbound = e.2 ∧ q.local_ = sparseGet 0 x.ad ad.toNat / 8 * 8 ∧ q.shared = g ∧ q.words = n ∧ q.moved = 0
            ∧ q.doneAt = (match x.queue.getLast? with | some y => max y.doneAt x.cyc | none => x.cyc) + 64 + n) ∧
        (s.windowAddr x.kernel win.toNat (x.sReg off.toNat / 8 * 8) n (!e.2) = none →
          ∃ u, exec e.1 s = .next u ∧ (u.tile t.toNat).st = tiHalted ∧ (u.tile t.toNat).winfault = true ∧ s.counted R.TIL_CNT_HALT.HALT 1 u
            ∧ s.frame [.tiles, .free] [R.TIL_CNT_HALT.HALT, R.TIL_CNTOVF.OVF] u))) ∧
    ((s.tile t.toNat).st = tiRunning → (s.tile t.toNat).bundle = [] → (s.tile t.toNat).need = 0 → ∀ (c : TCount) (n : Nat),
      (∃ u, exec (.tileLoop t true c (n + 1)) s = .next u ∧ s.tileIs [] [] t { s.tile t.toNat with code := [[.loop c (n + 1)]], need := n + 1 } u) ∧
      (∃ u, exec (.tileRepeat t true c) s = .next u ∧ s.tileIs [] [] t { s.tile t.toNat with code := [[.rep c]], need := 1 } u)) ∧
    (∀ c, (s.tile t.toNat).need = 1 → (s.tile t.toNat).st = tiRunning → (s.tile t.toNat).bundle = [] → (s.tile t.toNat).todo = [] →
      (s.tile t.toNat).waiting = false → (s.tile t.toNat).queue = [] →
      let runs (e : Instr) (n : Nat) : Prop := ∃ u, exec e s = .next u ∧ (u.tile t.toNat).cyc = (s.tile t.toNat).cyc + n
        ∧ (u.tile t.toNat).need = 0 ∧ (u.tile t.toNat).code = [] ∧ (u.tile t.toNat).st = tiRunning ∧ s.frame [.tiles, .free] [] u
      ((s.tile t.toNat).code = [[.loop c 1]] →
        runs (.tileNop t true) (if countOk (s.kMaxOf t.toNat) c then (s.tile t.toNat).count c else 0)) ∧
      (∀ (d : BitVec 4) (p : SSrc), (s.tile t.toNat).code = [[.rep c]] →
        runs (.tileSmov t true d p) (if countOk (s.kMaxOf t.toNat) c then 1 + (s.tile t.toNat).count c else 0))) ∧
    (∀ q r lo g n, (s.tile t.toNat).queue = q :: r → lo = q.local_ + 8 * q.moved → g = q.shared + 8 * q.moved → n = 8 * (q.words - q.moved) →
      0 < n →
      (q.inbound = true → s.protLen t.toNat ≤ lo → lo + n ≤ localBytes → (s.tile t.toNat).todo = [] → s.granPoisoned g n = false →
        ∃ u, exec (.xferDone t) s = .next u ∧ (u.tile t.toNat).queue = r ∧ (u.tile t.toNat).st = (s.tile t.toNat).st
          ∧ s.granTakes (t.toNat * localBytes + lo) (s.granBytes g n) u ∧ s.frame [.tiles, .mem] [] u) ∧
      (q.inbound = false → lo + n ≤ localBytes → (s.tile t.toNat).todo = [] → s.mem.poison = [] →
        ∃ u, exec (.xferDone t) s = .next u ∧ (u.tile t.toNat).queue = r ∧ (u.tile t.toNat).st = (s.tile t.toNat).st
          ∧ (¬ (0x2000000 ≤ g ∧ g < 0x2400000) →
              s.granTakes g (s.granBytes (t.toNat * localBytes + lo) n) u ∧ s.frame [.tiles, .mem] [] u)
          ∧ (0x2000000 ≤ g ∧ g < 0x2400000 →
              u.rxc = { s.rxc with cacheHeld := s.rxc.cacheHeld ++ [(g, s.granBytes (t.toNat * localBytes + lo) n)] } ∧ s.frame [.tiles, .rxc] [] u)) ∧
      (q.inbound = true → lo < s.protLen t.toNat → s.granPoisoned g n = false →
        ∃ u, exec (.xferDone t) s = .next u ∧ (u.tile t.toNat).queue = r ∧ (u.tile t.toNat).st = tiHalted ∧ (u.tile t.toNat).protfault = true
          ∧ s.counted R.TIL_CNT_HALT.HALT 1 u ∧ s.frame [.tiles] [R.TIL_CNT_HALT.HALT, R.TIL_CNTOVF.OVF] u)) ∧
    (∀ q r, (s.tile t.toNat).queue = q :: r → q.words ≤ q.moved → (s.tile t.toNat).todo = [] →
      ∃ u, exec (.xferDone t) s = .next u ∧ (u.tile t.toNat).queue = r ∧ (u.tile t.toNat).st = (s.tile t.toNat).st ∧ s.frame [.tiles] [] u)

/-- R145, R367, R373, R384, R385, R387. Completes under conditions on state and operands alone: kernelStart, kernelCheck, tileResume. Where it speaks of them, it takes the model's choices and readings of log entries 7, 12, 14, 114, 156, 186, 222, 224, 242. -/
def Obligations.KernelStartsAndChecks : Prop :=
  ∀ (s : State) (a : Act), s.fires a = true →
    let x := s.tile a.unit.toNat
    let k := bits a.arg.toNat 11 0
    (∀ (check : Act) later, (x.st = tiIdle ∨ x.st = tiRunning ∨ x.st = tiHalted) → x.failed = false → leAt (s.kernelEntry k) 3 1 ≠ 1 →
      ∃ u y, exec (.kernelStart a check later) s = .next u ∧ s.tileIs [] [] a.unit y u ∧ y.st = tiRunning ∧ y.kernel = k ∧ y.cyc = 0 ∧ y.ended = false ∧ y.missed = false
        ∧ y.v = [] ∧ y.acc = [] ∧ y.accv = [] ∧ y.s = [] ∧ y.ad = [] ∧ y.pend = [] ∧ y.queue = [] ∧ y.kovf = x.kovf ∧ y.ovf = x.ovf
        ∧ y.startSub = s.subStart s.tick ∧ y.c0 = ((s.tick - s.subStart s.tick + 2) * 3125 + 1023) / 1024
        ∧ (∀ i < 8, sparseGet 0 y.k i = s.param (leAt (s.kernelEntry k) 12 4 + 8 * bits a.arg.toNat 22 12 + i))) ∧
    (∀ (check : Act) later at_, (x.st = tiIdle ∨ x.st = tiRunning ∨ x.st = tiHalted) → x.failed = false → leAt (s.kernelEntry k) 3 1 = 1 →
      check.car.toNat < 4 → s.checkSyms check (if later then subTicks else 0) = [at_] → (s.symRec check.car.toNat at_).begun = false →
      ∃ u, exec (.kernelStart a check later) s = .next u ∧ (u.tile a.unit.toNat).st = tiRunning ∧ (u.tile a.unit.toNat).kernel = k
        ∧ (u.symRec check.car.toNat at_).begun = true
        ∧ (u.symRec check.car.toNat at_).freq = s.precode s.sectWeights check.car.toNat at_ ∧ s.frame [.tiles, .txc, .tim] [] u) ∧
    (∀ (check : Act) later, (x.st = tiSuspended ∨ x.st = tiFailed) →
      ∃ u, exec (.kernelStart a check later) s = .next u ∧ s.counted R.TIL_CNT_SUPPR.SUPPR 1 u
        ∧ s.tileIs [] [R.TIL_CNT_SUPPR.SUPPR, R.TIL_CNTOVF.OVF] a.unit { x with missed := true } u) ∧
    (∀ (check : Act) later, x.st = tiOff → exec (.kernelStart a check later) s = .next s) ∧
    (∀ (check : Act) later, (x.st = tiIdle ∨ x.st = tiRunning ∨ x.st = tiHalted) → x.failed = true →
      ∃ u, exec (.kernelStart a check later) s = .next u ∧ (u.tile a.unit.toNat).st = tiHalted ∧ (u.tile a.unit.toNat).eccu = true
        ∧ (u.tile a.unit.toNat).kernel = k ∧ s.counted R.TIL_CNT_ECCU.ECCU 1 u ∧ s.counted R.TIL_CNT_HALT.HALT 1 u) ∧
    (leAt (s.kernelEntry k) 3 1 = 1 → a.car.toNat < 4 →
      ∃ u, exec (.kernelCheck a) s = .next u ∧ ∀ at_ ∈ s.checkSyms a 0, (u.symRec a.car.toNat at_).ready = true) ∧
    (leAt (s.kernelEntry k) 3 1 ≠ 1 → (x.st = tiSuspended ∨ x.st = tiFailed ∨ (x.missed = true ∧ x.st ≠ tiOff)) →
      exec (.kernelCheck a) s = .next ((s.setTile a.unit.toNat { x with missed := false }).replaceOut a)) ∧
    ((x.st = tiIdle ∨ x.st = tiRunning ∨ x.st = tiHalted) → x.missed = false → leAt (s.kernelEntry k) 3 1 ≠ 1 → s.checkOk x k = true →
      ∃ u, exec (.kernelCheck a) s = .next u ∧ u.tile a.unit.toNat = { x with kovf := 0 }
        ∧ sparseGet 0 u.shf.kovf k = min (sparseGet 0 s.shf.kovf k + x.kovf) (2 ^ 31 - 1) ∧ s.frame [.tiles, .shf] [] u) ∧
    ((x.st = tiIdle ∨ x.st = tiRunning ∨ x.st = tiHalted) → x.missed = false → leAt (s.kernelEntry k) 3 1 ≠ 1 → s.checkOk x k = false →
      ∃ u, exec (.kernelCheck a) s = .next u ∧ (u.tile a.unit.toNat).st = (if x.failed then tiFailed else tiSuspended) ∧ s.counted R.SHF_CNT_TILEBRK.TILEBRK 1 u
        ∧ (∀ b, a.unit.toNat * localBytes + s.protLen a.unit.toNat ≤ b → b < (a.unit.toNat + 1) * localBytes → sparseGet 0 u.mem.gran b = 0)
        ∧ (∀ b, b < a.unit.toNat * localBytes + s.protLen a.unit.toNat ∨ (a.unit.toNat + 1) * localBytes ≤ b →
            sparseGet 0 u.mem.gran b = sparseGet 0 s.mem.gran b)) ∧
    (∀ tile : Byte, (s.tile tile.toNat).st = tiSuspended →
      ∃ u, exec (.tileResume tile) s = .next u ∧ s.tileIs [] [] tile { s.tile tile.toNat with st := tiIdle } u)

/-- R28, R392, R413, R415, R418, R420, R426, R427, R432, R433. Completes under conditions on state and operands alone: dmaOpen, dmaClose, dmaGo, dmaClear, descriptorStore, descriptorRead. Where it speaks of them, it takes the model's choices and readings of log entries 10, 12, 14, 110, 111, 114, 222, 274. -/
def Obligations.DmaChannelsStartAndStop : Prop :=
  ∀ s : State,
    (∀ a : Act, s.fires a = true → s.scheduled a.unit.toNat = true → ∀ n, n = a.unit.toNat →
      (∃ t, exec (.dmaOpen a) s = .next t ∧ t.chState n = chRunning ∧ t.get (R.DMA_CHSTAT_n.LAST_VALID n) = 0
        ∧ t.chan n = { slotOpen := true, next := bits a.arg.toNat 13 0, cur := none, pos := 0, tries := 0 }
        ∧ s.counted R.DMA_CNT_HALT.HALT (if s.chState n = chHalted then 1 else 0) t
        ∧ s.frame [.dma] [R.DMA_CHSTAT_n.STATE n, R.DMA_CHSTAT_n.LAST_VALID n, R.DMA_CNT_HALT.HALT, R.DMA_CNTOVF.OVF] t) ∧
      ((s.chState n = chIdle ∨ s.chState n = chHalted) →
        ∃ t, exec (.dmaClose a) s = .next t ∧ (t.chan n).slotOpen = false ∧ (t.chan n).cur = none ∧ s.frame [.dma] [] t) ∧
      ((s.chState n = chRunning ∨ s.chState n = chBarrier) →
        ∃ t, exec (.dmaClose a) s = .next t ∧ t.chState n = chIdle ∧ t.get (R.DMA_CHSTAT_n.CUT n) = 1 ∧ s.counted R.DMA_CNT_CUT.CUT 1 t
          ∧ (t.chan n).slotOpen = false
          ∧ s.frame [.dma] [R.DMA_CHSTAT_n.STATE n, R.DMA_CHSTAT_n.CUT n, R.DMA_CNT_CUT.CUT, R.DMA_CNTOVF.OVF] t)) ∧
    (∀ n, n < 16 →
      (s.scheduled n = false → s.chState n = chIdle →
        ∃ t, exec (.dmaGo n) s = .next t ∧ t.chState n = chRunning ∧ (t.chan n).next = s.get (R.DMA_CHCTL_n.HEAD n) ∧ (t.chan n).cur = none
          ∧ s.frame [.dma] [R.DMA_CHSTAT_n.STATE n, R.DMA_CHSTAT_n.LAST_VALID n] t) ∧
      ((s.scheduled n = false ∧ s.chState n ≠ chIdle) ∨ (s.scheduled n = true ∧ s.running = false) →
        ∃ t, exec (.dmaGo n) s = .next t ∧ t.get (R.DMA_CHCTL_n.REFUSED n) = 1 ∧ s.frame [] [R.DMA_CHCTL_n.REFUSED n] t) ∧
      (s.scheduled n = true → s.running = true → exec (.dmaGo n) s = .next s) ∧
      (s.chState n = chHalted → ¬ (s.scheduled n = true ∧ s.running = true) →
        ∃ t, exec (.dmaClear n) s = .next t ∧ t.chState n = chIdle ∧ s.frame [] [R.DMA_CHSTAT_n.STATE n] t) ∧
      (s.chState n ≠ chHalted ∨ (s.scheduled n = true ∧ s.running = true) → exec (.dmaClear n) s = .next s)) ∧
    (∀ hi : BitVec 32,
      (s.dmaCount ≤ s.get R.DMA_DWIN_SEL.INDEX →
        ∃ t, exec (.descriptorStore hi) s = .next t
          ∧ s.granTakes (descBase + 32 * s.get R.DMA_DWIN_SEL.INDEX + 8 * s.get R.DMA_DWIN_SEL.WORD)
              (leBytes 4 (s.get R.DMA_DWIN_LO.LO) ++ leBytes 4 hi.toNat) t
          ∧ s.frame [.mem] [] t) ∧
      (s.get R.DMA_DWIN_SEL.INDEX < s.dmaCount →
        ∃ t, exec (.descriptorStore hi) s = .next t ∧ t.get R.DMA_STAT.DWIN_REFUSED = 1 ∧ s.frame [] [R.DMA_STAT.DWIN_REFUSED] t)) ∧
    (s.granPoisoned (descBase + 32 * s.get R.DMA_DWIN_SEL.INDEX + 8 * s.get R.DMA_DWIN_SEL.WORD) 8 = true → exec .descriptorRead s = .next s) ∧
    (∀ a w, a = descBase + 32 * s.get R.DMA_DWIN_SEL.INDEX + 8 * s.get R.DMA_DWIN_SEL.WORD → w = leNat (s.granBytes a 8) → s.granPoisoned a 8 = false →
      ∃ t, exec .descriptorRead s = .next t ∧ t.get R.DMA_DWIN_RDLO.LO = w % 2 ^ 32 ∧ t.get R.DMA_DWIN_RDHI.HI = w / 2 ^ 32 % 2 ^ 32
        ∧ s.frame [] [R.DMA_DWIN_RDLO.LO, R.DMA_DWIN_RDHI.HI] t)

/-- R424, R425, R433. Completes under conditions on state and operands alone: ringLengthWrite, ringAck. Where it speaks of them, it takes the model's choices and readings of log entries 10, 14, 108, 114. -/
def Obligations.DmaRings : Prop :=
  ∀ (s : State) (n : Nat) (len : BitVec 30), n < 16 →
    ((len.toNat = 0 ∨ (256 ≤ len.toNat ∧ len.toNat % 8 = 0)) → ¬ (s.scheduled n = true ∧ s.dmaRlen n < len.toNat) →
      ∃ t, exec (.ringLengthWrite n len) s = .next t ∧ t.get (R.DMA_RLEN_n.LEN n) = len.toNat
        ∧ (s.get (R.DMA_RCUR_n.LEN n) ≠ 0 → t.get (R.DMA_RLEN_n.PEND n) = 1 ∧ t.get (R.DMA_RCUR_n.LEN n) = s.get (R.DMA_RCUR_n.LEN n)
            ∧ s.frame [] [R.DMA_RLEN_n.LEN n, R.DMA_RLEN_n.PEND n] t)
        ∧ (s.get (R.DMA_RCUR_n.LEN n) = 0 → t.get (R.DMA_RLEN_n.PEND n) = 0 ∧ t.get (R.DMA_RCUR_n.LEN n) = len.toNat
            ∧ t.get (R.DMA_RPEND_n.END n) = len.toNat)) ∧
    ((len.toNat = 0 ∨ (256 ≤ len.toNat ∧ len.toNat % 8 = 0)) → s.scheduled n = true → s.dmaRlen n < len.toNat →
      ∃ t, exec (.ringLengthWrite n len) s = .next t ∧ t.get (R.DMA_CHCTL_n.REFUSED n) = 1 ∧ s.frame [] [R.DMA_CHCTL_n.REFUSED n] t) ∧
    (¬ (len.toNat = 0 ∨ (256 ≤ len.toNat ∧ len.toNat % 8 = 0)) → exec (.ringLengthWrite n len) s = .next s) ∧
    (len.toNat % 8 = 0 → len.toNat ≤ s.ringUnread n →
      ∃ t, exec (.ringAck n len) s = .next t
        ∧ (s.get (R.DMA_RPTR_n.RPTR n) + len.toNat < s.get (R.DMA_RPEND_n.END n) →
            t.get (R.DMA_RPTR_n.RPTR n) = s.get (R.DMA_RPTR_n.RPTR n) + len.toNat ∧ s.frame [] [R.DMA_RPTR_n.RPTR n] t)
        ∧ (s.get (R.DMA_RPEND_n.END n) ≤ s.get (R.DMA_RPTR_n.RPTR n) + len.toNat → 0 < len.toNat →
            t.get (R.DMA_RPTR_n.RPTR n) = (s.get (R.DMA_RPTR_n.RPTR n) + len.toNat - s.get (R.DMA_RPEND_n.END n)) % 2 ^ 30
              ∧ t.get (R.DMA_RPEND_n.END n) = s.get (R.DMA_RCUR_n.LEN n) ∧ s.frame [] [R.DMA_RPTR_n.RPTR n, R.DMA_RPEND_n.END n] t)) ∧
    (len.toNat % 8 = 0 → s.ringUnread n < len.toNat →
      ∃ t, exec (.ringAck n len) s = .next t ∧ t.get (R.DMA_CHCTL_n.REFUSED n) = 1 ∧ s.frame [] [R.DMA_CHCTL_n.REFUSED n] t)

/-- R399, R407, R413, R414, R417, R419, R421, R424, R430, R431. Completes under conditions on state and operands alone: dmaBurst, barrierRelease. Where it speaks of them, it takes the model's choices and readings of log entries 10, 12, 14, 50, 105, 106, 107, 114, 275, 279. -/
def Obligations.DmaBurstsAndBarriers : Prop :=
  ∀ s : State,
    (∀ free ecc lane, s.dmaPick free = none → exec (.dmaBurst free ecc lane) s = .next s) ∧
    (∀ free ecc lane n i d k dst, n < 16 → s.dmaPick free = some n → (s.chan n).cur = some (i, d) → s.chState n = chRunning → dKind d = 0 →
      dSrcSp d = 0 → dDstSp d = 0 → dDescending d = false → (s.chan n).pos < dLen d →
      dst = dDst d + (s.chan n).pos → k = min (dLen d - (s.chan n).pos) (128 - dst % 128) →
      (∀ j < k, s.dmaRegion (s.scheduled n) 0 (dSrc d + (s.chan n).pos + j) = true ∧ s.dmaRegion (s.scheduled n) 0 (dst + j) = true
        ∧ s.granPoisoned (dSrc d + (s.chan n).pos + j) 1 = false) →
      ∃ t, exec (.dmaBurst free ecc lane) s = .next t ∧ s.granTakes dst (s.granBytes (dSrc d + (s.chan n).pos) k) t
        ∧ ((s.chan n).pos + k < dLen d → t.chState n = chRunning ∧ (t.chan n).cur = some (i, d) ∧ (t.chan n).pos = (s.chan n).pos + k
            ∧ s.frame [.dma, .mem] [] t)
        ∧ (dLen d ≤ (s.chan n).pos + k → dEnd d = true → s.granPoisoned (descBase + 32 * i) 8 = true →
            t.chState n = chHalted ∧ t.get (R.DMA_CHERR_n.CODE n) = haltPoison ∧ (t.chan n).cur = none)
        ∧ (dLen d ≤ (s.chan n).pos + k → (dEnd d = true → s.granPoisoned (descBase + 32 * i) 8 = false) →
            s.counted (R.DMA_CNT_DESC_n.DESC n) 1 t ∧ t.get (R.DMA_CHSTAT_n.LAST n) = i % 2 ^ 14
            ∧ t.get (R.DMA_CHSTAT_n.LAST_VALID n) = 1 ∧ (t.chan n).cur = none
            ∧ (dEnd d = false → t.chState n = chRunning ∧ (t.chan n).next = dNext d)
            ∧ s.frame [.dma, .mem] [R.DMA_CNT_DESC_n.DESC n, R.DMA_CNTOVF_n.OVF n, R.DMA_CHSTAT_n.LAST n, R.DMA_CHSTAT_n.LAST_VALID n,
                R.DMA_CHSTAT_n.STATE n] t)) ∧
    (∀ free lane n i d ps, n < 16 → s.dmaPick free = some n → (s.chan n).cur = some (i, d) → s.chState n = chRunning →
      (dSrcSp d = 1 ∨ dDstSp d = 1) → (s.scheduled n = true ∨ s.slotOpenTo free d = true) →
      (dKind d = 2 → dLen d - (s.chan n).pos + 8 ≤ s.get (R.DMA_RCUR_n.LEN n) ∧ dLen d - (s.chan n).pos ≤ s.ringFree n) → ps = s.dmaPairs n d (s.chan n).pos → s.dramOk = true →
      (∀ a ∈ dmaSources d ps, s.dmaRegion (s.scheduled n) (dSrcSp d) a = true ∧ s.granPoisoned a 1 = false) →
      (∀ p ∈ ps, s.dmaRegion (s.scheduled n) (dDstSp d) p.2 = true) → (s.chan n).tries < s.get R.DMA_CFG.RETRY →
      ∃ t, exec (.dmaBurst free .uncorrectable lane) s = .next t ∧ s.counted R.DMA_CNT_RETRY.RETRY 1 t
        ∧ s.counted (R.MEM_CNT_DECCU_k.DECCU (lane % 8)) 1 t ∧ s.counted R.MEM_CNT_DERR.DERR 1 t ∧ (t.chan n).tries = (s.chan n).tries + 1 ∧ (t.chan n).cur = some (i, d)
        ∧ (t.chan n).pos = (s.chan n).pos ∧ t.chState n = chRunning ∧ t.mem.gran = s.mem.gran ∧ t.mem.dram = s.mem.dram
        ∧ t.mem.dramNew = s.mem.dramNew ∧ t.mem.dramGen = s.mem.dramGen) ∧
    ((∀ k < 16, s.barrierMet k = false) → exec .barrierRelease s = .next s) ∧
    (∀ n i d, (List.range 16).filter s.barrierMet = [n] → (s.chan n).cur = some (i, d) → dEnd d = false →
      ∃ t, exec .barrierRelease s = .next t ∧ t.chState n = chRunning ∧ (t.chan n).next = dNext d ∧ (t.chan n).cur = none
        ∧ t.get (R.DMA_CHSTAT_n.LAST n) = i % 2 ^ 14 ∧ s.counted (R.DMA_CNT_DESC_n.DESC n) 1 t
        ∧ s.frame [.dma] [R.DMA_CNT_DESC_n.DESC n, R.DMA_CNTOVF_n.OVF n, R.DMA_CHSTAT_n.LAST n, R.DMA_CHSTAT_n.LAST_VALID n, R.DMA_CHSTAT_n.STATE n] t)

/-- R400 to R406, R408, R409, R412, R68. Completes under conditions on state and operands alone: dramTrainingDone, refreshWindow, mr4Poll, dramRetrainDone, selfRefreshExit, dramFullTrainingDone, dramTrain, selfRefreshEntry. Where it speaks of them, it takes the model's choices and readings of log entries 5, 10, 14, 43, 67, 91, 95, 96, 97, 98, 99, 100, 101, 103, 114, 222. -/
def Obligations.DramTrainingAndRefresh : Prop :=
  ∀ s : State,
    (∀ size lanes, s.get R.SYS_BOOTSTAT.STAGE = 4 →
      ∃ t, exec (.dramTrainingDone size lanes) s = .next t ∧ t.get R.MEM_CFG.SIZE = size.toNat ∧ t.get R.SYS_BOOTSTAT.STAGE = 5
        ∧ t.get R.MEM_DSTAT.LANE_FAIL = badLanes lanes % 256 ∧ t.get R.MEM_DSTAT.STATE = (if badLanes lanes = 0 then 2 else 4)
        ∧ (badLanes lanes ≠ 0 → t.get R.SYS_BOOTSTAT.DRAM_FAIL = 1) ∧ t.get R.LNK_PSTAT.UP_STATE = 1) ∧
    (∀ lanes, s.get R.MEM_DSTAT.STATE = 1 → 5 ≤ s.get R.SYS_BOOTSTAT.STAGE →
      ∃ t, exec (.dramFullTrainingDone lanes) s = .next t ∧ t.get R.MEM_DSTAT.LANE_FAIL = badLanes lanes % 256
        ∧ t.get R.MEM_DSTAT.STATE = (if badLanes lanes = 0 then 2 else 4) ∧ (badLanes lanes = 0 → t.get R.SYS_BOOTSTAT.DRAM_FAIL = 0)) ∧
    (s.dramOk = true →
      ∃ t, exec .dramTrain s = .next t ∧ t.get R.MEM_DSTAT.RETRAIN = 1 ∧ t.mem.srAt = none
        ∧ (s.mem.srAt = none → s.frame [] [R.MEM_DSTAT.RETRAIN] t)) ∧
    (s.dramFailed = true → (s.run = runEmpty ∨ s.run = runReady ∨ s.run = runFaulted) →
      ∃ t, exec .dramTrain s = .next t ∧ t.get R.MEM_DSTAT.STATE = 1 ∧ s.frame [] [R.MEM_DSTAT.STATE] t) ∧
    (s.dramFailed = true → ¬ (s.run = runEmpty ∨ s.run = runReady ∨ s.run = runFaulted) →
      ∃ t, exec .dramTrain s = .next t ∧ t.get R.MEM_DCTL.REFUSED = 1 ∧ s.frame [] [R.MEM_DCTL.REFUSED] t) ∧
    (∀ lanes, s.flag R.MEM_DSTAT.RETRAIN = true → (∀ l ∈ lanes, l.works = true ∨ l.kept = true) →
      ∃ t, exec (.dramRetrainDone lanes) s = .next t ∧ t.get R.MEM_DSTAT.RETRAIN = 0 ∧ t.get R.MEM_DSTAT.STATE = s.get R.MEM_DSTAT.STATE ∧ t.mem = s.mem
        ∧ (∀ k < 8, ∀ l, (lanes.drop k).head? = some l → s.counted (R.MEM_CNT_RETRAIN_k.RETRAIN k) 1 t
            ∧ t.get (R.MEM_DQ_k.RD_EYE k) = min 63 (widest l.rd) ∧ t.get (R.MEM_DQ_k.WR_EYE k) = min 63 (widest l.wr)
            ∧ (l.works = false → t.get (R.MEM_DQ_k.MARGINAL k) = 1 ∧ t.get (R.MEM_DQ_k.RD_DLY k) = s.get (R.MEM_DQ_k.RD_DLY k)
                ∧ t.get (R.MEM_DQ_k.WR_DLY k) = s.get (R.MEM_DQ_k.WR_DLY k)))) ∧
    (∀ banks, s.get R.MEM_DSTAT.STATE = 2 → banks.length ≤ 4 → banks.Nodup →
      ∃ t, exec (.refreshWindow banks) s = .next t ∧ s.frame [.mem] [] t
        ∧ (∀ b ∈ banks, sparseGet 0 t.mem.postponed b = sparseGet 0 s.mem.postponed b - 1)
        ∧ (∀ b, b ∉ banks → sparseGet 0 t.mem.postponed b = sparseGet 0 s.mem.postponed b)) ∧
    (∀ rates postponed r, s.get R.MEM_DSTAT.STATE = 2 → r = (rates.map (· % 4)).foldl max 0 → r < 2 → (s.mem.rates = [] ∨ s.mem.rates = rates) →
      (∀ e ∈ s.mem.postponed, e.2 < 8) →
      ∃ t, exec (.mr4Poll rates postponed) s = .next t ∧ t.get R.MEM_DSTAT.RATE = r ∧ t.get R.MEM_DSTAT.HOT = 0
        ∧ t.mem = { s.mem with rates := rates } ∧ s.frame [.mem] [R.MEM_DSTAT.RATE, R.MEM_DSTAT.HOT] t) ∧
    (∀ rates postponed r m, s.get R.MEM_DSTAT.STATE = 2 → r = (rates.map (· % 4)).foldl max 0 → 2 ≤ r → (s.mem.rates = [] ∨ s.mem.rates = rates) →
      m = postponed.foldl (fun m b => sparseSet 0 m b (sparseGet 0 m b + 1)) s.mem.postponed → (∀ e ∈ m, e.2 < 8) →
      ∃ t, exec (.mr4Poll rates postponed) s = .next t ∧ t.get R.MEM_DSTAT.RATE = r ∧ t.get R.MEM_DSTAT.HOT = 1 ∧ t.get R.MEM_DSTAT.HOT_SEEN = 1
        ∧ t.mem = { s.mem with rates := rates, postponed := m }) ∧
    (∀ rates postponed, s.get R.MEM_DSTAT.STATE = 2 → s.mem.rates ≠ [] → s.mem.rates ≠ rates →
      (∀ e ∈ postponed.foldl (fun m b => sparseSet 0 m b (sparseGet 0 m b + 1)) s.mem.postponed, e.2 < 8) → (∀ e ∈ s.mem.postponed, e.2 < 8) →
      ∃ t, exec (.mr4Poll rates postponed) s = .next t ∧ t.get R.MEM_DSTAT.RETRAIN = 1 ∧ t.mem.rates = rates) ∧
    (s.flag R.MEM_DCTL.SR_EN = true → (s.run = runEmpty ∨ s.run = runReady ∨ s.run = runFaulted) → s.flag R.MEM_DSTAT.RETRAIN = false →
      s.get R.MEM_DSTAT.STATE = 2 → s.mem.srAt = none → s.mem.reqAt + s.get R.MEM_DCTL.SR_IDLE * 491520 ≤ s.tim.cycles →
      exec .selfRefreshEntry s = .next { s with mem := { s.mem with srAt := some s.tick } }) ∧
    (∀ request at_, s.mem.srAt = some at_ →
      (s.tick < at_ + 24 → exec (.selfRefreshExit request) s = .next { s with mem := { s.mem with srAt := none } }) ∧
      (at_ + 24 ≤ s.tick → ∃ t, exec (.selfRefreshExit request) s = .next t ∧ t.mem = { s.mem with srAt := none, srReady := max s.tick (at_ + 56) + 216, postponed := [] }
        ∧ t.get R.MEM_DSTAT.STATE = 2 ∧ s.counted R.MEM_CNT_SRWAIT.SRWAIT (if request then 1 else 0) t
        ∧ s.frame [.mem] [R.MEM_DSTAT.STATE, R.MEM_CNT_SRWAIT.SRWAIT, R.MEM_CNTOVF.OVF] t)) ∧
    (∀ request, s.mem.srAt = none →
      (s.mem.srReady ≤ s.tick → exec (.selfRefreshExit request) s = .next s) ∧
      (s.tick < s.mem.srReady → ∃ t, exec (.selfRefreshExit request) s = .next t ∧ s.counted R.MEM_CNT_SRWAIT.SRWAIT (if request then 1 else 0) t
        ∧ s.frame [] [R.MEM_CNT_SRWAIT.SRWAIT, R.MEM_CNTOVF.OVF] t))

/-- R392 to R396, R388. Completes under conditions on state and operands alone: granaryScrub, loftWriteDone. Where it speaks of them, it takes the model's choices and readings of log entries 10, 14, 102, 114, 206, 207. -/
def Obligations.GranaryAndLoftErrors : Prop :=
  ∀ s : State,
    (∀ addr, addr < 0x6000000 → s.boot.inReset = false →
      exec (.granaryScrub addr .good) s = .next s ∧
      (∃ t, exec (.granaryScrub addr .corrected) s = .next t ∧ s.counted R.MEM_CNT_GECCC.GECCC 1 t
        ∧ s.counted R.TIL_CNT_ECCC.ECCC (if addr < 256 * localBytes then 1 else 0) t
        ∧ s.frame [] [R.MEM_CNT_GECCC.GECCC, R.MEM_CNTOVF.OVF, R.TIL_CNT_ECCC.ECCC, R.TIL_CNTOVF.OVF] t) ∧
      (∃ t, exec (.granaryScrub addr .uncorrectable) s = .next t ∧ t.mem.poison.contains (addr / 8 * 8) = true
        ∧ t.mem.gran = s.mem.gran ∧ t.get R.MEM_GECC_ADDR.ADDR = addr / 8 * 8 ∧ s.counted R.MEM_CNT_GECCU.GECCU 1 t
        ∧ s.counted R.TIL_CNT_ECCU.ECCU (if addr < 256 * localBytes then 1 else 0) t
        ∧ (addr < 256 * localBytes → (t.tile (addr / localBytes)).eccu = true)
        ∧ s.frame [.mem, .tal, .tiles] ([R.MEM_GECC_ADDR.ADDR, R.MEM_CNT_GECCU.GECCU, R.MEM_CNTOVF.OVF, R.TIL_CNT_ECCU.ECCU, R.TIL_CNTOVF.OVF]
            ++ tallyFields) t)) ∧
    (∀ writer addr (words : List (BitVec 64)), 0 < words.length → words.length ≤ 8 → addr % 8 = 0 → addr / 64 = (addr + 8 * words.length - 1) / 64 →
      (loftWriterOk s.part writer addr = false → ∀ failed, ∃ t, exec (.loftWriteDone writer addr words failed) s = .next t
        ∧ s.counted R.MEM_CNT_LDENY.LDENY 1 t ∧ s.frame [] [R.MEM_CNT_LDENY.LDENY, R.MEM_CNTOVF.OVF] t) ∧
      (loftWriterOk s.part writer addr = true → writer = .firmware → ∀ k, k < words.length →
        ∃ t, exec (.loftWriteDone writer addr words (some k)) s = .next t ∧ s.counted R.MEM_CNT_LVFAIL.LVFAIL 1 t ∧ t.get R.MEM_LVF_ADDR.ADDR = addr + 8 * k
          ∧ s.frame [] [R.MEM_CNT_LVFAIL.LVFAIL, R.MEM_CNTOVF.OVF, R.MEM_LVF_ADDR.ADDR] t) ∧
      (loftWriterOk s.part writer addr = true → 0x300000 ≤ addr → addr < 0x388000 →
        (∃ t, exec (.loftWriteDone writer addr words none) s = .next t ∧ s.frame [.loft] [] t
          ∧ sparseList 0 t.loft.bytes addr (8 * words.length) = (words.map (fun w => leBytes 8 w.toNat)).flatten
          ∧ (∀ k, k < addr ∨ addr + 8 * words.length ≤ k → sparseGet 0 t.loft.bytes k = sparseGet 0 s.loft.bytes k)) ∧
        (∀ k, k < words.length → ∃ t, exec (.loftWriteDone writer addr words (some k)) s = .next t
          ∧ s.counted R.MEM_CNT_LVFAIL.LVFAIL 1 t ∧ t.get R.MEM_LVF_ADDR.ADDR = addr + 8 * k
          ∧ sparseList 0 t.loft.bytes addr (8 * k) = ((words.take k).map (fun w => leBytes 8 w.toNat)).flatten
          ∧ sparseList 0 t.loft.bytes (addr + 8 * (k + 1)) (8 * (words.length - (k + 1))) = ((words.drop (k + 1)).map (fun w => leBytes 8 w.toNat)).flatten
          ∧ (∀ j, j < addr ∨ addr + 8 * words.length ≤ j ∨ (addr + 8 * k ≤ j ∧ j < addr + 8 * k + 8) → sparseGet 0 t.loft.bytes j = sparseGet 0 s.loft.bytes j)
          ∧ s.frame [.loft] [R.MEM_CNT_LVFAIL.LVFAIL, R.MEM_CNTOVF.OVF, R.MEM_LVF_ADDR.ADDR] t)))

/-- R437 to R446. Completes under conditions on state and operands alone: convert, conversionDone, urgentGo, slotResultRead, scanPassStart, monCal. Where it speaks of them, it takes the model's choices and readings of log entries 1, 5, 7, 10, 13, 14, 62, 114, 134, 135, 136, 222. -/
def Obligations.MonitorConversions : Prop :=
  ∀ s : State,
    (∀ a : Act, s.fires a = true → s.mon.on = true → s.mon.initial = false → ∀ c, c = (⟨some a.unit.toNat, 2, bits a.arg.toNat 4 0, s.tick + 2⟩ : MonConv) →
      (s.mon.cur = none → ∃ t, exec (.convert a) s = .next t ∧ t.mon = { s.mon with cur := some c } ∧ t.get R.MON_STAT.CURSRC = 2
        ∧ s.frame [.mon] [R.MON_STAT.CUR, R.MON_STAT.CURSRC] t) ∧
      (∀ x, s.mon.cur = some x → x.src ≠ 2 → ∃ t, exec (.convert a) s = .next t ∧ t.mon = { s.mon with cur := some c } ∧ s.counted R.MON_CNT_ABORT.ABORT 1 t
        ∧ s.frame [.mon] [R.MON_STAT.CUR, R.MON_STAT.CURSRC, R.MON_CNT_ABORT.ABORT, R.MON_CNTOVF.OVF] t) ∧
      (∀ x, s.mon.cur = some x → x.src = 2 → exec (.convert a) s = .next { s with mon := { s.mon with wait := some c } })) ∧
    (∀ ch : BitVec 7,
      (s.flag R.MON_URG.BUSY = false → s.part.monHas ch.toNat = true →
        ∃ t, exec (.urgentGo ch) s = .next t ∧ t.get R.MON_URG.BUSY = 1 ∧ t.get R.MON_URG.CH = ch.toNat ∧ t.get R.MON_URGRES.DONE = 0
          ∧ t.mon.urg = some ch.toNat) ∧
      ((s.flag R.MON_URG.BUSY = true ∨ s.part.monHas ch.toNat = false) →
        ∃ t, exec (.urgentGo ch) s = .next t ∧ t.get R.MON_URG.REFUSED = 1 ∧ s.frame [] [R.MON_URG.CH, R.MON_URG.REFUSED] t)) ∧
    (s.mon.cur ≠ none → ∃ t, exec .monCal s = .next t ∧ t.get R.MON_STAT.CAL_PEND = 1 ∧ s.frame [] [R.MON_STAT.CAL_PEND] t) ∧
    (s.mon.cur = none → s.mon.on = true → s.mon.wait = none → s.mon.urg = none → s.flag R.MON_STAT.CAL_RUN = false →
      ∃ t, exec .monCal s = .next t ∧ t.get R.MON_STAT.CAL_PEND = 0 ∧ t.get R.MON_STAT.CAL_RUN = 1 ∧ t.get R.MON_STAT.CALSTEP = 0
        ∧ t.mon = { s.mon with codes := [], cur := some ⟨none, 4, 0, s.tick + 2⟩ }) ∧
    (s.mon.on = true → s.mon.pass = [] → s.flag R.MON_CTRL.SCAN_EN = true →
      ∃ t, exec .scanPassStart s = .next t
        ∧ t.mon.pass = (maskList (s.word R.MON_SCAN0.w.addr).toNat 32 ++ (maskList (s.word R.MON_SCAN1.w.addr).toNat 32).map (· + 32)
            ++ (maskList (s.word R.MON_SCAN2.w.addr).toNat 32).map (· + 64)).filter s.part.monHas) ∧
    (∀ (raw : BitVec 12) n src slot at_, s.mon.cur = some ⟨some n, src, slot, at_⟩ → n < 96 → slot < 32 →
      ∃ t, exec (.conversionDone raw) s = .next t ∧ t.get (R.MON_RES_n.CODE n) = s.monCode raw.toNat ∧ t.get (R.MON_RES_n.NEW n) = 1
        ∧ t.get (R.MON_RES_n.SRC n) = src % 2 ^ (R.MON_RES_n.SRC n).width
        ∧ (src = 2 → t.get (R.MON_SRES_k.CODE slot) = s.monCode raw.toNat)
        ∧ (src = 3 → t.get R.MON_URGRES.CODE = s.monCode raw.toNat ∧ t.get R.MON_URGRES.DONE = 1 ∧ t.get R.MON_URG.BUSY = 0 ∧ t.mon.urg = none)
        ∧ (src ≠ 2 → src ≠ 3 → n ∉ t.mon.pass)) ∧
    (∀ (raw : BitVec 12) src slot at_, s.mon.cur = some ⟨none, src, slot, at_⟩ → s.flag R.MON_STAT.CAL_RUN = true →
      (s.mon.codes.length < 31 → ∃ t, exec (.conversionDone raw) s = .next t ∧ t.mon.codes = s.mon.codes ++ [raw.toNat]
        ∧ t.get R.MON_STAT.CALSTEP = s.mon.codes.length + 1) ∧
      (s.mon.codes.length = 31 → ∃ t, exec (.conversionDone raw) s = .next t ∧ t.get R.MON_STAT.CALVALID = 1 ∧ s.counted R.MON_CNT_CAL.CAL 1 t
        ∧ t.mon.initial = false)) ∧
    (∀ slot : BitVec 5, ∃ t, exec (.slotResultRead slot) s = .next t
      ∧ t.word (R.MON_STIME_k.w slot.toNat).addr = BitVec.ofNat 32 (sparseGet 0 s.mon.stamps slot.toNat)
      ∧ (∀ f : Fld, f.addr ≠ (R.MON_STIME_k.w slot.toNat).addr → t.get f = s.get f) ∧ s.frame [] [R.MON_STIME_k.w slot.toNat] t)

/-- R151 to R153, R162, R167. Completes under conditions on state and operands alone: laneSignalDetect, laneDetectTimeout, laneTrainDone, laneBitLock, laneBlockLock, laneAligned, trainingControlBlock, terminationDetect. Where it speaks of them, it takes the model's choices and readings of log entries 5, 10, 14, 114, 165, 241. -/
def Obligations.LaneBringUp : Prop :=
  ∀ (s : State) (n : Nat), s.part.hasLane n = true →
    ((s.rxState n = 1 ∨ s.rxState n = 7) → (s.lane n).prog = 1 →
      ∃ t, exec (.laneSignalDetect n) s = .next t ∧ t.rxState n = (if s.rxState n = 7 then 7 else 2) ∧ (t.lane n).prog = 2
        ∧ (s.get (pState (lanePort n)) = 1 → t.get (pState (lanePort n)) = 2) ∧ s.frame [.lnk] [R.LNK_LSTAT_n.RXSTATE n, pState (lanePort n)] t) ∧
    (s.rxState n = 8 → ∃ t, exec (.laneSignalDetect n) s = .next t ∧ t.rxState n = 2 ∧ (t.lane n).trained = true ∧ (t.lane n).woken = true ∧ (t.lane n).mseq = none
      ∧ s.frame [.lnk] [R.LNK_LSTAT_n.RXSTATE n] t) ∧
    (s.rxState n = 1 → (s.lane n).woken = true → exec (.laneDetectTimeout n false) s = .next s) ∧
    (s.rxState n = 1 → (s.lane n).woken = false → ∃ t, exec (.laneDetectTimeout n false) s = .next t ∧ t.rxState n = 0 ∧ s.frame [.lnk] [R.LNK_LSTAT_n.RXSTATE n] t) ∧
    (s.txState n = 1 → (∃ t, exec (.laneDetectTimeout n true) s = .next t ∧ t.txState n = 0 ∧ s.frame [] [R.LNK_LSTAT_n.TXSTATE n] t) ∧
      (∃ t, exec (.terminationDetect n) s = .next t ∧ t.txState n = 2 ∧ (s.get (pState (lanePort n)) = 1 → t.get (pState (lanePort n)) = 2)
        ∧ s.frame [] [R.LNK_LSTAT_n.TXSTATE n, pState (lanePort n)] t)) ∧
    (∀ block (req : BitVec 6) conv q, (s.lane n).prog = 2 → blockIs .training block = true → q = leAt block 2 1 →
      ∃ t, exec (.trainingControlBlock n block req conv) s = .next t ∧ t.get (R.LNK_LSTAT_n.LANE n) = leAt block 1 1 % 16
        ∧ t.get (R.LNK_LEQ_n.TX_PRE n) = tapAfter 0 (s.get (R.LNK_LEQ_n.TX_PRE n)) (bits q 1 0)
        ∧ t.get (R.LNK_LEQ_n.TX_MAIN n) = tapAfter 1 (s.get (R.LNK_LEQ_n.TX_MAIN n)) (bits q 3 2)
        ∧ t.get (R.LNK_LEQ_n.TX_POST n) = tapAfter 2 (s.get (R.LNK_LEQ_n.TX_POST n)) (bits q 5 4)
        ∧ t.lane n = { s.lane n with
            readyGot := (s.lane n).readyGot || bit (leAt block 3 1) 3
            farLimit := bits (leAt block 3 1) 2 0
            req := req.toNat
            ready := (s.lane n).ready || conv }
        ∧ s.frame [.lnk] [R.LNK_LSTAT_n.LANE n, R.LNK_LEQ_n.TX_PRE n, R.LNK_LEQ_n.TX_MAIN n, R.LNK_LEQ_n.TX_POST n] t) ∧
    (∀ ctle, (s.lane n).prog = 2 → (s.lane n).readyGot = true →
      ∃ t, exec (.laneTrainDone n ctle) s = .next t ∧ (t.lane n).trained = true ∧ (t.lane n).ready = true ∧ t.get (R.LNK_LEQ_n.RX_CTLE n) = ctle % 16
        ∧ (s.txState n = 2 → t.txState n = 3) ∧ s.frame [.lnk] [R.LNK_LEQ_n.RX_CTLE n, R.LNK_LSTAT_n.TXSTATE n] t) ∧
    ((s.lane n).prog = 2 → (s.lane n).trained = true →
      ∃ t, exec (.laneBitLock n) s = .next t ∧ (t.lane n).prog = 3 ∧ (s.rxState n ≠ 7 → t.rxState n = 3) ∧ (s.rxState n = 7 → t.rxState n = 7)
        ∧ s.frame [.lnk] [R.LNK_LSTAT_n.RXSTATE n] t) ∧
    (∀ inv, (s.lane n).prog = 3 →
      ∃ t, exec (.laneBlockLock n inv) s = .next t ∧ (t.lane n).prog = 4 ∧ (s.rxState n ≠ 7 → t.rxState n = 4)
        ∧ t.flag (R.LNK_LSTAT_n.POLINV n) = inv ∧ s.frame [.lnk] [R.LNK_LSTAT_n.RXSTATE n, R.LNK_LSTAT_n.POLINV n] t) ∧
    (∀ logical, (s.lane n).prog = 4 → logical < 16 →
      ∃ t, exec (.laneAligned n logical) s = .next t ∧ t.rxState n = 5 ∧ (t.lane n).prog = 5 ∧ t.get (R.LNK_LSTAT_n.LANE n) = logical
        ∧ s.frame [.lnk] [R.LNK_LSTAT_n.RXSTATE n, R.LNK_LSTAT_n.LANE n, pState (lanePort n)] t)

/-- R149, R150, R154, R155, R158, R168, R209, R210, R211. Completes under conditions on state and operands alone: bringupTimeout, bringupRetry, capabilityBlock, alignmentMarker, markerTransmit, upRestart, casRestart, segmentStatusChange. Where it speaks of them, it takes the model's choices and readings of log entries 10, 14, 46, 114, 183, 213, 214, 222, 239, 244, 245, 266. -/
def Obligations.PortBringUpAndMarkers : Prop :=
  ∀ s : State,
    (∀ p, (s.get (pState p) = 1 ∨ s.get (pState p) = 2) →
      ∀ rx tx, rx = ((s.portLanes p).filter (fun n => s.rxState n == 5)).length → tx = ((s.portLanes p).filter (fun n => s.txState n == 3)).length →
        ((s.port p).minLanes ≤ rx → (s.port p).minLanes ≤ tx →
          ∃ t, exec (.bringupTimeout p) s = .next t ∧ t.get (pState p) = 3 ∧ t.port p = { s.port p with aligned := s.rxGood p } ∧ s.frame [.lnk] [pState p] t) ∧
        (¬ ((s.port p).minLanes ≤ rx ∧ (s.port p).minLanes ≤ tx) → s.get (pRate p) < 2 →
          ∃ t, exec (.bringupTimeout p) s = .next t ∧ t.get (pState p) = 1 ∧ t.get (pRate p) = s.get (pRate p) + 1 ∧ t.get (pTxMap p) = 0) ∧
        (¬ ((s.port p).minLanes ≤ rx ∧ (s.port p).minLanes ≤ tx) → 2 ≤ s.get (pRate p) →
          ∃ t, exec (.bringupTimeout p) s = .next t ∧ t.get (pState p) = 0 ∧ (t.port p).waiting = true ∧ s.frame [.lnk] [pState p] t)) ∧
    (∀ p, (s.port p).waiting = true →
      ∃ t, exec (.bringupRetry p) s = .next t ∧ t.get (pState p) = 1 ∧ t.get (pRate p) = s.get R.LNK_CFG.MAXRATE ∧ (t.port p).waiting = false
        ∧ (t.port p).minLanes = s.get (pMin p)) ∧
    (∀ p lane block had, s.get (pState p) = 3 → s.part.hasLane lane = true → lanePort lane = p → blockIs .capability block = true →
      had = sparseGet [] (s.port p).parts lane →
      (leAt block 1 1 < 2 → (leAt block 1 1 = 0 ∨ had.length = 6 * leAt block 1 1) →
        ∃ t, exec (.capabilityBlock p lane block) s = .next t ∧ s.frame [.lnk] [] t
          ∧ sparseGet [] (t.port p).parts lane = (if leAt block 1 1 = 0 then [] else had) ++ block.drop 2) ∧
      (leAt block 1 1 ≠ 0 → (2 < leAt block 1 1 ∨ had.length ≠ 6 * leAt block 1 1) →
        ∃ t, exec (.capabilityBlock p lane block) s = .next t ∧ s.frame [.lnk] [] t ∧ sparseGet [] (t.port p).parts lane = []) ∧
      (∀ record, leAt block 1 1 = 2 → had.length = 12 → record = had ++ block.drop 2 →
        (capabilityOk p record = false → ∃ t, exec (.capabilityBlock p lane block) s = .next t ∧ s.counted (R.LNK_CNT_MK_n.MK lane) 1 t
          ∧ (t.port p).farRec = (s.port p).farRec ∧ s.frame [.lnk] [R.LNK_CNT_MK_n.MK lane, R.LNK_CNTOVF_n.OVF lane] t) ∧
        (capabilityOk p record = true → (match p with | .up => leAt record 0 1 = 1 ∨ leAt record 0 1 = 3 | .cas => leAt record 0 1 = 2) →
          ∃ t, exec (.capabilityBlock p lane block) s = .next t ∧ (t.port p).farRec = some record
            ∧ (t.port p).ackGot = ((s.port p).ackGot || bit (leAt record 5 1) 0) ∧ s.frame [.lnk] [] t) ∧
        (capabilityOk p record = true → ¬ (match p with | .up => leAt record 0 1 = 1 ∨ leAt record 0 1 = 3 | .cas => leAt record 0 1 = 2) →
          ∃ t, exec (.capabilityBlock p lane block) s = .next t ∧ bit (t.get R.LNK_PEVENT.EVENTS) 4 = true ∧ (t.port p).farRec = (s.port p).farRec))) ∧
    (∀ p r, s.get (pState p) = 3 → (s.port p).farRec = some r → (s.port p).exchanged = true → (s.port p).sleepReq = 0 →
      (∀ n ∈ s.portLanes p, bit (leAt r 2 2) (laneIdx n) = true → s.txState n ≠ 0) →
      ∃ t, exec (.markerTransmit p) s = .next t ∧ t.portUp p = true ∧ t.get (pTxMap p) = maskAnd (leAt r 2 2) (s.laneMask p) 16
        ∧ t.get (pRxMap p) = leAt (s.port p).sentRec 2 2 % 2 ^ (pRxMap p).width ∧ t.get (pRev p) = min (leAt r 4 1) (s.get R.LNK_PROTO.REV_MAX) % 4
        ∧ (t.port p).everActive = true) ∧
    (∀ p chg map epoch, (s.get (pState p) ≠ 3 ∨ (s.port p).exchanged = false ∨ (s.port p).farRec = none) →
      chg = (s.portUp p && (s.nextTxMap p).1 != s.get (pTxMap p)) → map = (if chg then (s.nextTxMap p).1 else s.get (pTxMap p)) →
      epoch = (if chg then (s.get (pTxEpoch p) + 1) % 256 else s.get (pTxEpoch p)) →
      ∃ t, exec (.markerTransmit p) s = .next t ∧ (t.port p).mseqTx = ((s.port p).mseqTx + 1) % 256 ∧ t.get (pTxEpoch p) = epoch
        ∧ (t.port p).marks.map (·.1) = ((s.portLanes p).filter (fun n => (s.txState n == 3 || s.txState n == 4) && !(s.lane n).txSleep)).map laneIdx
        ∧ (∀ x ∈ (t.port p).marks, ∃ b, b % 16 = x.1 ∧ bit b 5 = chg
            ∧ x.2 = leBytes 1 0x7C ++ leBytes 1 b ++ (leBytes 1 (s.port p).mseqTx ++ leBytes 1 epoch ++ leBytes 2 map ++ leBytes 2 (s.rxGood p)))
        ∧ (chg = false → t.get (pTxMap p) = s.get (pTxMap p) ∧ ((s.port p).waitq = [] → t.wire = s.wire))) ∧
    (∀ p (m : Marker), (s.portLanes p).contains m.lane = true → s.blockLocked m.lane = true → m.late = false →
      (blockIs .marker m.bytes = true → leAt m.bytes 1 1 % 16 = s.get (R.LNK_LSTAT_n.LANE m.lane) →
        (∀ q, (s.lane m.lane).mseq = some q → leAt m.bytes 2 1 = (q + 1) % 256) → s.portUp p = false →
        ∃ t, exec (.alignmentMarker p [m]) s = .next t ∧ (t.lane m.lane).mseq = some (leAt m.bytes 2 1) ∧ (t.lane m.lane).mkErr = false
          ∧ s.counted (R.LNK_CNT_SH_n.SH m.lane) m.invalid t
          ∧ t.rxState m.lane = (if bit (leAt m.bytes 1 1) 4 then 8 else s.rxState m.lane)
          ∧ s.frame [.lnk] [R.LNK_CNT_SH_n.SH m.lane, R.LNK_CNTOVF_n.OVF m.lane, R.LNK_LSTAT_n.RXSTATE m.lane] t) ∧
      (blockIs .marker m.bytes = false → ∃ t, exec (.alignmentMarker p [m]) s = .next t ∧ s.counted (R.LNK_CNT_MK_n.MK m.lane) 1 t)) ∧
    (∀ p (l ms : List Marker) locked u, locked = (s.portLanes p).filter s.blockLocked → ms = l.filter (fun m => locked.contains m.lane) →
      u = s.each ms (fun m t => t.takeMarker m) →
      (majorityMark locked.length ((ms.filter (fun m => blockIs .marker m.bytes)).map (fun m => markerSays m.bytes)) = none →
        exec (.alignmentMarker p l) s = .next u) ∧
      (∀ v, majorityMark locked.length ((ms.filter (fun m => blockIs .marker m.bytes)).map (fun m => markerSays m.bytes)) = some v → u.portUp p = true →
        (v.1 = false → ∃ t, exec (.alignmentMarker p l) s = .next t ∧ (t.port p).farGood = maskAnd (leAt v.2 4 2) (s.laneMask p) 16 ∧ u.frame [.lnk] [] t) ∧
        (v.1 = true → ∃ t, exec (.alignmentMarker p l) s = .next t ∧ t.get (pRxEpoch p) = leAt v.2 1 1))) ∧
    ((s.run = runEmpty ∨ s.run = runReady ∨ s.run = runFaulted) →
      (∃ t, exec .upRestart s = .next t ∧ t.get R.LNK_PSTAT.UP_STATE = 1 ∧ t.get R.LNK_PROTO.POS_VALID = 0 ∧ t.get R.LNK_PSTAT.UP_RATE = s.get R.LNK_CFG.MAXRATE) ∧
      (s.part.ex = true → ∃ t, exec .casRestart s = .next t ∧ t.get R.LNK_PSTAT.CAS_STATE = 1 ∧ t.get R.LNK_PSTAT.CAS_RATE = s.get R.LNK_CFG.MAXRATE)) ∧
    ((s.run = runStarting ∨ s.run = runRunning ∨ s.run = runStopping) → ∀ c ∈ [Instr.upRestart] ++ (if s.part.ex then [.casRestart] else []),
      ∃ t, exec c s = .next t ∧ bit (t.get R.LNK_PEVENT.EVENTS) 5 = true ∧ s.frame [.wire, .waitq, .txSeq, .alarms] [R.LNK_PEVENT.EVENTS] t) ∧
    (∀ at_ b up ca, s.lnk.segAt = some (at_, b, up, ca) → ∃ t, exec .segmentStatusChange s = .next t ∧ t.lnk.segAt = none ∧ t.flag R.LNK_SEG.BOUNDARY = b
      ∧ t.flag R.LNK_SEG.UP_PS20 = up ∧ t.flag R.LNK_SEG.CAS_PS20 = ca
      ∧ t.flag R.LNK_SEG.RESERVE = s.flag R.RXC_CFG.SEG_RESERVE ∧ (s.flag R.LNK_SEG.BOUNDARY ≠ b → t.get R.LNK_SEG.CHANGED = 1)
      ∧ s.frame [.lnk, .wire, .waitq, .txSeq, .alarms] [R.LNK_SEG.BOUNDARY, R.LNK_SEG.UP_PS20, R.LNK_SEG.CAS_PS20, R.LNK_SEG.RESERVE, R.LNK_SEG.CHANGED] t)

/-- R156 to R158, R161, R166 to R168. Completes under conditions on state and operands alone: laneLossOfLock, laneRetrainRetry, laneSleep, laneWake, laneWakeTimeout, bitslip, laneRetrain, laneDisable. Where it speaks of them, it takes the model's choices and readings of log entries 10, 14, 42, 46, 114, 183, 243, 246, 267. -/
def Obligations.LaneRecoveryAndSleep : Prop :=
  ∀ (s : State) (n : Nat), s.part.hasLane n = true →
    (∀ cause invalid, 3 ≤ (s.lane n).prog → (s.rxState n = 3 ∨ s.rxState n = 4) →
      ∃ t, exec (.laneLossOfLock n cause invalid) s = .next t ∧ s.counted (R.LNK_CNT_LOL_n.LOL n) 1 t
        ∧ s.counted (R.LNK_CNT_LOS_n.LOS n) (if cause = .signal then 1 else 0) t ∧ s.counted (R.LNK_CNT_SH_n.SH n) (if cause = .headers then max 16 invalid else invalid) t
        ∧ ((s.portUp (lanePort n) = false ∨ ∃ k ∈ s.portLanes (lanePort n), k ≠ n ∧ s.blockLocked k = true) →
            t.rxState n = 1 ∧ (t.lane n).prog = 1 ∧ (t.lane n).woken = (s.lane n).woken
            ∧ s.frame [.lnk] [R.LNK_LSTAT_n.RXSTATE n, R.LNK_CNT_LOL_n.LOL n, R.LNK_CNT_LOS_n.LOS n, R.LNK_CNT_SH_n.SH n, R.LNK_CNTOVF_n.OVF n] t)) ∧
    (∀ cause invalid, 3 ≤ (s.lane n).prog → (s.rxState n = 5 ∨ s.rxState n = 6) →
      ∃ t, exec (.laneLossOfLock n cause invalid) s = .next t ∧ s.counted (R.LNK_CNT_LOL_n.LOL n) 1 t ∧ s.counted (R.LNK_CNT_EXCL_n.EXCL n) 1 t) ∧
    (∀ cause invalid, 3 ≤ (s.lane n).prog → (s.rxState n = 5 ∨ s.rxState n = 6) → s.portUp (lanePort n) = false → (s.lane n).excls.length < 3 →
      ∃ t, exec (.laneLossOfLock n cause invalid) s = .next t ∧ t.rxState n = 7 ∧ (t.lane n).prog = 1 ∧ s.counted (R.LNK_CNT_LOL_n.LOL n) 1 t
        ∧ s.counted (R.LNK_CNT_EXCL_n.EXCL n) 1 t ∧ (t.lane n).excls = s.tim.cycles :: (s.lane n).excls) ∧
    (s.rxState n = 7 → ∃ t, exec (.laneRetrainRetry n) s = .next t ∧ t.rxState n = 7 ∧ (t.lane n).prog = 1 ∧ (t.lane n).trained = false
      ∧ s.counted (R.LNK_CNT_RETRAIN_n.RETRAIN n) 1 t ∧ s.frame [.lnk] [R.LNK_CNT_RETRAIN_n.RETRAIN n, R.LNK_CNTOVF_n.OVF n] t) ∧
    (s.rxState n ≠ 0 → s.rxState n ≠ 5 → s.rxState n ≠ 6 →
      ∃ t, exec (.laneRetrain n) s = .next t ∧ (t.lane n).prog = 1 ∧ (s.rxState n = 9 → t.rxState n = 7 ∧ (t.lane n).excls = [])
        ∧ s.counted (R.LNK_CNT_RETRAIN_n.RETRAIN n) 1 t
        ∧ s.frame [.lnk] [R.LNK_LSTAT_n.RXSTATE n, R.LNK_CNT_RETRAIN_n.RETRAIN n, R.LNK_CNTOVF_n.OVF n] t) ∧
    ((s.rxState n = 5 ∨ s.rxState n = 6) →
      ∃ t, exec (.laneRetrain n) s = .next t ∧ s.counted (R.LNK_CNT_EXCL_n.EXCL n) 1 t ∧ s.counted (R.LNK_CNT_RETRAIN_n.RETRAIN n) 1 t) ∧
    (∃ t, exec (.laneDisable n) s = .next t ∧ t.get (R.LNK_LCTL_n.DISABLE n) = 1 ∧ t.rxState n = 0 ∧ t.txState n = 0 ∧ (t.lane n).txSleep = false
      ∧ s.counted (R.LNK_CNT_EXCL_n.EXCL n) 1 t) ∧
    ((s.lane n).manual = true → s.rxState n ≠ 6 →
      ∃ t, exec (.bitslip n) s = .next t ∧ (t.lane n).slips = ((s.lane n).slips + 1) % 66 ∧ s.frame [.lnk] [] t) ∧
    (((s.lane n).manual = false ∨ s.rxState n = 6) →
      ∃ t, exec (.bitslip n) s = .next t ∧ t.get (R.LNK_LCTL_n.REFUSED n) = 1 ∧ s.frame [] [R.LNK_LCTL_n.REFUSED n] t) ∧
    (∀ left, left = popcount (maskLess (s.get (pTxMap (lanePort n))) (maskSet (s.port (lanePort n)).sleepReq (laneIdx n)) 16) 16 →
      (s.sleepFloor (lanePort n) ≤ left →
        ∃ t, exec (.laneSleep n) s = .next t ∧ bit (t.get (sleepFld n)) (laneIdx n) = true ∧ bit (t.port (lanePort n)).sleepReq (laneIdx n) = true
          ∧ s.frame [.lnk] [sleepFld n] t) ∧
      (left < s.sleepFloor (lanePort n) →
        ∃ t, exec (.laneSleep n) s = .next t ∧ bit (t.get R.LNK_PEVENT.EVENTS) 3 = true ∧ bit (t.get (sleepFld n)) (laneIdx n) = true
          ∧ s.frame [.wire, .waitq, .txSeq, .alarms] [sleepFld n, R.LNK_PEVENT.EVENTS] t)) ∧
    (∃ t, exec (.laneWake n) s = .next t ∧ bit (t.get (sleepFld n)) (laneIdx n) = false ∧ bit (t.port (lanePort n)).sleepReq (laneIdx n) = false
      ∧ (t.lane n).txSleep = false ∧ (s.txState n = 5 → t.txState n = 3) ∧ s.frame [.lnk] [sleepFld n, R.LNK_LSTAT_n.TXSTATE n] t) ∧
    ((s.lane n).woken = true → ∃ t, exec (.laneWakeTimeout n) s = .next t ∧ t.rxState n = 7 ∧ (t.lane n).prog = 1 ∧ (t.lane n).woken = false
      ∧ s.counted (R.LNK_CNT_RETRAIN_n.RETRAIN n) 1 t
      ∧ s.frame [.lnk] [R.LNK_LSTAT_n.RXSTATE n, R.LNK_CNT_RETRAIN_n.RETRAIN n, R.LNK_CNTOVF_n.OVF n, pState (lanePort n)] t)

/-- R33, R160, R164, R170, R172, R173, R177, R178, R200, R202, R207, R208. Completes under conditions on state and operands alone: hcrcHunt, forward, keepalive, alarmRelease, unknownType, ackOrNackReceived, nackLost. Where it speaks of them, it takes the model's choices and readings of log entries 4, 6, 14, 29, 39, 40, 44, 46, 47, 53, 64, 65, 66, 67, 114, 204, 220, 221, 222, 239, 242, 270. -/
def Obligations.LinkMessages : Prop :=
  ∀ s : State, s.boot.restarting = false →
    (∀ m : Msg, s.admits 1 0x01 m → m.src = 0x80 →
      ∃ t, exec (.keepalive m) s = .next t ∧ s.acks 1 0x01 m false 0 t
        ∧ (2 ≤ s.run → t.shf.keepalive = some (s.tick + s.keepaliveTicks))
        ∧ s.frame [.streams, .shf, .answers, .lost] [R.LNK_PROTO.POS, R.LNK_PROTO.POS_VALID, R.LNK_CNT_SEQGAP.GAP, R.LNK_CNT_NACKLOST.LOST,
            R.LNK_PCNTOVF.OVF] t) ∧
    (∀ (m : Msg) (nack : Bool), s.admits 1 (if nack then 0x0F else 0x0E) m →
      ∃ t, exec (.ackOrNackReceived nack m) s = .next t ∧ t.answers = s.answers
        ∧ s.frame [.streams, .shf] [R.LNK_PROTO.POS, R.LNK_PROTO.POS_VALID, R.LNK_CNT_SEQGAP.GAP, R.LNK_PCNTOVF.OVF] t) ∧
    (∀ (plane typ : Byte) (m : Msg) r, s.portUp m.port = true → (s.port m.port).hunting = false → (s.port m.port).rest = [] → crc16 (m.hdrBytes plane.toNat typ.toNat) = m.hcrc →
      m.check2 plane.toNat typ.toNat = some r → (r.1 = rcPlane ∨ r.1 = rcType) → ¬ (plane.toNat = 1 ∧ (typ.toNat = 0x0E ∨ typ.toNat = 0x0F)) →
      ∃ t, exec (.unknownType plane typ m) s = .next t ∧ s.queues (m.asker plane.toNat typ.toNat) 0x0F r.1 r.2 0 t
        ∧ s.frame [.answers, .lost] lostFields t) ∧
    (∀ (plane typ : Byte) (m : Msg) res q, plane.toNat ≠ 4 → (s.port m.port).hunting = false → (s.port m.port).rest = [] →
      s.rxHead plane.toNat typ.toNat m = none → s.route plane.toNat typ.toNat m = .forward q →
      (s.shedOn q plane.toNat typ.toNat m = true → exec (.forward plane typ m res) s = .next s) ∧
      (s.shedOn q plane.toNat typ.toNat m = false → ∃ t w, exec (.forward plane typ m res) s = .next t
        ∧ (if plane.toNat = 2 ∨ plane.toNat = 3 then
            t.wire = s.wire ++ [w] ∧ s.counted R.LNK_CNT_FWD.FWD 1 t ∧ s.frame [.wire] [R.LNK_CNT_FWD.FWD, R.LNK_PCNTOVF.OVF] t
          else (t.port q).waitq = (s.port q).waitq ++ [(0, w)] ∧ s.frame [.waitq] [] t)
        ∧ w.port = q ∧ w.plane = plane.toNat ∧ w.typ = typ.toNat ∧ w.fwd = true
        ∧ w.hop = (m.hop + 1) % 4 ∧ w.dest = m.dest.toNat ∧ w.src = m.src.toNat ∧ w.seq = m.seq.toNat ∧ w.air = m.air ∧ w.body = m.body
        ∧ w.crc = m.crc)) ∧
    (∀ p e, s.portUp p = true → s.nextOut p = some e →
      (s.outOne p).wire = s.wire ++ [e.2] ∧ (e.2.fwd = true → s.counted R.LNK_CNT_FWD.FWD 1 (s.outOne p))) ∧
    (∀ p e l, (s.port p).waitq.filter (fun x => x.2.plane == 4) = e :: l → s.storeLoad p + 8 * lenWords e.2.body.length ≤ replayBytes →
      s.nextOut p = some e) ∧
    (∀ (plane typ : Byte) (m : Msg) res r, (s.port m.port).hunting = false → (s.port m.port).rest = [] → s.rxHead plane.toNat typ.toNat m = none → s.route plane.toNat typ.toNat m = .refuse r →
      ¬ (plane.toNat = 1 ∧ (typ.toNat = 0x0E ∨ typ.toNat = 0x0F)) →
      ∃ t, exec (.forward plane typ m res) s = .next t ∧ s.queues (m.asker plane.toNat typ.toNat) 0x0F r 4 0 t ∧ s.frame [.answers, .lost] lostFields t) ∧
    (∀ p bytes, s.portUp p = true → 16 ≤ bytes.length → leAt bytes 14 2 ≠ (crc16 (bytes.take 14)).toNat →
      ∀ r, r = huntRun p (((s.port p).rest ++ bytes).length / 8 + 1) (s.port p).hunting ((s.port p).rest ++ bytes) →
      ∃ t, exec (.hcrcHunt p bytes) s = .next t ∧ s.counted R.LNK_CNT_HCRC.HCRC r.count t ∧ ((s.port p).rest = [] → 1 ≤ r.count)
        ∧ t.pending = r.found ++ s.pending ∧ t.lnk = (s.setPort p { s.port p with hunting := r.hunting, rest := r.rest }).lnk
        ∧ s.frame [.pending, .lnk] [R.LNK_CNT_HCRC.HCRC, R.LNK_PCNTOVF.OVF] t) ∧
    (∀ (code : BitVec 16) a, a = sparseGet noAlarm s.alarms code.toNat → a.held ≠ 0 →
      (a.last ≠ 0 → s.tim.cycles + 1 < a.last + hundredMs → exec (.alarmRelease code) s = .next s) ∧
      (s.maySend .up 1 0x05 = false → exec (.alarmRelease code) s = .next s) ∧
      (a.last + hundredMs ≤ s.tim.cycles + 1 → s.portUp .up = true → s.flag R.LNK_PROTO.POS_VALID = true →
        ∃ t w, exec (.alarmRelease code) s = .next t ∧ sparseGet noAlarm t.alarms code.toNat = ⟨s.tim.cycles + 1, 0, [], 0⟩
          ∧ (t.wire = s.wire ++ [w] ∨ (t.port .up).waitq = (s.port .up).waitq ++ [(0, w)])
          ∧ w.plane = 1 ∧ w.typ = 0x05 ∧ w.dest = 0x80 ∧ w.body = withCount a.latest a.held ∧ s.frame [.wire, .waitq, .txSeq, .alarms] [] t)) ∧
    (s.lost ≠ 0 → s.answers.length < 1024 →
      ∃ t, exec .nackLost s = .next t ∧ t.lost = 0 ∧ s.queues ⟨.up, 0x80, 0, 0, 0, 0⟩ 0x0F rcNackLost noField s.lost t ∧ s.frame [.answers, .lost] [] t)

/-- R11 to R13, R28, R109, R160, R201, R392, R477. Completes under conditions on state and operands alone: regRead, regWrite, registerWrite, counterRead. Where it speaks of them, it takes the model's choices and readings of log entries 10, 14, 44, 46, 47, 49, 53, 54, 55, 56, 57, 62, 114, 220, 221, 274. -/
def Obligations.RegisterAccess : Prop :=
  ∀ s : State,
    (∀ addr, regDesc s.part addr = none → s.hostRead addr = (0, s)) ∧
    ((s.hostRead R.SHF_ID_LO.w.addr).2.get R.SHF_ID_HI.ID = s.hdr 52 4 % 2 ^ 32) ∧
    (∀ m : Msg, s.boot.restarting = false → s.admits 1 0x02 m → firstFail (regChecks m.body) = none →
      (s.remember m 1).windowFails (leAt m.body 0 4) (leAt m.body 4 2) = false →
      ∀ q, q = ((s.remember m 1).passed 1 m).readRegs (leAt m.body 4 2) (leAt m.body 0 4) → q.2.portUp m.port = true → q.2.flag R.LNK_PROTO.POS_VALID = true →
      ∃ t w, exec (.regRead m) s = .next t ∧ (t.wire = q.2.wire ++ [w] ∨ (t.port m.port).waitq = (q.2.port m.port).waitq ++ [(0, w)]) ∧ w.port = m.port ∧ w.plane = 1 ∧ w.typ = 0x03 ∧ w.dest = m.src.toNat
        ∧ w.body = m.body.take 8 ++ (q.1.map (fun v => leBytes 4 v.toNat)).flatten ∧ q.2.acks 1 0x02 m false 0 t) ∧
    (∀ m : Msg, s.boot.restarting = false → s.admits 1 0x02 m → firstFail (regChecks m.body) = none →
      (s.remember m 1).windowFails (leAt m.body 0 4) (leAt m.body 4 2) = true →
      ∃ t, exec (.regRead m) s = .next t ∧ s.queues (m.asker 1 0x02) 0x0F rcInternal noField 0 t
        ∧ s.frame [.streams, .answers, .lost] [R.LNK_CNT_SEQGAP.GAP, R.LNK_CNT_NACKLOST.LOST, R.LNK_PCNTOVF.OVF] t) ∧
    (∀ m : Msg, s.boot.restarting = false → s.admits 1 0x04 m → firstFail (regChecks m.body ++ [m.lenIs (8 + 4 * leAt m.body 4 2)]) = none →
      (∀ k, k < leAt m.body 4 2 → (s.remember m 1).schedOwned (leAt m.body 0 4 + 4 * k) = true →
        (∀ j < k, (s.remember m 1).schedOwned (leAt m.body 0 4 + 4 * j) = false) →
        ∃ t, exec (.regWrite m) s = .next t ∧ s.queues (m.asker 1 0x04) 0x0F rcSchedOwned (24 + 4 * k) 0 t
          ∧ s.frame [.streams, .answers, .lost] [R.LNK_CNT_SEQGAP.GAP, R.LNK_CNT_NACKLOST.LOST, R.LNK_PCNTOVF.OVF] t) ∧
      ((∀ k < leAt m.body 4 2, (s.remember m 1).schedOwned (leAt m.body 0 4 + 4 * k) = false) →
        ∀ u, u = ((s.remember m 1).passed 1 m).writeRegs (leAt m.body 0 4)
            ((List.range (leAt m.body 4 2)).map (fun i => BitVec.ofNat 32 (leAt m.body (8 + 4 * i) 4))) →
          ∃ t, exec (.regWrite m) s = .next t ∧ u.acks 1 0x04 m false 0 t ∧ u.frame [.answers, .lost] lostFields t)) ∧
    (∀ addr value : BitVec 32, (addr.toNat % 4 ≠ 0 ∨ regDesc s.part addr.toNat = none ∨ s.schedOwned addr.toNat = true) →
      exec (.registerWrite addr value) s = .next s) ∧
    (s.boot.inReset = false → ∀ value : BitVec 32,
      (∃ t, exec (.registerWrite (BitVec.ofNat 32 R.SYS_RESETCAUSE.w.addr) value) s = .next t
        ∧ t.word R.SYS_RESETCAUSE.w.addr = s.word R.SYS_RESETCAUSE.w.addr &&& ~~~ (value &&& 0x1FF#32) ∧ s.frame [] [R.SYS_RESETCAUSE.w] t) ∧
      (100 ≤ R.TIM_STEPTHR.STEPTHR.read value → R.TIM_STEPTHR.STEPTHR.read value ≤ 1000000 →
        ∃ t, exec (.registerWrite (BitVec.ofNat 32 R.TIM_STEPTHR.w.addr) value) s = .next t
          ∧ t.get R.TIM_STEPTHR.STEPTHR = R.TIM_STEPTHR.STEPTHR.read value ∧ s.frame [] [R.TIM_STEPTHR.STEPTHR] t) ∧
      (¬ (100 ≤ R.TIM_STEPTHR.STEPTHR.read value ∧ R.TIM_STEPTHR.STEPTHR.read value ≤ 1000000) →
        ∃ t, exec (.registerWrite (BitVec.ofNat 32 R.TIM_STEPTHR.w.addr) value) s = .next t ∧ s.frame [] [] t)) ∧
    (∃ t, exec .counterRead s = .next t ∧ t.get R.SEC_CTR_HI.LAST = s.loft.lastCtr / 2 ^ 32 % 2 ^ 32 ∧ s.frame [] [R.SEC_CTR_HI.LAST] t)

/-- R187 to R189, R195 to R198, R243. Completes under conditions on state and operands alone: dlSections, ulSections, amend, revoke. Where it speaks of them, it takes the model's choices and readings of log entries 14, 63, 72, 73, 76, 78, 79, 92, 94, 114, 222. -/
def Obligations.SectionsAndAmendments : Prop :=
  ∀ (s : State) (m : Msg),
    (∀ (dl : Bool) (typ win : Nat) r, (typ, win) = (if dl then (1, 0) else (2, 2)) → s.admits 2 typ m → r = s.remember m 2 →
      firstFail (sectionBody m 1) = none → leAt m.body 1 1 = 1 →
      firstFail (r.airChecks m.air ++ r.sectionSheaf m (if dl then r.dlLayers (airCar m.air) else r.ulLayers (airCar m.air))
        ++ [r.windowCheck (airCar m.air) win (r.airTick m.air)]) = none →
      (r.slotSects dl (airCar m.air) (r.airSlotTick m.air) = [] → s.con.data = [] →
        ∃ t, exec (if dl then .dlSections m else .ulSections m) s = .next t ∧ s.acks 2 typ m false 0 t
          ∧ (∀ k ∈ coveredSyms m, { sectOf dl (airCar m.air) (r.airSlotTick m.air) (airSym m.air) 0 (entryAt m.body 0) with sym := k } ∈ t.con.sects)
          ∧ s.frame [.streams, .con, .answers, .lost] [R.LNK_PROTO.POS, R.LNK_PROTO.POS_VALID, R.LNK_CNT_SEQGAP.GAP, R.LNK_CNT_NACKLOST.LOST,
              R.LNK_PCNTOVF.OVF] t) ∧
      ((r.slotSects dl (airCar m.air) (r.airSlotTick m.air)).any (fun x => x.id == leAt (entryAt m.body 0) 0 2) = true →
        ∃ t, exec (if dl then .dlSections m else .ulSections m) s = .next t ∧ s.queues (m.asker 2 typ) 0x0F rcDup (entryOff 0 0) 0 t ∧ t.con = s.con)) ∧
    (∀ r key gen, s.admits 2 0x04 m → r = s.remember m 2 → key = symKey (airCar m.air) (r.airSlotTick m.air) → gen = sparseGet 0 s.con.gens key + 1 →
      firstFail (sectionBody m 7) = none → leAt m.body 1 1 = 1 → leAt (entryAt m.body 0) 13 1 = 0 →
      firstFail (r.airChecks m.air ++ r.sectionSheaf m (r.dlLayers (airCar m.air)) ++ [r.amendWindow m]) = none →
      (∀ k ∈ coveredSyms m, (r.slotSects true (airCar m.air) (r.airSlotTick m.air)).any (fun x => x.id == leAt (entryAt m.body 0) 0 2 && x.sym == k) = true) →
      (∀ x ∈ r.slotSects true (airCar m.air) (r.airSlotTick m.air), x.id = leAt (entryAt m.body 0) 0 2) →
      (r.newlyMarked m).length ≤ r.budgetLeft m → gen ≤ 255 → s.con.data = [] →
      ∃ t, exec (.amend m) s = .next t ∧ s.counted R.TXC_CNT_AMEND.AMEND 1 t ∧ sparseGet 0 t.con.gens key = gen ∧ s.acks 2 0x04 m true (gen + (r.budgetLeft m - (r.newlyMarked m).length) % 256 * 256) t
        ∧ (∀ k ∈ coveredSyms m, { sectOf true (airCar m.air) (r.airSlotTick m.air) (airSym m.air) gen (entryAt m.body 0) with sym := k } ∈ t.con.sects)) ∧
    (∀ r, s.admits 2 0x05 m → r = s.remember m 2 → leAt m.body 1 1 = 0 → firstFail (prefixChecks m 0 ++ [m.lenIs 4]) = none →
      firstFail (r.airChecks m.air ++ [r.amendWindow m]) = none → (r.newlyMarked m).length ≤ r.budgetLeft m →
      ∃ t, exec (.revoke m) s = .next t ∧ s.counted R.TXC_CNT_AMEND.AMEND 1 t ∧ s.acks 2 0x05 m true ((r.budgetLeft m - (r.newlyMarked m).length) % 256 * 256) t
        ∧ (∀ x ∈ t.con.sects, x.dl = true → x.car = airCar m.air → x.slotT = r.airSlotTick m.air → x.sym ∈ coveredSyms m → x.revoked = true ∧ x.pieces = []))

/-- R190 to R193, R226, R305, R343, R358, R361, R405, R407. Completes under conditions on state and operands alone: beamWrite, powerStep, femState, tineWeights, soundReq. Where it speaks of them, it takes the model's choices and readings of log entries 10, 12, 14, 68, 79, 80, 81, 82, 94, 95, 97, 114, 190, 191, 222, 260. -/
def Obligations.OtherCPlaneMessages : Prop :=
  ∀ (s : State) (m : Msg),
    let r := s.remember m 2
    let a := r.airTick m.air
    let car := airCar m.air
    let inTime (k : Nat) : Prop := firstFail (r.airChecks m.air) = none ∧ r.windowCheck car k a = none
    (∀ n target link, s.admits 2 0x03 m → n = leAt m.body 0 1 → target = leAt m.body 1 1 → 1 ≤ n → n ≤ 16 → 1 ≤ target → target ≤ 3 →
      zeroAt m.body 2 2 = true → m.lenIs (4 + 260 * n) = none →
      let id (i : Nat) : Nat := leAt m.body (4 + 260 * i) 4
      let w (i : Nat) : List Byte := (m.body.drop (8 + 260 * i)).take 256
      (∀ i < n, id i < 2 ^ 18) →
      (target ≠ 2 → inTime 3 ∧ ∀ i < n, r.beamPinned (id i) = false ∨ r.txc.pinned = some (id i)) →
      ((target ≠ 1 → s.dramOk = true ∧ linkBad link = false) →
        ∃ t, exec (.beamWrite m link) s = .next t ∧ s.acks 2 0x03 m false 0 t
          ∧ (target ≠ 1 → ∀ i < n, (∀ j < n, i < j → id j ≠ id i) → t.dramBytes (id i * 256) (w i).length = w i)
          ∧ (∀ k, (target = 1 ∨ ∀ i < n, k < id i * 256 ∨ id i * 256 + (w i).length ≤ k) → t.dramByte k = s.dramByte k)
          ∧ t.con = { s.con with beams := s.con.beams ++ (if target = 2 then [] else (List.range n).map (fun i => ⟨a, id i, w i, car⟩)) }
          ∧ t.mem.gran = s.mem.gran) ∧
      (target ≠ 1 → (s.dramFailed = true ∨ linkBad link = true) →
        ∃ t, exec (.beamWrite m link) s = .next t ∧ s.queues (m.asker 2 0x03) 0x0F rcDram noField 0 t ∧ t.con = s.con
          ∧ ∀ k, t.dramByte k = s.dramByte k)) ∧
    (inTime 0 → zeroAt m.body 9 7 = true → (∀ p ∈ namedPaths m.body, p < s.part.paths) →
      (s.admits 2 0x06 m → leAt m.body 8 1 ≤ 63 → leAt m.body 8 1 < r.pstepCount →
        (∀ p ∈ namedPaths m.body, r.fsDbm (leAt m.body 8 1) p ≤ envFsMax r.envelope p) →
        ∃ t, exec (.powerStep m) s = .next t ∧ s.acks 2 0x06 m false 0 t
          ∧ t.rfe = { s.rfe with steps := s.rfe.steps ++ (namedPaths m.body).map (fun p => ⟨p, a, false, leAt m.body 8 1⟩) }) ∧
      (s.admits 2 0x07 m → leAt m.body 8 1 ≤ 15 → r.hasFemtab = true →
        ∃ t, exec (.femState m) s = .next t ∧ s.acks 2 0x07 m false 0 t
          ∧ t.rfe = { s.rfe with steps := s.rfe.steps ++ (namedPaths m.body).map (fun p => ⟨p, a, true, leAt m.body 8 1⟩) })) ∧
    (∀ chain first n, s.admits 2 0x08 m → chain = leAt m.body 0 1 → first = leAt m.body 2 2 → n = leAt m.body 4 2 → chain ≤ 15 →
      zeroAt m.body 1 1 = true → zeroAt m.body 6 2 = true → 1 ≤ n → first + n ≤ 512 →
      let word (i : Nat) : Nat := leAt m.body (8 + 2 * i) 2
      (∀ i < 16 * n, 10 + 2 * i ≤ m.body.length → 2 ^ 13 ≤ word i → (∀ j < i, word j < 2 ^ 13) →
        ∃ t, exec (.tineWeights m) s = .next t ∧ s.queues (m.asker 2 0x08) 0x0F rcRange (24 + 2 * i) 0 t ∧ t.rfe = s.rfe) ∧
      ((∀ i < 16 * n, word i < 2 ^ 13) → m.lenIs (8 + 32 * n) = none → inTime 0 → s.part.tine = true → first + n ≤ r.get (R.RFE_TINE_k.LEN chain) →
        let most := r.maxChips chain (r.cyclePos a)
        (r.chipsHeld chain a + n ≤ most →
          ∃ t, exec (.tineWeights m) s = .next t ∧ s.acks 2 0x08 m false 0 t
            ∧ t.rfe = { s.rfe with tineHeld := s.rfe.tineHeld ++ [⟨chain, a, first, (List.range (16 * n)).map word⟩] }) ∧
        (most < r.chipsHeld chain a + n →
          ∃ t, exec (.tineWeights m) s = .next t ∧ s.queues (m.asker 2 0x08) 0x0F rcRange (if most = 0 then 16 else 20) 0 t ∧ t.rfe = s.rfe))) ∧
    (∀ group vec iter place base, s.admits 2 0x09 m → group = leAt m.body 0 1 → vec = leAt m.body 1 1 → iter = leAt m.body 2 1 → place = leAt m.body 3 1 →
      base = leAt m.body 4 4 → (group = 4 ∨ group = 8 ∨ group = 16) → 1 ≤ vec → vec ≤ 4 → 1 ≤ iter → iter ≤ 16 → place ≤ 1 → base < 2 ^ 18 →
      s.part.ex = true → firstFail (r.airChecks m.air) = none → (place = 1 → base + r.groups car group * vec ≤ 2 ^ 18) →
      (r.ulLayers car = 0 ∨ r.windowCheck car 2 a = none) →
      (r.covarPast car a = true →
        ∃ t, exec (.soundReq m) s = .next t ∧ s.queues (m.asker 2 0x09) 0x0F rcLate noField 0 t ∧ s.counted R.SHF_CNT_LATE.LATE 1 t ∧ t.rxc = s.rxc) ∧
      (r.covarPast car a = false → 3 ≤ r.sheafClass → s.flag R.RXC_SOUND.BUSY = false →
        let d := r.soundSlot car a
        let w := r.param (d - 1)
        (0 < d → bits w 12 8 ≤ group → vec ≤ bits w 15 13 → iter ≤ bits w 20 16 →
          ∃ t x, exec (.soundReq m) s = .next t ∧ s.acks 2 0x09 m false 0 t ∧ t.get R.RXC_SOUND.BUSY = 1
            ∧ t.rxc = { s.rxc with sounds := s.rxc.sounds ++ [x] } ∧ x.car = car ∧ x.symT = a) ∧
        (¬ (0 < d ∧ bits w 12 8 ≤ group ∧ vec ≤ bits w 15 13 ∧ iter ≤ bits w 20 16) →
          ∃ t, exec (.soundReq m) s = .next t ∧ t.rxc = s.rxc ∧ s.queues (m.asker 2 0x09) 0x0F rcRange
            (if d = 0 then 8 else if group < bits w 12 8 then 16 else if bits w 15 13 < vec then 17 else 18) 0 t)))

/-- R182, R183, R186, R205, R206, R299, R397, R407. Completes under conditions on state and operands alone: dlData, partialSum, dWrite, dRead, dEnd. Where it speaks of them, it takes the model's choices and readings of log entries 10, 12, 14, 46, 63, 66, 73, 74, 76, 77, 78, 83, 84, 85, 86, 87, 89, 90, 94, 95, 97, 114, 204, 220, 222, 239, 242, 260, 269, 276, 279. -/
def Obligations.SamplesAndBulkData : Prop :=
  ∀ (s : State) (m : Msg),
    (∀ r d x, s.admits 3 0x01 m → r = s.remember m 3 → firstFail (sampleBody m true) = none →
      firstFail (r.airChecks m.air ++ r.sampleSheaf m (r.dlLayers (airCar m.air)) (fun f => decide (f ≤ 3)) ++ [r.dataWindow m]) = none →
      d = (⟨m.asker 3 0x01, m.ackReq, airCar m.air, r.airSlotTick m.air, airSym m.air, leAt m.body 0 2, leAt m.body 8 1, leAt m.body 6 1, leAt m.body 7 1,
          ⟨leAt m.body 2 2, leAt m.body 4 2, (m.body.drop 16).take (leAt m.body 4 2 * prbBytes (leAt m.body 7 1))⟩⟩ : HeldData) →
      s.con.sects.find? (fun x => d.names x && !x.revoked) = some x →
      (x.gen = d.gen → firstFail (pieceChecks x d) = none →
        ∃ t, exec (.dlData m) s = .next t ∧ { x with pieces := x.pieces ++ [d.piece] } ∈ t.con.sects ∧ t.con.data = s.con.data ∧ s.acks 3 0x01 m false 0 t) ∧
      (∀ f, x.gen = d.gen → firstFail (pieceChecks x d) = some f →
        ∃ t, exec (.dlData m) s = .next t ∧ t.con = s.con ∧ s.queues (m.asker 3 0x01) 0x0F f.1 f.2 0 t ∧ t.get R.LNK_PROTO.POS_VALID = s.get R.LNK_PROTO.POS_VALID) ∧
      (x.gen < d.gen → ∃ t, exec (.dlData m) s = .next t ∧ t.con = { s.con with data := s.con.data ++ [d] } ∧ t.answers = s.answers)) ∧
    (∀ r, s.admits 3 0x04 m → r = s.remember m 3 → s.flag R.LNK_SEG.BOUNDARY = false → firstFail (sampleBody m false) = none →
      firstFail (r.airChecks m.air ++ r.sampleSheaf m (r.ulLayers (airCar m.air)) (fun f => f == 5 || (f == 6 && decide (3 ≤ m.rev)))
        ++ [if r.expectsPartial then r.windowCheck (airCar m.air) 4 (r.airTick m.air) else none]) = none →
      ∀ o, o = (r.slotSects false (airCar m.air) (r.airSlotTick m.air)).find? (fun x => x.sym == airSym m.air && x.id == leAt m.body 0 2) →
        (o = none → ∃ t, exec (.partialSum m) s = .next t ∧ s.counted R.LNK_CNT_ORPHAN.ORPHAN 1 t ∧ t.rxc = s.rxc) ∧
        (∀ x, o = some x → s.rxc.partials = [] → firstFail (partialChecks m x false) = none →
          ∃ t p, exec (.partialSum m) s = .next t ∧ t.rxc = { s.rxc with partials := [p] } ∧ s.acks 3 0x04 m false 0 t ∧ p.car = airCar m.air
            ∧ p.id = leAt m.body 0 2 ∧ p.sym = airSym m.air)) ∧
    (∀ n region off, s.admits 5 0x01 m → n = 8 * m.lenW.toNat - 40 → region = leAt m.body 0 1 → off = leAt m.body 8 8 → region < 3 →
      firstFail (s.dChecks m.body n) = none → s.xferBusy (leAt m.body 1 1) (some region) = false → s.dramOk = true →
      ¬ (region = 0 ∧ (s.get R.SHF_STATE.STAGE = 1 ∨ s.get R.SHF_STATE.STAGE = 2 ∨ s.run = runApplying)) →
      ∀ link, (linkBad link = false →
        ∃ t, exec (.dWrite m link) s = .next t ∧ s.acks 5 0x01 m false 0 t
          ∧ (∀ w, w = (m.body.drop 16).take n → t.dramBytes (s.regionBase region + off) w.length = w
              ∧ (∀ k, k < s.regionBase region + off ∨ s.regionBase region + off + w.length ≤ k → t.dramByte k = s.dramByte k))) ∧
      (linkBad link = true →
        ∃ t, exec (.dWrite m link) s = .next t ∧ s.queues (m.asker 5 0x01) 0x0F rcDram noField 0 t ∧ t.con = s.con ∧ ∀ k, t.dramByte k = s.dramByte k)) ∧
    (∀ region id, s.admits 5 0x02 m → region = leAt m.body 0 1 → id = leAt m.body 1 1 → firstFail (s.dChecks m.body 0 ++ [s.dLength m.body]) = none →
      ¬ (region = 2 ∧ s.fwVerifying = true) → (∀ x ∈ s.con.xfers, x.id ≠ id) → (s.con.xfers.filter (·.read)).length < 4 →
      (regionDram region = true → s.dramFailed = false) → (region = 5 → s.get R.TAL_STAT.STATE ≠ 2) →
      ∀ link corrected, ((regionDram region = true → linkBad link = false) →
        ∃ t x, exec (.dRead m link corrected) s = .next t ∧ s.acks 5 0x02 m false 0 t ∧ t.con = { s.con with xfers := s.con.xfers ++ [x] }
          ∧ x.read = true ∧ x.id = id ∧ x.region = region ∧ x.off = leAt m.body 8 8 ∧ x.len = leAt m.body 16 8 ∧ x.next = 0
          ∧ (region = 5 → t.get R.TAL_STAT.FROZEN = (if s.tal.queue.length < 48 then 1 else 0) ∧ s.counted R.MEM_CNT_LECCC.LECCC corrected t)) ∧
      (regionDram region = true → linkBad link = true →
        ∃ t, exec (.dRead m link corrected) s = .next t ∧ s.queues (m.asker 5 0x02) 0x0F rcDram noField 0 t ∧ t.con = s.con)) ∧
    (∀ region id, s.admits 5 0x04 m → region = leAt m.body 0 1 → id = leAt m.body 1 1 → firstFail (s.dChecks m.body 0 ++ [s.dLength m.body]) = none →
      (regionDram region = true → s.dramFailed = false) → ∀ link corrected,
      (regionDram region = true → linkBad link = true →
        ∃ t, exec (.dEnd m link corrected) s = .next t ∧ s.queues (m.asker 5 0x04) 0x0F rcDram noField 0 t) ∧
      ((regionDram region = true → linkBad link = false) →
        crc32c (s.regionBytes region (leAt m.body 8 8) (leAt m.body 16 8)) = BitVec.ofNat 32 (leAt m.body 24 4) →
        ∃ t, exec (.dEnd m link corrected) s = .next t ∧ s.acks 5 0x04 m true 0 t ∧ (∀ x ∈ t.con.xfers, ¬ (x.read = false ∧ x.id = id ∧ x.region = region))
          ∧ (region = 0 → (∃ x ∈ s.con.xfers, x.read = false ∧ x.id = id ∧ x.region = 0) → t.shf.stagedOk = true)) ∧
      ((regionDram region = true → linkBad link = false) →
        crc32c (s.regionBytes region (leAt m.body 8 8) (leAt m.body 16 8)) ≠ BitVec.ofNat 32 (leAt m.body 24 4) →
        ∃ t, exec (.dEnd m link corrected) s = .next t ∧ s.queues (m.asker 5 0x04) 0x0F rcDataCrc 40 0 t))

/-- R345, R463 to R468, R470, R491. Completes under conditions on state and operands alone: envelopeChange, keyEnroll, keyRevoke, rekey, logClear, fwInstall, fwConfirm, lockWrite. Where it speaks of them, it takes the model's choices and readings of log entries 10, 14, 53, 76, 114, 187, 188, 189, 190, 191, 197, 204, 206, 207, 215. -/
def Obligations.SecurityCommandsBegin : Prop :=
  ∀ (s : State) (m : Crit),
    (∀ e ∈ [(Instr.envelopeChange m, 4, [], 8, badAfter 4 4 (m.params 4 [] 8), SecOp.envelope (leAt (m.params 4 [] 8) 0 4), s.envOpen = true),
            (.keyEnroll m, 5, [0], 8, badAfter 1 3 (m.params 5 [0] 8), .enroll (leAt (m.params 5 [0] 8) 4 4), True),
            (.keyRevoke m, 5, [1], 8, badByte 1 1 4 6 (m.params 5 [1] 8), .revoke (leAt (m.params 5 [1] 8) 1 1),
              ((s.lock.getD {}).key (leAt (m.params 5 [1] 8) 1 1)).state = 1 ∧ s.keyNamed (leAt (m.params 5 [1] 8) 1 1) = false),
            (.fwInstall m, 8, [0], 8, badAfter 1 3 (m.params 8 [0] 8), .install (leAt (m.params 8 [0] 8) 4 4), s.get R.SYS_BOOTSTAT.TRIAL = 0),
            (.fwConfirm m, 8, [1], 8, badByte 1 0 1 6 (m.params 8 [1] 8), .confirm (leAt (m.params 8 [1] 8) 1 1 == 1), s.get R.SYS_BOOTSTAT.TRIAL = 1),
            (.lockWrite m, 9, [], 8, (if 1 < leAt (m.params 9 [] 8) 0 1 then some 0 else badByte 1 0 1 6 (m.params 9 [] 8)),
              .lockWrite (leAt (m.params 9 [] 8) 0 1 + 2 * leAt (m.params 9 [] 8) 1 1), True)],
      s.grants m e.2.1 e.2.2.1 e.2.2.2.1 → e.2.2.2.2.1 = none →
        (s.sec.op = none → e.2.2.2.2.2.2 →
          ∃ t, exec e.1 s = .next t ∧ t.sec.op = some (e.2.2.2.2.2.1, (m.msg e.2.1 e.2.2.1).asker 1 6) ∧ t.get R.SEC_STAT.BUSY = 1
            ∧ t.loft = s.loft.withLast m.ctr.toNat ∧ t.answers = s.answers) ∧
        (s.sec.op ≠ none → ∃ t, exec e.1 s = .next t ∧ s.queues ((m.msg e.2.1 e.2.2.1).asker 1 6) 0x0F rcBusy noField 0 t ∧ t.sec.op = s.sec.op
          ∧ t.loft = s.loft.withLast m.ctr.toNat)) ∧
    (∀ u key, s.grants m 6 [] 64 → badAfter 12 4 (m.params 6 [] 64) = none → s.sec.op = none → s.unwrap m.ctr (m.params 6 [] 64) = u →
      (u = some key → ∃ t, exec (.rekey m) s = .next t ∧ t.sec.op = some (.rekey key, (m.msg 6 []).asker 1 6) ∧ t.get R.SEC_STAT.BUSY = 1
        ∧ t.loft = s.loft.withLast m.ctr.toNat) ∧
      (u = none → ∃ t, exec (.rekey m) s = .next t ∧ s.queues ((m.msg 6 []).asker 1 6) 0x0F rcUnwrap noField 0 t ∧ t.sec.op = none)) ∧
    (s.grants m 7 [] 8 → badAfter 0 8 (m.params 7 [] 8) = none → s.tal.queue = [] → m.ctr.toNat ≠ 2 ^ 64 - 1 →
      (s.get R.TAL_STAT.STATE = 1 → s.logOpen = false →
        ∃ t, exec (.logClear m noFailure) s = .next t ∧ t.get R.TAL_STAT.STATE = 2 ∧ t.tal.clearFrom = s.tal.wpos
          ∧ s.queues ((m.msg 7 []).asker 1 6) 0x0E 0 noField 0 t) ∧
      (∀ report r, s.clearRefusal = some r →
        ∃ t, exec (.logClear m report) s = .next t ∧ s.queues ((m.msg 7 []).asker 1 6) 0x0F r noField 0 t ∧ t.tal = s.tal))

/-- R407, R450, R458, R460, R464 to R468, R470 to R475. Completes under conditions on state and operands alone: attestReq, attestReport, securityOpDone, treeBuildDone. Where it speaks of them, it takes the model's choices and readings of log entries 10, 12, 14, 22, 44, 46, 52, 53, 76, 95, 97, 114, 187, 188, 190, 191, 193, 195, 198, 199, 200, 201, 202, 203, 206, 207, 215, 220, 221. -/
def Obligations.SecurityOperationsEnd : Prop :=
  ∀ s : State,
    let sent (p : Port) (t : State) (w : Sent) : Prop := t.wire = s.wire ++ [w] ∨ (t.port p).waitq = (s.port p).waitq ++ [(0, w)]
    (∀ a : Asker, ¬ (a.plane = 1 ∧ (a.typ = 0x0E ∨ a.typ = 0x0F)) →
      (∀ key, s.sec.op = some (.rekey key, a) →
        ∃ t, exec (.securityOpDone false) s = .next t ∧ t.sec.op = none ∧ t.get R.SEC_STAT.BUSY = 0 ∧ t.get R.SEC_CTR_LO.LAST = 0
          ∧ t.loft = (if s.keyInB then { s.loft with keyA := s.keyRecord s.loft.keyA true (s.loft.keyB.seq + 1) key }
            else { s.loft with keyB := s.keyRecord s.loft.keyB true (s.loft.keyA.seq + 1) key }).withLast 0
          ∧ ((if s.keyInB then s.loft.keyB.seq else s.loft.keyA.seq) ≠ 0xFFFFFFFF#32 → t.cmdKey = key) ∧ s.queues a 0x0E 0 noField 0 t) ∧
      (∀ op l, s.sec.op = some (op, a) → s.loft.readable = true → l = s.lock.getD {} →
        ∀ e ∈ [(SecOp.lockWrite l.policy, l)] ++ (List.range 4).map (fun k => (SecOp.revoke (k + 1), l.setKey (k + 1) { l.key (k + 1) with state := 2 })),
          op = e.1 →
          ∃ t, exec (.securityOpDone false) s = .next t ∧ t.sec.op = none ∧ t.get R.SEC_STAT.BUSY = 0 ∧ s.queues a 0x0E 0 noField 0 t
            ∧ (if s.lockInB then t.loft.lockA else t.loft.lockB) = e.2.sealed ((l.seq + 1) % 2 ^ 32)
            ∧ (if s.lockInB then t.loft.lockB else t.loft.lockA) = (if s.lockInB then s.loft.lockB else s.loft.lockA)) ∧
      (∀ policy, s.sec.op = some (.lockWrite policy, a) → s.loft.readable = true →
        ∃ t, exec (.securityOpDone false) s = .next t ∧ (if s.lockInB then t.loft.lockA else t.loft.lockB).policy = policy) ∧
      (s.sec.op = some (.confirm false, a) →
        ∃ t, exec (.securityOpDone false) s = .next t ∧ t.get R.SYS_BOOTSTAT.TRIAL = 0 ∧ t.loft.bootA.active = (s.get R.SYS_BOOTSTAT.SLOT == 1)
          ∧ t.loft.bootB.active = (s.get R.SYS_BOOTSTAT.SLOT == 1) ∧ t.loft.minVersion = s.loft.minVersion ∧ s.queues a 0x0E 0 noField 0 t) ∧
      (∀ n link, s.sec.op = some (.install n, a) → s.dramFailed = false → linkBad link = true →
        ∃ t, exec (.securityOpDone false link) s = .next t ∧ t.sec.op = none ∧ t.loft = s.loft ∧ s.queues a 0x0F rcDram noField 0 t) ∧
      (∀ n b link, s.sec.op = some (.install n, a) → s.dramFailed = false → linkBad link = false → b = s.dramBytes fwStageBase (min n 0x100000) → s.secEnd.imageFail b 1 n = none →
        ∃ t, exec (.securityOpDone false link) s = .next t ∧ (if s.loft.bootA.active then t.loft.slotA else t.loft.slotB) = b
          ∧ (if s.loft.bootA.active then t.loft.slotB else t.loft.slotA) = (if s.loft.bootA.active then s.loft.slotB else s.loft.slotA)
          ∧ t.loft.bootA.pending = some (!s.loft.bootA.active) ∧ t.loft.bootA.active = s.loft.bootA.active ∧ s.queues a 0x0E 0 noField 0 t)) ∧
    (s.sec.op = none → ∀ fails, exec (.securityOpDone fails) s = .next s) ∧
    (∀ m : Msg, s.boot.restarting = false → s.admits 1 0x07 m → s.attestCheck m.body = none →
      ∃ t, exec (.attestReq m) s = .next t ∧ t.sec.attest = some (m.asker 1 0x07, leAt m.body 0 1, (m.body.drop 8).take 32)
        ∧ t.get R.SEC_STAT.ATTEST_READY = 0 ∧ s.acks 1 0x07 m false 0 t) ∧
    (∀ a nonce fails, s.sec.attest = some (a, 1, nonce) → s.portUp a.port = true → s.flag R.LNK_PROTO.POS_VALID = true →
      ∃ t w, exec (.attestReport fails) s = .next t ∧ t.sec.attest = none ∧ sent a.port t w ∧ w.plane = 1 ∧ w.typ = 0x08 ∧ w.dest = a.src
        ∧ w.body = leBytes 1 1 ++ leBytes 7 0 ++ s.loft.certificate.bytes) ∧
    (∀ a nonce fails next, s.sec.attest = some (a, 0, nonce) → s.portUp a.port = true → s.flag R.LNK_PROTO.POS_VALID = true →
      next = s.get R.SEC_SIGIDX.NEXT → next < 2 ^ 25 - 2 ^ 20 → next ≠ s.loft.sigLimit →
      ∃ t w sig, exec (.attestReport fails) s = .next t ∧ t.sec.attest = none ∧ t.get R.SEC_SIGIDX.NEXT = next + 1 ∧ s.counted R.SEC_CNT_ATTEST.ATTEST 1 t
        ∧ t.loft = s.loft ∧ sent a.port t w ∧ w.plane = 1 ∧ w.typ = 0x08 ∧ w.dest = a.src
        ∧ w.body = leBytes 1 0 ++ leBytes 7 0 ++ { s with sec := { s.sec with attest := none } }.report nonce ++ sig ∧ sig.length = 3124) ∧
    (s.boot.inReset = false →
      ∃ t, exec .treeBuildDone s = .next t ∧ s.frame [.sec] [R.SEC_STAT.ATTEST_EXH, R.SEC_STAT.ATTEST_READY] t
        ∧ (s.sec.treeBuilt = none → t.sec.treeBuilt = some (min (s.get R.SEC_SIGIDX.NEXT / 32768) 1023))
        ∧ (∀ k, s.sec.treeBuilt = some k → t.sec.treeBuilt = some (min (k + 1) 1023)))

/-- R463, for every critical command: `act` is what the command does once accepted. Completes under conditions on state and operands alone: securityOpDone. -/
def Obligations.CommandCounterIsTested : Prop :=
  State.reset.loft.lastCtr = 0 ∧
  (∀ (s : State) key a, s.sec.op = some (.rekey key, a) → ∃ t, exec (.securityOpDone false) s = .next t ∧ t.loft.lastCtr = 0) ∧
  (∀ (s : State) (a : Asker) (body : List Byte) (cmd plen ctr : Nat) (lastFails : Bool) (act : State → State),
    s.commandTag body plen = (body.drop (16 + plen)).take 16 → ¬ (a.plane = 1 ∧ (a.typ = 0x0E ∨ a.typ = 0x0F)) → ctr < 2 ^ 64 →
    let refused (reason : Nat) : Prop := ∃ t, s.authenticate a body cmd plen ctr lastFails act = t ∧ s.queues a 0x0F reason 24 0 t ∧ t.loft = s.loft
    let accepted : Prop := lastFails = false → ∃ u, s.authenticate a body cmd plen ctr lastFails act = act u ∧ u.loft = s.loft.withLast ctr
    (s.loft.lastCtr = 2 ^ 64 - 1 → cmd ≠ 6 → refused rcExhausted) ∧
    (s.loft.lastCtr = 2 ^ 64 - 1 → cmd = 6 → ctr ≠ 2 ^ 64 - 1 → refused rcReplay) ∧
    (s.loft.lastCtr = 2 ^ 64 - 1 → cmd = 6 → ctr = 2 ^ 64 - 1 → accepted) ∧
    (s.loft.lastCtr ≠ 2 ^ 64 - 1 → ctr ≤ s.loft.lastCtr → refused rcReplay) ∧
    (s.loft.lastCtr ≠ 2 ^ 64 - 1 → s.loft.lastCtr < ctr → accepted))

/-- R484, for every trigger of every code. -/
def Obligations.RepeatedTriggersAreSuppressed : Prop :=
  ∀ (s : State) (code : Nat) (detail : List Byte),
    (talMandatory code = false → sparseGet 0 s.tal.lastRec code ≠ 0 → s.tim.cycles + 1 < sparseGet 0 s.tal.lastRec code + hundredMs →
      (s.tally code detail).tal.queue = s.tal.queue ∧ s.counted R.TAL_CNT_SUPPR.SUPPR 1 (s.tally code detail)
        ∧ sparseGet 0 (s.tally code detail).tal.suppr code = sparseGet 0 s.tal.suppr code + 1
        ∧ (s.tally code detail).tal = { s.tal with suppr := (s.tally code detail).tal.suppr }
        ∧ s.frame [.tal] [R.TAL_CNT_SUPPR.SUPPR, R.TAL_CNTOVF.OVF] (s.tally code detail)) ∧
    ((talMandatory code = true ∨ sparseGet 0 s.tal.lastRec code = 0 ∨ sparseGet 0 s.tal.lastRec code + hundredMs ≤ s.tim.cycles + 1) →
      s.tal.queue.length < 56 →
      ∃ e, (s.tally code detail).tal.queue = s.tal.queue ++ [e] ∧ e.code = code ∧ e.suppr = sparseGet 0 s.tal.suppr code
        ∧ sparseGet 0 (s.tally code detail).tal.suppr code = 0
        ∧ sparseGet 0 (s.tally code detail).tal.lastRec code = s.tim.cycles + 1)

/-- R20: the floor, as the one whole number between the product and the product less 1. -/
def Obligations.TicksOfNetworkTime : Prop :=
  ∀ t : NetTime, t.ns < 10 ^ 9 → t.frac < 65536 →
    ∃ n, t.tick = t.sec * 491520000 + n ∧ n * (65536 * 100000) ≤ (t.ns * 65536 + t.frac) * 49152
      ∧ (t.ns * 65536 + t.frac) * 49152 < (n + 1) * (65536 * 100000) ∧ n < 491520000
end

