-- ==== Sys2Proof/Decode.lean ====
section
/-! DEFINITION. Words of the opcode table. spec/opcode_table.json lists every row without bits: a command reaches the block as a message, a
pin event, a register access or an event of one of its engines, never as a word. -/

namespace Sys2Proof

/-- The command that a word spells by the table's bits: no row has any. (Log: 3 DEDUCED) -/
def decodeTableWord (_nbits _w : Nat) : Option Instr := none

end Sys2Proof
end

