-- ==== Sys2Proof/Laws/Sparse.lean ====
section
/-! SUPPORT. Laws of the sparse maps: a read after a write, and that every write keeps the canonical form. -/

namespace Sys2Proof.Machine

theorem sparseGet_insert {β : Type} (d : β) (m : Sparse β) (k : Nat) (v : β) (x : Nat) (h : ∀ e ∈ m, e.1 ≠ k) :
    sparseGet d (sparseInsert m k v) x = if x = k then v else sparseGet d m x := by
  induction m with
  | nil => rfl
  | cons e r ih =>
    obtain ⟨a, w⟩ := e
    have ha : a ≠ k := h (a, w) List.mem_cons_self
    have hr := ih (fun e he => h e (List.mem_cons_of_mem _ he))
    by_cases hk : k < a
    · simp [sparseInsert, sparseGet, hk]
    · by_cases hx : x = a
      · subst hx; simp [sparseInsert, sparseGet, hk, ha]
      · simp [sparseInsert, sparseGet, hk, hx, hr]

theorem sparseGet_filter {β : Type} (d : β) (m : Sparse β) (k x : Nat) :
    sparseGet d (m.filter (fun e => e.1 != k)) x = if x = k then d else sparseGet d m x := by
  induction m with
  | nil => simp [sparseGet]
  | cons e r ih =>
    obtain ⟨a, w⟩ := e
    by_cases ha : a = k
    · by_cases hx : x = k
      · subst hx; simpa [ha] using ih
      · simp [sparseGet, ih, hx, ha]
    · have hb : (a != k) = true := by simpa using ha
      by_cases hx : x = a
      · subst hx; simp [hb, sparseGet, ha]
      · simp [hb, sparseGet, ih, hx]

variable {β : Type} [DecidableEq β]

/-- A read after a write, where the key read may have another default than the key written. -/
theorem sparseGet_set_of (d d' : β) (m : Sparse β) (k : Nat) (v : β) (x : Nat) (h : x = k → d' = d) :
    sparseGet d' (sparseSet d m k v) x = if x = k then v else sparseGet d' m x := by
  unfold sparseSet
  by_cases hv : v = d
  · simp only [hv, if_true, sparseGet_filter]
    by_cases hx : x = k
    · simp [hx, h hx]
    · simp [hx]
  · have h : ∀ e ∈ m.filter (fun e => e.1 != k), e.1 ≠ k := by simp
    simp only [hv, if_false]
    rw [sparseGet_insert _ _ _ _ _ h, sparseGet_filter]
    by_cases hx : x = k <;> simp [hx]

/-- A read after a write: the value written at its key, what was there at every other. -/
theorem sparseGet_set (d : β) (m : Sparse β) (k : Nat) (v : β) (x : Nat) :
    sparseGet d (sparseSet d m k v) x = if x = k then v else sparseGet d m x := sparseGet_set_of d d m k v x (fun _ => rfl)

@[simp] theorem sparseGet_set_same (d : β) (m : Sparse β) (k : Nat) (v : β) :
    sparseGet d (sparseSet d m k v) k = v := by simp [sparseGet_set]

@[simp] theorem sparseGet_set_ne (d : β) (m : Sparse β) (k : Nat) (v : β) (x : Nat) (h : x ≠ k) :
    sparseGet d (sparseSet d m k v) x = sparseGet d m x := by simp [sparseGet_set, h]

/-- A read after a write of consecutive keys. -/
theorem sparseGet_setList (d : β) (l : List β) : ∀ (m : Sparse β) (k x : Nat),
    sparseGet d (sparseSetList d m k l) x = if k ≤ x ∧ x < k + l.length then (l.drop (x - k)).head?.getD d else sparseGet d m x := by
  induction l with
  | nil => intro m k x; simp only [sparseSetList, List.length_nil]; rw [if_neg (by omega)]
  | cons v r ih =>
    intro m k x
    simp only [sparseSetList, ih, sparseGet_set, List.length_cons]
    rcases Nat.lt_trichotomy x k with h | h | h
    · rw [if_neg (by omega), if_neg (by omega), if_neg (by omega)]
    · subst h; rw [if_neg (by omega), if_pos rfl, if_pos (by omega)]; simp
    · by_cases hx : x < k + (r.length + 1)
      · rw [if_pos (by omega), if_pos (by omega)]
        obtain ⟨j, rfl⟩ : ∃ j, x = k + 1 + j := ⟨x - (k + 1), by omega⟩
        have : k + 1 + j - k = j + 1 := by omega
        simp [this]
      · rw [if_neg (by omega), if_neg (by omega), if_neg (by omega)]

/-- A lower bound of the keys may fall. -/
theorem sparseWf_mono (D : Nat → β) {lo lo' : Nat} (h : lo' ≤ lo) : ∀ {m : Sparse β}, sparseWf D lo m = true → sparseWf D lo' m = true
  | [], _ => rfl
  | (a, v) :: r, hm => by
    simp only [sparseWf, Bool.and_eq_true, decide_eq_true_eq] at hm ⊢
    exact ⟨⟨by omega, hm.1.2⟩, hm.2⟩

/-- Dropping pairs keeps the canonical form. -/
theorem sparseWf_filter (D : Nat → β) (p : Nat × β → Bool) : ∀ {lo : Nat} {m : Sparse β}, sparseWf D lo m = true → sparseWf D lo (m.filter p) = true
  | _, [], _ => rfl
  | lo, (a, v) :: r, hm => by
    simp only [sparseWf, Bool.and_eq_true, decide_eq_true_eq] at hm
    have ih := sparseWf_filter D p hm.2
    by_cases hp : p (a, v)
    · simp only [List.filter_cons, hp, if_true, sparseWf, Bool.and_eq_true, decide_eq_true_eq]
      exact ⟨hm.1, ih⟩
    · simp only [List.filter_cons, hp]
      exact sparseWf_mono D (by omega) ih

theorem sparseWf_insert (D : Nat → β) (k : Nat) (v : β) (hv : v ≠ D k) : ∀ {lo : Nat} {m : Sparse β},
    sparseWf D lo m = true → lo ≤ k → (∀ e ∈ m, e.1 ≠ k) → sparseWf D lo (sparseInsert m k v) = true
  | lo, [], _, hk, _ => by simp [sparseInsert, sparseWf, hk, hv]
  | lo, (a, w) :: r, hm, hk, hne => by
    have hm' := hm
    simp only [sparseWf, Bool.and_eq_true, decide_eq_true_eq] at hm
    have ha : a ≠ k := hne (a, w) List.mem_cons_self
    by_cases hka : k < a
    · simp only [sparseInsert, hka, if_true, sparseWf, Bool.and_eq_true, decide_eq_true_eq]
      exact ⟨⟨hk, hv⟩, ⟨by omega, hm.1.2⟩, hm.2⟩
    · simp only [sparseInsert, hka, if_false, sparseWf, Bool.and_eq_true, decide_eq_true_eq]
      exact ⟨hm.1, sparseWf_insert D k v hv hm.2 (by omega) (fun e he => hne e (List.mem_cons_of_mem _ he))⟩

/-- A write keeps the canonical form. -/
theorem sparseWf_set (D : Nat → β) {d : β} {m : Sparse β} (k : Nat) (v : β) (hd : D k = d) (hm : sparseWf D 0 m = true) :
    sparseWf D 0 (sparseSet d m k v) = true := by
  have hf := sparseWf_filter D (fun e => e.1 != k) hm
  unfold sparseSet
  by_cases hv : v = d
  · simpa [hv] using hf
  · simp only [hv, if_false]
    exact sparseWf_insert D k v (by rw [hd]; exact hv) hf (Nat.zero_le _) (by simp)

/-- So does a write of consecutive keys. -/
theorem sparseWf_setList {d : β} (l : List β) : ∀ {m : Sparse β} (k : Nat),
    sparseWf (fun _ => d) 0 m = true → sparseWf (fun _ => d) 0 (sparseSetList d m k l) = true := by
  induction l with
  | nil => intro m k h; exact h
  | cons v r ih => intro m k h; exact ih (k + 1) (sparseWf_set _ k v rfl h)

end Sys2Proof.Machine
end

