-- ==== Sys2Proof/Laws/Registers.lean ====
section
/-! SUPPORT. Laws of the register file: what a field reads after a write of it, of another field, or of a counter. -/

namespace Sys2Proof.Machine

theorem Fld.testBit_read (f : Fld) (w : Word) (i : Nat) :
    (f.read w).testBit i = (decide (i < f.width) && w.getLsbD (f.lo + i)) := by
  simp [Fld.read, Nat.testBit_mod_two_pow, Nat.testBit_div_two_pow, BitVec.getLsbD, Nat.add_comm]

theorem Fld.getLsbD_mask (f : Fld) (j : Nat) : f.mask.getLsbD j = (decide (j < 32) && decide (f.lo ≤ j) && decide (j - f.lo < f.width)) := by
  simp only [Fld.mask, BitVec.getLsbD_ofNat, Nat.testBit_mul_two_pow, Nat.testBit_two_pow_sub_one]
  by_cases h1 : j < 32 <;> by_cases h2 : f.lo ≤ j <;> simp [h1, h2]

theorem Fld.getLsbD_insert (f : Fld) (w : Word) (x j : Nat) :
    (f.insert w x).getLsbD j =
      if j < 32 ∧ f.lo ≤ j ∧ j - f.lo < f.width then x.testBit (j - f.lo) else w.getLsbD j := by
  by_cases h : j < 32 ∧ f.lo ≤ j ∧ j - f.lo < f.width
  · simp only [Fld.insert, BitVec.getLsbD_or, BitVec.getLsbD_and, BitVec.getLsbD_not, Fld.getLsbD_mask, h, BitVec.getLsbD_ofNat,
      Nat.testBit_mul_two_pow, Nat.testBit_mod_two_pow]
    simp
  · have hm : f.mask.getLsbD j = false := by
      rw [Fld.getLsbD_mask]
      by_cases h1 : j < 32 <;> by_cases h2 : f.lo ≤ j <;> simp_all
    simp only [Fld.insert, BitVec.getLsbD_or, BitVec.getLsbD_and, BitVec.getLsbD_not, hm, if_neg h]
    by_cases h1 : j < 32
    · simp [h1]
    · simp [h1, BitVec.getLsbD_of_ge w j (by omega)]

/-- A field reads what was last inserted into it, at its width. -/
theorem Fld.read_insert (f : Fld) (w : Word) (x : Nat) (h : f.ok = true) : f.read (f.insert w x) = x % 2 ^ f.width := by
  simp only [Fld.ok, decide_eq_true_eq] at h
  apply Nat.eq_of_testBit_eq
  intro i
  rw [Fld.testBit_read, Fld.getLsbD_insert, Nat.testBit_mod_two_pow]
  by_cases hi : i < f.width
  · have : f.lo + i < 32 := by simp only [Fld.width] at hi; omega
    simp [hi, this]
  · simp [hi]

/-- Inserting into a field leaves the fields of the same word that share no bit with it. -/
theorem Fld.read_insert_apart (f g : Fld) (w : Word) (x : Nat) (h : g.hi < f.lo ∨ f.hi < g.lo) (hg : g.lo ≤ g.hi) (hf : f.lo ≤ f.hi) :
    g.read (f.insert w x) = g.read w := by
  apply Nat.eq_of_testBit_eq
  intro i
  rw [Fld.testBit_read, Fld.testBit_read, Fld.getLsbD_insert]
  by_cases hi : i < g.width
  · rw [if_neg]
    simp only [Fld.width] at hi ⊢
    omega
  · simp [hi]

theorem Fld.read_lt (f : Fld) (w : Word) : f.read w < 2 ^ f.width := Nat.mod_lt _ (Nat.two_pow_pos _)

-- Words

theorem State.word_setWord (s : State) (a : Nat) (w : Word) (b : Nat) : (s.setWord a w).word b = if b = a then w else s.word b := by
  exact sparseGet_set_of _ _ _ _ _ _ (fun h => by rw [h]; rfl)

theorem State.word_put (s : State) (f : Fld) (x b : Nat) :
    (s.put f x).word b = if b = f.addr then f.insert (s.word b) x else s.word b := by
  by_cases h : b = f.addr
  · subst h; simp [State.put, State.word_setWord]
  · simp [State.put, State.word_setWord, h]

-- Fields

theorem State.get_lt (s : State) (f : Fld) : s.get f < 2 ^ f.width := Fld.read_lt f _

/-- A field reads what was last written to it, at its width. -/
theorem State.get_put (s : State) (f : Fld) (x : Nat) (h : f.ok = true) : (s.put f x).get f = x % 2 ^ f.width := by
  simp [State.get, State.word_put, Fld.read_insert f _ x h]

/-- Writing a field leaves every field that shares no bit with it. -/
theorem State.get_put_apart (s : State) (f g : Fld) (x : Nat) (hf : f.ok = true) (hg : g.ok = true) (h : f.apart g = true) :
    (s.put f x).get g = s.get g := by
  simp only [Fld.ok, Fld.apart, decide_eq_true_eq] at *
  unfold State.get
  rw [State.word_put]
  by_cases ha : g.addr = f.addr
  · rw [if_pos ha]; exact Fld.read_insert_apart f g _ x (by omega) hg.1 hf.1
  · rw [if_neg ha]

theorem State.flag_putFlag (s : State) (f : Fld) (b : Bool) (h : f.ok = true) : (s.putFlag f b).flag f = b := by
  have hw : 1 < 2 ^ f.width := Nat.one_lt_two_pow (by simp [Fld.width])
  cases b <;> simp [State.putFlag, State.flag, State.get_put _ _ _ h, Nat.mod_eq_of_lt hw]

theorem bit_add_pow (x i : Nat) (h : bit x i = false) : bit (x + 2 ^ i) i = true := by
  simp only [bit, Bool.beq_eq_decide_eq, decide_eq_false_iff_not, decide_eq_true_eq] at *
  rw [Nat.add_div_right _ (Nat.two_pow_pos i)]
  omega

end Sys2Proof.Machine
end

