-- ==== Sys2Proof/Laws/State.lean ====
section
/-! SUPPORT. One lemma per field of the state and named update: what the update leaves. No later proof unfolds one of these
updates to read another field. -/

namespace Sys2Proof.Machine

@[simp] theorem State.setWord_pending (s : State) (a : Nat) (w : Word) : (s.setWord a w).pending = s.pending := rfl
@[simp] theorem State.setWord_part (s : State) (a : Nat) (w : Word) : (s.setWord a w).part = s.part := rfl
@[simp] theorem State.setWord_free (s : State) (a : Nat) (w : Word) : (s.setWord a w).free = s.free := rfl
@[simp] theorem State.setWord_vaon (s : State) (a : Nat) (w : Word) : (s.setWord a w).vaon = s.vaon := rfl
@[simp] theorem State.setWord_boot (s : State) (a : Nat) (w : Word) : (s.setWord a w).boot = s.boot := rfl
@[simp] theorem State.setWord_tim (s : State) (a : Nat) (w : Word) : (s.setWord a w).tim = s.tim := rfl
@[simp] theorem State.setWord_wire (s : State) (a : Nat) (w : Word) : (s.setWord a w).wire = s.wire := rfl
@[simp] theorem State.setWord_answers (s : State) (a : Nat) (w : Word) : (s.setWord a w).answers = s.answers := rfl
@[simp] theorem State.setWord_lost (s : State) (a : Nat) (w : Word) : (s.setWord a w).lost = s.lost := rfl
@[simp] theorem State.setWord_txSeq (s : State) (a : Nat) (w : Word) : (s.setWord a w).txSeq = s.txSeq := rfl
@[simp] theorem State.setWord_streams (s : State) (a : Nat) (w : Word) : (s.setWord a w).streams = s.streams := rfl
@[simp] theorem State.setWord_alarms (s : State) (a : Nat) (w : Word) : (s.setWord a w).alarms = s.alarms := rfl
@[simp] theorem State.setWord_loft (s : State) (a : Nat) (w : Word) : (s.setWord a w).loft = s.loft := rfl
@[simp] theorem State.setWord_sec (s : State) (a : Nat) (w : Word) : (s.setWord a w).sec = s.sec := rfl
@[simp] theorem State.setWord_tal (s : State) (a : Nat) (w : Word) : (s.setWord a w).tal = s.tal := rfl
@[simp] theorem State.setWord_shf (s : State) (a : Nat) (w : Word) : (s.setWord a w).shf = s.shf := rfl
@[simp] theorem State.setWord_lnk (s : State) (a : Nat) (w : Word) : (s.setWord a w).lnk = s.lnk := rfl
@[simp] theorem State.setWord_mem (s : State) (a : Nat) (w : Word) : (s.setWord a w).mem = s.mem := rfl
@[simp] theorem State.setWord_dma (s : State) (a : Nat) (w : Word) : (s.setWord a w).dma = s.dma := rfl
@[simp] theorem State.setWord_cnv (s : State) (a : Nat) (w : Word) : (s.setWord a w).cnv = s.cnv := rfl
@[simp] theorem State.setWord_rfe (s : State) (a : Nat) (w : Word) : (s.setWord a w).rfe = s.rfe := rfl
@[simp] theorem State.setWord_txc (s : State) (a : Nat) (w : Word) : (s.setWord a w).txc = s.txc := rfl
@[simp] theorem State.setWord_con (s : State) (a : Nat) (w : Word) : (s.setWord a w).con = s.con := rfl
@[simp] theorem State.setWord_rxc (s : State) (a : Nat) (w : Word) : (s.setWord a w).rxc = s.rxc := rfl
@[simp] theorem State.setWord_mon (s : State) (a : Nat) (w : Word) : (s.setWord a w).mon = s.mon := rfl
@[simp] theorem State.setWord_dpd (s : State) (a : Nat) (w : Word) : (s.setWord a w).dpd = s.dpd := rfl
@[simp] theorem State.setWord_tiles (s : State) (a : Nat) (w : Word) : (s.setWord a w).tiles = s.tiles := rfl
@[simp] theorem State.setWord_jtag (s : State) (a : Nat) (w : Word) : (s.setWord a w).jtag = s.jtag := rfl

@[simp] theorem State.put_pending (s : State) (f : Fld) (x : Nat) : (s.put f x).pending = s.pending := rfl
@[simp] theorem State.put_part (s : State) (f : Fld) (x : Nat) : (s.put f x).part = s.part := rfl
@[simp] theorem State.put_free (s : State) (f : Fld) (x : Nat) : (s.put f x).free = s.free := rfl
@[simp] theorem State.put_vaon (s : State) (f : Fld) (x : Nat) : (s.put f x).vaon = s.vaon := rfl
@[simp] theorem State.put_boot (s : State) (f : Fld) (x : Nat) : (s.put f x).boot = s.boot := rfl
@[simp] theorem State.put_tim (s : State) (f : Fld) (x : Nat) : (s.put f x).tim = s.tim := rfl
@[simp] theorem State.put_wire (s : State) (f : Fld) (x : Nat) : (s.put f x).wire = s.wire := rfl
@[simp] theorem State.put_answers (s : State) (f : Fld) (x : Nat) : (s.put f x).answers = s.answers := rfl
@[simp] theorem State.put_lost (s : State) (f : Fld) (x : Nat) : (s.put f x).lost = s.lost := rfl
@[simp] theorem State.put_txSeq (s : State) (f : Fld) (x : Nat) : (s.put f x).txSeq = s.txSeq := rfl
@[simp] theorem State.put_streams (s : State) (f : Fld) (x : Nat) : (s.put f x).streams = s.streams := rfl
@[simp] theorem State.put_alarms (s : State) (f : Fld) (x : Nat) : (s.put f x).alarms = s.alarms := rfl
@[simp] theorem State.put_loft (s : State) (f : Fld) (x : Nat) : (s.put f x).loft = s.loft := rfl
@[simp] theorem State.put_sec (s : State) (f : Fld) (x : Nat) : (s.put f x).sec = s.sec := rfl
@[simp] theorem State.put_tal (s : State) (f : Fld) (x : Nat) : (s.put f x).tal = s.tal := rfl
@[simp] theorem State.put_shf (s : State) (f : Fld) (x : Nat) : (s.put f x).shf = s.shf := rfl
@[simp] theorem State.put_lnk (s : State) (f : Fld) (x : Nat) : (s.put f x).lnk = s.lnk := rfl
@[simp] theorem State.put_mem (s : State) (f : Fld) (x : Nat) : (s.put f x).mem = s.mem := rfl
@[simp] theorem State.put_dma (s : State) (f : Fld) (x : Nat) : (s.put f x).dma = s.dma := rfl
@[simp] theorem State.put_cnv (s : State) (f : Fld) (x : Nat) : (s.put f x).cnv = s.cnv := rfl
@[simp] theorem State.put_rfe (s : State) (f : Fld) (x : Nat) : (s.put f x).rfe = s.rfe := rfl
@[simp] theorem State.put_txc (s : State) (f : Fld) (x : Nat) : (s.put f x).txc = s.txc := rfl
@[simp] theorem State.put_con (s : State) (f : Fld) (x : Nat) : (s.put f x).con = s.con := rfl
@[simp] theorem State.put_rxc (s : State) (f : Fld) (x : Nat) : (s.put f x).rxc = s.rxc := rfl
@[simp] theorem State.put_mon (s : State) (f : Fld) (x : Nat) : (s.put f x).mon = s.mon := rfl
@[simp] theorem State.put_dpd (s : State) (f : Fld) (x : Nat) : (s.put f x).dpd = s.dpd := rfl
@[simp] theorem State.put_tiles (s : State) (f : Fld) (x : Nat) : (s.put f x).tiles = s.tiles := rfl
@[simp] theorem State.put_jtag (s : State) (f : Fld) (x : Nat) : (s.put f x).jtag = s.jtag := rfl

@[simp] theorem State.putFlag_pending (s : State) (f : Fld) (b : Bool) : (s.putFlag f b).pending = s.pending := rfl
@[simp] theorem State.putFlag_part (s : State) (f : Fld) (b : Bool) : (s.putFlag f b).part = s.part := rfl
@[simp] theorem State.putFlag_free (s : State) (f : Fld) (b : Bool) : (s.putFlag f b).free = s.free := rfl
@[simp] theorem State.putFlag_vaon (s : State) (f : Fld) (b : Bool) : (s.putFlag f b).vaon = s.vaon := rfl
@[simp] theorem State.putFlag_boot (s : State) (f : Fld) (b : Bool) : (s.putFlag f b).boot = s.boot := rfl
@[simp] theorem State.putFlag_tim (s : State) (f : Fld) (b : Bool) : (s.putFlag f b).tim = s.tim := rfl
@[simp] theorem State.putFlag_wire (s : State) (f : Fld) (b : Bool) : (s.putFlag f b).wire = s.wire := rfl
@[simp] theorem State.putFlag_answers (s : State) (f : Fld) (b : Bool) : (s.putFlag f b).answers = s.answers := rfl
@[simp] theorem State.putFlag_lost (s : State) (f : Fld) (b : Bool) : (s.putFlag f b).lost = s.lost := rfl
@[simp] theorem State.putFlag_txSeq (s : State) (f : Fld) (b : Bool) : (s.putFlag f b).txSeq = s.txSeq := rfl
@[simp] theorem State.putFlag_streams (s : State) (f : Fld) (b : Bool) : (s.putFlag f b).streams = s.streams := rfl
@[simp] theorem State.putFlag_alarms (s : State) (f : Fld) (b : Bool) : (s.putFlag f b).alarms = s.alarms := rfl
@[simp] theorem State.putFlag_loft (s : State) (f : Fld) (b : Bool) : (s.putFlag f b).loft = s.loft := rfl
@[simp] theorem State.putFlag_sec (s : State) (f : Fld) (b : Bool) : (s.putFlag f b).sec = s.sec := rfl
@[simp] theorem State.putFlag_tal (s : State) (f : Fld) (b : Bool) : (s.putFlag f b).tal = s.tal := rfl
@[simp] theorem State.putFlag_shf (s : State) (f : Fld) (b : Bool) : (s.putFlag f b).shf = s.shf := rfl
@[simp] theorem State.putFlag_lnk (s : State) (f : Fld) (b : Bool) : (s.putFlag f b).lnk = s.lnk := rfl
@[simp] theorem State.putFlag_mem (s : State) (f : Fld) (b : Bool) : (s.putFlag f b).mem = s.mem := rfl
@[simp] theorem State.putFlag_dma (s : State) (f : Fld) (b : Bool) : (s.putFlag f b).dma = s.dma := rfl
@[simp] theorem State.putFlag_cnv (s : State) (f : Fld) (b : Bool) : (s.putFlag f b).cnv = s.cnv := rfl
@[simp] theorem State.putFlag_rfe (s : State) (f : Fld) (b : Bool) : (s.putFlag f b).rfe = s.rfe := rfl
@[simp] theorem State.putFlag_txc (s : State) (f : Fld) (b : Bool) : (s.putFlag f b).txc = s.txc := rfl
@[simp] theorem State.putFlag_con (s : State) (f : Fld) (b : Bool) : (s.putFlag f b).con = s.con := rfl
@[simp] theorem State.putFlag_rxc (s : State) (f : Fld) (b : Bool) : (s.putFlag f b).rxc = s.rxc := rfl
@[simp] theorem State.putFlag_mon (s : State) (f : Fld) (b : Bool) : (s.putFlag f b).mon = s.mon := rfl
@[simp] theorem State.putFlag_dpd (s : State) (f : Fld) (b : Bool) : (s.putFlag f b).dpd = s.dpd := rfl
@[simp] theorem State.putFlag_tiles (s : State) (f : Fld) (b : Bool) : (s.putFlag f b).tiles = s.tiles := rfl
@[simp] theorem State.putFlag_jtag (s : State) (f : Fld) (b : Bool) : (s.putFlag f b).jtag = s.jtag := rfl

@[simp] theorem State.putInt_pending (s : State) (f : Fld) (x : Int) : (s.putInt f x).pending = s.pending := rfl
@[simp] theorem State.putInt_part (s : State) (f : Fld) (x : Int) : (s.putInt f x).part = s.part := rfl
@[simp] theorem State.putInt_free (s : State) (f : Fld) (x : Int) : (s.putInt f x).free = s.free := rfl
@[simp] theorem State.putInt_vaon (s : State) (f : Fld) (x : Int) : (s.putInt f x).vaon = s.vaon := rfl
@[simp] theorem State.putInt_boot (s : State) (f : Fld) (x : Int) : (s.putInt f x).boot = s.boot := rfl
@[simp] theorem State.putInt_tim (s : State) (f : Fld) (x : Int) : (s.putInt f x).tim = s.tim := rfl
@[simp] theorem State.putInt_wire (s : State) (f : Fld) (x : Int) : (s.putInt f x).wire = s.wire := rfl
@[simp] theorem State.putInt_answers (s : State) (f : Fld) (x : Int) : (s.putInt f x).answers = s.answers := rfl
@[simp] theorem State.putInt_lost (s : State) (f : Fld) (x : Int) : (s.putInt f x).lost = s.lost := rfl
@[simp] theorem State.putInt_txSeq (s : State) (f : Fld) (x : Int) : (s.putInt f x).txSeq = s.txSeq := rfl
@[simp] theorem State.putInt_streams (s : State) (f : Fld) (x : Int) : (s.putInt f x).streams = s.streams := rfl
@[simp] theorem State.putInt_alarms (s : State) (f : Fld) (x : Int) : (s.putInt f x).alarms = s.alarms := rfl
@[simp] theorem State.putInt_loft (s : State) (f : Fld) (x : Int) : (s.putInt f x).loft = s.loft := rfl
@[simp] theorem State.putInt_sec (s : State) (f : Fld) (x : Int) : (s.putInt f x).sec = s.sec := rfl
@[simp] theorem State.putInt_tal (s : State) (f : Fld) (x : Int) : (s.putInt f x).tal = s.tal := rfl
@[simp] theorem State.putInt_shf (s : State) (f : Fld) (x : Int) : (s.putInt f x).shf = s.shf := rfl
@[simp] theorem State.putInt_lnk (s : State) (f : Fld) (x : Int) : (s.putInt f x).lnk = s.lnk := rfl
@[simp] theorem State.putInt_mem (s : State) (f : Fld) (x : Int) : (s.putInt f x).mem = s.mem := rfl
@[simp] theorem State.putInt_dma (s : State) (f : Fld) (x : Int) : (s.putInt f x).dma = s.dma := rfl
@[simp] theorem State.putInt_cnv (s : State) (f : Fld) (x : Int) : (s.putInt f x).cnv = s.cnv := rfl
@[simp] theorem State.putInt_rfe (s : State) (f : Fld) (x : Int) : (s.putInt f x).rfe = s.rfe := rfl
@[simp] theorem State.putInt_txc (s : State) (f : Fld) (x : Int) : (s.putInt f x).txc = s.txc := rfl
@[simp] theorem State.putInt_con (s : State) (f : Fld) (x : Int) : (s.putInt f x).con = s.con := rfl
@[simp] theorem State.putInt_rxc (s : State) (f : Fld) (x : Int) : (s.putInt f x).rxc = s.rxc := rfl
@[simp] theorem State.putInt_mon (s : State) (f : Fld) (x : Int) : (s.putInt f x).mon = s.mon := rfl
@[simp] theorem State.putInt_dpd (s : State) (f : Fld) (x : Int) : (s.putInt f x).dpd = s.dpd := rfl
@[simp] theorem State.putInt_tiles (s : State) (f : Fld) (x : Int) : (s.putInt f x).tiles = s.tiles := rfl
@[simp] theorem State.putInt_jtag (s : State) (f : Fld) (x : Int) : (s.putInt f x).jtag = s.jtag := rfl

@[simp] theorem State.setBit_pending (s : State) (f : Fld) (i : Nat) : (s.setBit f i).pending = s.pending := by
  unfold State.setBit; split <;> rfl
@[simp] theorem State.setBit_part (s : State) (f : Fld) (i : Nat) : (s.setBit f i).part = s.part := by
  unfold State.setBit; split <;> rfl
@[simp] theorem State.setBit_free (s : State) (f : Fld) (i : Nat) : (s.setBit f i).free = s.free := by
  unfold State.setBit; split <;> rfl
@[simp] theorem State.setBit_vaon (s : State) (f : Fld) (i : Nat) : (s.setBit f i).vaon = s.vaon := by
  unfold State.setBit; split <;> rfl
@[simp] theorem State.setBit_boot (s : State) (f : Fld) (i : Nat) : (s.setBit f i).boot = s.boot := by
  unfold State.setBit; split <;> rfl
@[simp] theorem State.setBit_tim (s : State) (f : Fld) (i : Nat) : (s.setBit f i).tim = s.tim := by
  unfold State.setBit; split <;> rfl
@[simp] theorem State.setBit_wire (s : State) (f : Fld) (i : Nat) : (s.setBit f i).wire = s.wire := by
  unfold State.setBit; split <;> rfl
@[simp] theorem State.setBit_answers (s : State) (f : Fld) (i : Nat) : (s.setBit f i).answers = s.answers := by
  unfold State.setBit; split <;> rfl
@[simp] theorem State.setBit_lost (s : State) (f : Fld) (i : Nat) : (s.setBit f i).lost = s.lost := by
  unfold State.setBit; split <;> rfl
@[simp] theorem State.setBit_txSeq (s : State) (f : Fld) (i : Nat) : (s.setBit f i).txSeq = s.txSeq := by
  unfold State.setBit; split <;> rfl
@[simp] theorem State.setBit_streams (s : State) (f : Fld) (i : Nat) : (s.setBit f i).streams = s.streams := by
  unfold State.setBit; split <;> rfl
@[simp] theorem State.setBit_alarms (s : State) (f : Fld) (i : Nat) : (s.setBit f i).alarms = s.alarms := by
  unfold State.setBit; split <;> rfl
@[simp] theorem State.setBit_loft (s : State) (f : Fld) (i : Nat) : (s.setBit f i).loft = s.loft := by
  unfold State.setBit; split <;> rfl
@[simp] theorem State.setBit_sec (s : State) (f : Fld) (i : Nat) : (s.setBit f i).sec = s.sec := by
  unfold State.setBit; split <;> rfl
@[simp] theorem State.setBit_tal (s : State) (f : Fld) (i : Nat) : (s.setBit f i).tal = s.tal := by
  unfold State.setBit; split <;> rfl
@[simp] theorem State.setBit_shf (s : State) (f : Fld) (i : Nat) : (s.setBit f i).shf = s.shf := by
  unfold State.setBit; split <;> rfl
@[simp] theorem State.setBit_lnk (s : State) (f : Fld) (i : Nat) : (s.setBit f i).lnk = s.lnk := by
  unfold State.setBit; split <;> rfl
@[simp] theorem State.setBit_mem (s : State) (f : Fld) (i : Nat) : (s.setBit f i).mem = s.mem := by
  unfold State.setBit; split <;> rfl
@[simp] theorem State.setBit_dma (s : State) (f : Fld) (i : Nat) : (s.setBit f i).dma = s.dma := by
  unfold State.setBit; split <;> rfl
@[simp] theorem State.setBit_cnv (s : State) (f : Fld) (i : Nat) : (s.setBit f i).cnv = s.cnv := by
  unfold State.setBit; split <;> rfl
@[simp] theorem State.setBit_rfe (s : State) (f : Fld) (i : Nat) : (s.setBit f i).rfe = s.rfe := by
  unfold State.setBit; split <;> rfl
@[simp] theorem State.setBit_txc (s : State) (f : Fld) (i : Nat) : (s.setBit f i).txc = s.txc := by
  unfold State.setBit; split <;> rfl
@[simp] theorem State.setBit_con (s : State) (f : Fld) (i : Nat) : (s.setBit f i).con = s.con := by
  unfold State.setBit; split <;> rfl
@[simp] theorem State.setBit_rxc (s : State) (f : Fld) (i : Nat) : (s.setBit f i).rxc = s.rxc := by
  unfold State.setBit; split <;> rfl
@[simp] theorem State.setBit_mon (s : State) (f : Fld) (i : Nat) : (s.setBit f i).mon = s.mon := by
  unfold State.setBit; split <;> rfl
@[simp] theorem State.setBit_dpd (s : State) (f : Fld) (i : Nat) : (s.setBit f i).dpd = s.dpd := by
  unfold State.setBit; split <;> rfl
@[simp] theorem State.setBit_tiles (s : State) (f : Fld) (i : Nat) : (s.setBit f i).tiles = s.tiles := by
  unfold State.setBit; split <;> rfl
@[simp] theorem State.setBit_jtag (s : State) (f : Fld) (i : Nat) : (s.setBit f i).jtag = s.jtag := by
  unfold State.setBit; split <;> rfl

@[simp] theorem State.clrBit_pending (s : State) (f : Fld) (i : Nat) : (s.clrBit f i).pending = s.pending := by
  unfold State.clrBit; split <;> rfl
@[simp] theorem State.clrBit_part (s : State) (f : Fld) (i : Nat) : (s.clrBit f i).part = s.part := by
  unfold State.clrBit; split <;> rfl
@[simp] theorem State.clrBit_free (s : State) (f : Fld) (i : Nat) : (s.clrBit f i).free = s.free := by
  unfold State.clrBit; split <;> rfl
@[simp] theorem State.clrBit_vaon (s : State) (f : Fld) (i : Nat) : (s.clrBit f i).vaon = s.vaon := by
  unfold State.clrBit; split <;> rfl
@[simp] theorem State.clrBit_boot (s : State) (f : Fld) (i : Nat) : (s.clrBit f i).boot = s.boot := by
  unfold State.clrBit; split <;> rfl
@[simp] theorem State.clrBit_tim (s : State) (f : Fld) (i : Nat) : (s.clrBit f i).tim = s.tim := by
  unfold State.clrBit; split <;> rfl
@[simp] theorem State.clrBit_wire (s : State) (f : Fld) (i : Nat) : (s.clrBit f i).wire = s.wire := by
  unfold State.clrBit; split <;> rfl
@[simp] theorem State.clrBit_answers (s : State) (f : Fld) (i : Nat) : (s.clrBit f i).answers = s.answers := by
  unfold State.clrBit; split <;> rfl
@[simp] theorem State.clrBit_lost (s : State) (f : Fld) (i : Nat) : (s.clrBit f i).lost = s.lost := by
  unfold State.clrBit; split <;> rfl
@[simp] theorem State.clrBit_txSeq (s : State) (f : Fld) (i : Nat) : (s.clrBit f i).txSeq = s.txSeq := by
  unfold State.clrBit; split <;> rfl
@[simp] theorem State.clrBit_streams (s : State) (f : Fld) (i : Nat) : (s.clrBit f i).streams = s.streams := by
  unfold State.clrBit; split <;> rfl
@[simp] theorem State.clrBit_alarms (s : State) (f : Fld) (i : Nat) : (s.clrBit f i).alarms = s.alarms := by
  unfold State.clrBit; split <;> rfl
@[simp] theorem State.clrBit_loft (s : State) (f : Fld) (i : Nat) : (s.clrBit f i).loft = s.loft := by
  unfold State.clrBit; split <;> rfl
@[simp] theorem State.clrBit_sec (s : State) (f : Fld) (i : Nat) : (s.clrBit f i).sec = s.sec := by
  unfold State.clrBit; split <;> rfl
@[simp] theorem State.clrBit_tal (s : State) (f : Fld) (i : Nat) : (s.clrBit f i).tal = s.tal := by
  unfold State.clrBit; split <;> rfl
@[simp] theorem State.clrBit_shf (s : State) (f : Fld) (i : Nat) : (s.clrBit f i).shf = s.shf := by
  unfold State.clrBit; split <;> rfl
@[simp] theorem State.clrBit_lnk (s : State) (f : Fld) (i : Nat) : (s.clrBit f i).lnk = s.lnk := by
  unfold State.clrBit; split <;> rfl
@[simp] theorem State.clrBit_mem (s : State) (f : Fld) (i : Nat) : (s.clrBit f i).mem = s.mem := by
  unfold State.clrBit; split <;> rfl
@[simp] theorem State.clrBit_dma (s : State) (f : Fld) (i : Nat) : (s.clrBit f i).dma = s.dma := by
  unfold State.clrBit; split <;> rfl
@[simp] theorem State.clrBit_cnv (s : State) (f : Fld) (i : Nat) : (s.clrBit f i).cnv = s.cnv := by
  unfold State.clrBit; split <;> rfl
@[simp] theorem State.clrBit_rfe (s : State) (f : Fld) (i : Nat) : (s.clrBit f i).rfe = s.rfe := by
  unfold State.clrBit; split <;> rfl
@[simp] theorem State.clrBit_txc (s : State) (f : Fld) (i : Nat) : (s.clrBit f i).txc = s.txc := by
  unfold State.clrBit; split <;> rfl
@[simp] theorem State.clrBit_con (s : State) (f : Fld) (i : Nat) : (s.clrBit f i).con = s.con := by
  unfold State.clrBit; split <;> rfl
@[simp] theorem State.clrBit_rxc (s : State) (f : Fld) (i : Nat) : (s.clrBit f i).rxc = s.rxc := by
  unfold State.clrBit; split <;> rfl
@[simp] theorem State.clrBit_mon (s : State) (f : Fld) (i : Nat) : (s.clrBit f i).mon = s.mon := by
  unfold State.clrBit; split <;> rfl
@[simp] theorem State.clrBit_dpd (s : State) (f : Fld) (i : Nat) : (s.clrBit f i).dpd = s.dpd := by
  unfold State.clrBit; split <;> rfl
@[simp] theorem State.clrBit_tiles (s : State) (f : Fld) (i : Nat) : (s.clrBit f i).tiles = s.tiles := by
  unfold State.clrBit; split <;> rfl
@[simp] theorem State.clrBit_jtag (s : State) (f : Fld) (i : Nat) : (s.clrBit f i).jtag = s.jtag := by
  unfold State.clrBit; split <;> rfl

@[simp] theorem State.countBy_pending (s : State) (c o : Fld) (i k : Nat) : (s.countBy c o i k).pending = s.pending := by
  unfold State.countBy; split <;> simp
@[simp] theorem State.countBy_part (s : State) (c o : Fld) (i k : Nat) : (s.countBy c o i k).part = s.part := by
  unfold State.countBy; split <;> simp
@[simp] theorem State.countBy_free (s : State) (c o : Fld) (i k : Nat) : (s.countBy c o i k).free = s.free := by
  unfold State.countBy; split <;> simp
@[simp] theorem State.countBy_vaon (s : State) (c o : Fld) (i k : Nat) : (s.countBy c o i k).vaon = s.vaon := by
  unfold State.countBy; split <;> simp
@[simp] theorem State.countBy_boot (s : State) (c o : Fld) (i k : Nat) : (s.countBy c o i k).boot = s.boot := by
  unfold State.countBy; split <;> simp
@[simp] theorem State.countBy_tim (s : State) (c o : Fld) (i k : Nat) : (s.countBy c o i k).tim = s.tim := by
  unfold State.countBy; split <;> simp
@[simp] theorem State.countBy_wire (s : State) (c o : Fld) (i k : Nat) : (s.countBy c o i k).wire = s.wire := by
  unfold State.countBy; split <;> simp
@[simp] theorem State.countBy_answers (s : State) (c o : Fld) (i k : Nat) : (s.countBy c o i k).answers = s.answers := by
  unfold State.countBy; split <;> simp
@[simp] theorem State.countBy_lost (s : State) (c o : Fld) (i k : Nat) : (s.countBy c o i k).lost = s.lost := by
  unfold State.countBy; split <;> simp
@[simp] theorem State.countBy_txSeq (s : State) (c o : Fld) (i k : Nat) : (s.countBy c o i k).txSeq = s.txSeq := by
  unfold State.countBy; split <;> simp
@[simp] theorem State.countBy_streams (s : State) (c o : Fld) (i k : Nat) : (s.countBy c o i k).streams = s.streams := by
  unfold State.countBy; split <;> simp
@[simp] theorem State.countBy_alarms (s : State) (c o : Fld) (i k : Nat) : (s.countBy c o i k).alarms = s.alarms := by
  unfold State.countBy; split <;> simp
@[simp] theorem State.countBy_loft (s : State) (c o : Fld) (i k : Nat) : (s.countBy c o i k).loft = s.loft := by
  unfold State.countBy; split <;> simp
@[simp] theorem State.countBy_sec (s : State) (c o : Fld) (i k : Nat) : (s.countBy c o i k).sec = s.sec := by
  unfold State.countBy; split <;> simp
@[simp] theorem State.countBy_tal (s : State) (c o : Fld) (i k : Nat) : (s.countBy c o i k).tal = s.tal := by
  unfold State.countBy; split <;> simp
@[simp] theorem State.countBy_shf (s : State) (c o : Fld) (i k : Nat) : (s.countBy c o i k).shf = s.shf := by
  unfold State.countBy; split <;> simp
@[simp] theorem State.countBy_lnk (s : State) (c o : Fld) (i k : Nat) : (s.countBy c o i k).lnk = s.lnk := by
  unfold State.countBy; split <;> simp
@[simp] theorem State.countBy_mem (s : State) (c o : Fld) (i k : Nat) : (s.countBy c o i k).mem = s.mem := by
  unfold State.countBy; split <;> simp
@[simp] theorem State.countBy_dma (s : State) (c o : Fld) (i k : Nat) : (s.countBy c o i k).dma = s.dma := by
  unfold State.countBy; split <;> simp
@[simp] theorem State.countBy_cnv (s : State) (c o : Fld) (i k : Nat) : (s.countBy c o i k).cnv = s.cnv := by
  unfold State.countBy; split <;> simp
@[simp] theorem State.countBy_rfe (s : State) (c o : Fld) (i k : Nat) : (s.countBy c o i k).rfe = s.rfe := by
  unfold State.countBy; split <;> simp
@[simp] theorem State.countBy_txc (s : State) (c o : Fld) (i k : Nat) : (s.countBy c o i k).txc = s.txc := by
  unfold State.countBy; split <;> simp
@[simp] theorem State.countBy_con (s : State) (c o : Fld) (i k : Nat) : (s.countBy c o i k).con = s.con := by
  unfold State.countBy; split <;> simp
@[simp] theorem State.countBy_rxc (s : State) (c o : Fld) (i k : Nat) : (s.countBy c o i k).rxc = s.rxc := by
  unfold State.countBy; split <;> simp
@[simp] theorem State.countBy_mon (s : State) (c o : Fld) (i k : Nat) : (s.countBy c o i k).mon = s.mon := by
  unfold State.countBy; split <;> simp
@[simp] theorem State.countBy_dpd (s : State) (c o : Fld) (i k : Nat) : (s.countBy c o i k).dpd = s.dpd := by
  unfold State.countBy; split <;> simp
@[simp] theorem State.countBy_tiles (s : State) (c o : Fld) (i k : Nat) : (s.countBy c o i k).tiles = s.tiles := by
  unfold State.countBy; split <;> simp
@[simp] theorem State.countBy_jtag (s : State) (c o : Fld) (i k : Nat) : (s.countBy c o i k).jtag = s.jtag := by
  unfold State.countBy; split <;> simp

@[simp] theorem State.count_pending (s : State) (c o : Fld) (i : Nat) : (s.count c o i).pending = s.pending := s.countBy_pending c o i 1
@[simp] theorem State.count_part (s : State) (c o : Fld) (i : Nat) : (s.count c o i).part = s.part := s.countBy_part c o i 1
@[simp] theorem State.count_free (s : State) (c o : Fld) (i : Nat) : (s.count c o i).free = s.free := s.countBy_free c o i 1
@[simp] theorem State.count_vaon (s : State) (c o : Fld) (i : Nat) : (s.count c o i).vaon = s.vaon := s.countBy_vaon c o i 1
@[simp] theorem State.count_boot (s : State) (c o : Fld) (i : Nat) : (s.count c o i).boot = s.boot := s.countBy_boot c o i 1
@[simp] theorem State.count_tim (s : State) (c o : Fld) (i : Nat) : (s.count c o i).tim = s.tim := s.countBy_tim c o i 1
@[simp] theorem State.count_wire (s : State) (c o : Fld) (i : Nat) : (s.count c o i).wire = s.wire := s.countBy_wire c o i 1
@[simp] theorem State.count_answers (s : State) (c o : Fld) (i : Nat) : (s.count c o i).answers = s.answers := s.countBy_answers c o i 1
@[simp] theorem State.count_lost (s : State) (c o : Fld) (i : Nat) : (s.count c o i).lost = s.lost := s.countBy_lost c o i 1
@[simp] theorem State.count_txSeq (s : State) (c o : Fld) (i : Nat) : (s.count c o i).txSeq = s.txSeq := s.countBy_txSeq c o i 1
@[simp] theorem State.count_streams (s : State) (c o : Fld) (i : Nat) : (s.count c o i).streams = s.streams := s.countBy_streams c o i 1
@[simp] theorem State.count_alarms (s : State) (c o : Fld) (i : Nat) : (s.count c o i).alarms = s.alarms := s.countBy_alarms c o i 1
@[simp] theorem State.count_loft (s : State) (c o : Fld) (i : Nat) : (s.count c o i).loft = s.loft := s.countBy_loft c o i 1
@[simp] theorem State.count_sec (s : State) (c o : Fld) (i : Nat) : (s.count c o i).sec = s.sec := s.countBy_sec c o i 1
@[simp] theorem State.count_tal (s : State) (c o : Fld) (i : Nat) : (s.count c o i).tal = s.tal := s.countBy_tal c o i 1
@[simp] theorem State.count_shf (s : State) (c o : Fld) (i : Nat) : (s.count c o i).shf = s.shf := s.countBy_shf c o i 1
@[simp] theorem State.count_lnk (s : State) (c o : Fld) (i : Nat) : (s.count c o i).lnk = s.lnk := s.countBy_lnk c o i 1
@[simp] theorem State.count_mem (s : State) (c o : Fld) (i : Nat) : (s.count c o i).mem = s.mem := s.countBy_mem c o i 1
@[simp] theorem State.count_dma (s : State) (c o : Fld) (i : Nat) : (s.count c o i).dma = s.dma := s.countBy_dma c o i 1
@[simp] theorem State.count_cnv (s : State) (c o : Fld) (i : Nat) : (s.count c o i).cnv = s.cnv := s.countBy_cnv c o i 1
@[simp] theorem State.count_rfe (s : State) (c o : Fld) (i : Nat) : (s.count c o i).rfe = s.rfe := s.countBy_rfe c o i 1
@[simp] theorem State.count_txc (s : State) (c o : Fld) (i : Nat) : (s.count c o i).txc = s.txc := s.countBy_txc c o i 1
@[simp] theorem State.count_con (s : State) (c o : Fld) (i : Nat) : (s.count c o i).con = s.con := s.countBy_con c o i 1
@[simp] theorem State.count_rxc (s : State) (c o : Fld) (i : Nat) : (s.count c o i).rxc = s.rxc := s.countBy_rxc c o i 1
@[simp] theorem State.count_mon (s : State) (c o : Fld) (i : Nat) : (s.count c o i).mon = s.mon := s.countBy_mon c o i 1
@[simp] theorem State.count_dpd (s : State) (c o : Fld) (i : Nat) : (s.count c o i).dpd = s.dpd := s.countBy_dpd c o i 1
@[simp] theorem State.count_tiles (s : State) (c o : Fld) (i : Nat) : (s.count c o i).tiles = s.tiles := s.countBy_tiles c o i 1
@[simp] theorem State.count_jtag (s : State) (c o : Fld) (i : Nat) : (s.count c o i).jtag = s.jtag := s.countBy_jtag c o i 1

@[simp] theorem State.fresh_pending (s : State) : (s.fresh).pending = s.pending := rfl
@[simp] theorem State.fresh_part (s : State) : (s.fresh).part = s.part := rfl
@[simp] theorem State.fresh_regs (s : State) : (s.fresh).regs = s.regs := rfl
@[simp] theorem State.fresh_vaon (s : State) : (s.fresh).vaon = s.vaon := rfl
@[simp] theorem State.fresh_boot (s : State) : (s.fresh).boot = s.boot := rfl
@[simp] theorem State.fresh_tim (s : State) : (s.fresh).tim = s.tim := rfl
@[simp] theorem State.fresh_wire (s : State) : (s.fresh).wire = s.wire := rfl
@[simp] theorem State.fresh_answers (s : State) : (s.fresh).answers = s.answers := rfl
@[simp] theorem State.fresh_lost (s : State) : (s.fresh).lost = s.lost := rfl
@[simp] theorem State.fresh_txSeq (s : State) : (s.fresh).txSeq = s.txSeq := rfl
@[simp] theorem State.fresh_streams (s : State) : (s.fresh).streams = s.streams := rfl
@[simp] theorem State.fresh_alarms (s : State) : (s.fresh).alarms = s.alarms := rfl
@[simp] theorem State.fresh_loft (s : State) : (s.fresh).loft = s.loft := rfl
@[simp] theorem State.fresh_sec (s : State) : (s.fresh).sec = s.sec := rfl
@[simp] theorem State.fresh_tal (s : State) : (s.fresh).tal = s.tal := rfl
@[simp] theorem State.fresh_shf (s : State) : (s.fresh).shf = s.shf := rfl
@[simp] theorem State.fresh_lnk (s : State) : (s.fresh).lnk = s.lnk := rfl
@[simp] theorem State.fresh_mem (s : State) : (s.fresh).mem = s.mem := rfl
@[simp] theorem State.fresh_dma (s : State) : (s.fresh).dma = s.dma := rfl
@[simp] theorem State.fresh_cnv (s : State) : (s.fresh).cnv = s.cnv := rfl
@[simp] theorem State.fresh_rfe (s : State) : (s.fresh).rfe = s.rfe := rfl
@[simp] theorem State.fresh_txc (s : State) : (s.fresh).txc = s.txc := rfl
@[simp] theorem State.fresh_con (s : State) : (s.fresh).con = s.con := rfl
@[simp] theorem State.fresh_rxc (s : State) : (s.fresh).rxc = s.rxc := rfl
@[simp] theorem State.fresh_mon (s : State) : (s.fresh).mon = s.mon := rfl
@[simp] theorem State.fresh_dpd (s : State) : (s.fresh).dpd = s.dpd := rfl
@[simp] theorem State.fresh_tiles (s : State) : (s.fresh).tiles = s.tiles := rfl
@[simp] theorem State.fresh_jtag (s : State) : (s.fresh).jtag = s.jtag := rfl

@[simp] theorem State.setChan_pending (s : State) (n : Nat) (c : Chan) : (s.setChan n c).pending = s.pending := rfl
@[simp] theorem State.setChan_part (s : State) (n : Nat) (c : Chan) : (s.setChan n c).part = s.part := rfl
@[simp] theorem State.setChan_regs (s : State) (n : Nat) (c : Chan) : (s.setChan n c).regs = s.regs := rfl
@[simp] theorem State.setChan_free (s : State) (n : Nat) (c : Chan) : (s.setChan n c).free = s.free := rfl
@[simp] theorem State.setChan_vaon (s : State) (n : Nat) (c : Chan) : (s.setChan n c).vaon = s.vaon := rfl
@[simp] theorem State.setChan_boot (s : State) (n : Nat) (c : Chan) : (s.setChan n c).boot = s.boot := rfl
@[simp] theorem State.setChan_tim (s : State) (n : Nat) (c : Chan) : (s.setChan n c).tim = s.tim := rfl
@[simp] theorem State.setChan_wire (s : State) (n : Nat) (c : Chan) : (s.setChan n c).wire = s.wire := rfl
@[simp] theorem State.setChan_answers (s : State) (n : Nat) (c : Chan) : (s.setChan n c).answers = s.answers := rfl
@[simp] theorem State.setChan_lost (s : State) (n : Nat) (c : Chan) : (s.setChan n c).lost = s.lost := rfl
@[simp] theorem State.setChan_txSeq (s : State) (n : Nat) (c : Chan) : (s.setChan n c).txSeq = s.txSeq := rfl
@[simp] theorem State.setChan_streams (s : State) (n : Nat) (c : Chan) : (s.setChan n c).streams = s.streams := rfl
@[simp] theorem State.setChan_alarms (s : State) (n : Nat) (c : Chan) : (s.setChan n c).alarms = s.alarms := rfl
@[simp] theorem State.setChan_loft (s : State) (n : Nat) (c : Chan) : (s.setChan n c).loft = s.loft := rfl
@[simp] theorem State.setChan_sec (s : State) (n : Nat) (c : Chan) : (s.setChan n c).sec = s.sec := rfl
@[simp] theorem State.setChan_tal (s : State) (n : Nat) (c : Chan) : (s.setChan n c).tal = s.tal := rfl
@[simp] theorem State.setChan_shf (s : State) (n : Nat) (c : Chan) : (s.setChan n c).shf = s.shf := rfl
@[simp] theorem State.setChan_lnk (s : State) (n : Nat) (c : Chan) : (s.setChan n c).lnk = s.lnk := rfl
@[simp] theorem State.setChan_mem (s : State) (n : Nat) (c : Chan) : (s.setChan n c).mem = s.mem := rfl
@[simp] theorem State.setChan_cnv (s : State) (n : Nat) (c : Chan) : (s.setChan n c).cnv = s.cnv := rfl
@[simp] theorem State.setChan_rfe (s : State) (n : Nat) (c : Chan) : (s.setChan n c).rfe = s.rfe := rfl
@[simp] theorem State.setChan_txc (s : State) (n : Nat) (c : Chan) : (s.setChan n c).txc = s.txc := rfl
@[simp] theorem State.setChan_con (s : State) (n : Nat) (c : Chan) : (s.setChan n c).con = s.con := rfl
@[simp] theorem State.setChan_rxc (s : State) (n : Nat) (c : Chan) : (s.setChan n c).rxc = s.rxc := rfl
@[simp] theorem State.setChan_mon (s : State) (n : Nat) (c : Chan) : (s.setChan n c).mon = s.mon := rfl
@[simp] theorem State.setChan_dpd (s : State) (n : Nat) (c : Chan) : (s.setChan n c).dpd = s.dpd := rfl
@[simp] theorem State.setChan_tiles (s : State) (n : Nat) (c : Chan) : (s.setChan n c).tiles = s.tiles := rfl
@[simp] theorem State.setChan_jtag (s : State) (n : Nat) (c : Chan) : (s.setChan n c).jtag = s.jtag := rfl

@[simp] theorem State.setBank_pending (s : State) (p o : Nat) (b : BankSet) : (s.setBank p o b).pending = s.pending := rfl
@[simp] theorem State.setBank_part (s : State) (p o : Nat) (b : BankSet) : (s.setBank p o b).part = s.part := rfl
@[simp] theorem State.setBank_regs (s : State) (p o : Nat) (b : BankSet) : (s.setBank p o b).regs = s.regs := rfl
@[simp] theorem State.setBank_free (s : State) (p o : Nat) (b : BankSet) : (s.setBank p o b).free = s.free := rfl
@[simp] theorem State.setBank_vaon (s : State) (p o : Nat) (b : BankSet) : (s.setBank p o b).vaon = s.vaon := rfl
@[simp] theorem State.setBank_boot (s : State) (p o : Nat) (b : BankSet) : (s.setBank p o b).boot = s.boot := rfl
@[simp] theorem State.setBank_tim (s : State) (p o : Nat) (b : BankSet) : (s.setBank p o b).tim = s.tim := rfl
@[simp] theorem State.setBank_wire (s : State) (p o : Nat) (b : BankSet) : (s.setBank p o b).wire = s.wire := rfl
@[simp] theorem State.setBank_answers (s : State) (p o : Nat) (b : BankSet) : (s.setBank p o b).answers = s.answers := rfl
@[simp] theorem State.setBank_lost (s : State) (p o : Nat) (b : BankSet) : (s.setBank p o b).lost = s.lost := rfl
@[simp] theorem State.setBank_txSeq (s : State) (p o : Nat) (b : BankSet) : (s.setBank p o b).txSeq = s.txSeq := rfl
@[simp] theorem State.setBank_streams (s : State) (p o : Nat) (b : BankSet) : (s.setBank p o b).streams = s.streams := rfl
@[simp] theorem State.setBank_alarms (s : State) (p o : Nat) (b : BankSet) : (s.setBank p o b).alarms = s.alarms := rfl
@[simp] theorem State.setBank_loft (s : State) (p o : Nat) (b : BankSet) : (s.setBank p o b).loft = s.loft := rfl
@[simp] theorem State.setBank_sec (s : State) (p o : Nat) (b : BankSet) : (s.setBank p o b).sec = s.sec := rfl
@[simp] theorem State.setBank_tal (s : State) (p o : Nat) (b : BankSet) : (s.setBank p o b).tal = s.tal := rfl
@[simp] theorem State.setBank_shf (s : State) (p o : Nat) (b : BankSet) : (s.setBank p o b).shf = s.shf := rfl
@[simp] theorem State.setBank_lnk (s : State) (p o : Nat) (b : BankSet) : (s.setBank p o b).lnk = s.lnk := rfl
@[simp] theorem State.setBank_mem (s : State) (p o : Nat) (b : BankSet) : (s.setBank p o b).mem = s.mem := rfl
@[simp] theorem State.setBank_dma (s : State) (p o : Nat) (b : BankSet) : (s.setBank p o b).dma = s.dma := rfl
@[simp] theorem State.setBank_cnv (s : State) (p o : Nat) (b : BankSet) : (s.setBank p o b).cnv = s.cnv := rfl
@[simp] theorem State.setBank_rfe (s : State) (p o : Nat) (b : BankSet) : (s.setBank p o b).rfe = s.rfe := rfl
@[simp] theorem State.setBank_txc (s : State) (p o : Nat) (b : BankSet) : (s.setBank p o b).txc = s.txc := rfl
@[simp] theorem State.setBank_con (s : State) (p o : Nat) (b : BankSet) : (s.setBank p o b).con = s.con := rfl
@[simp] theorem State.setBank_rxc (s : State) (p o : Nat) (b : BankSet) : (s.setBank p o b).rxc = s.rxc := rfl
@[simp] theorem State.setBank_mon (s : State) (p o : Nat) (b : BankSet) : (s.setBank p o b).mon = s.mon := rfl
@[simp] theorem State.setBank_tiles (s : State) (p o : Nat) (b : BankSet) : (s.setBank p o b).tiles = s.tiles := rfl
@[simp] theorem State.setBank_jtag (s : State) (p o : Nat) (b : BankSet) : (s.setBank p o b).jtag = s.jtag := rfl

@[simp] theorem State.setLane_pending (s : State) (n : Nat) (l : Lane) : (s.setLane n l).pending = s.pending := rfl
@[simp] theorem State.setLane_part (s : State) (n : Nat) (l : Lane) : (s.setLane n l).part = s.part := rfl
@[simp] theorem State.setLane_regs (s : State) (n : Nat) (l : Lane) : (s.setLane n l).regs = s.regs := rfl
@[simp] theorem State.setLane_free (s : State) (n : Nat) (l : Lane) : (s.setLane n l).free = s.free := rfl
@[simp] theorem State.setLane_vaon (s : State) (n : Nat) (l : Lane) : (s.setLane n l).vaon = s.vaon := rfl
@[simp] theorem State.setLane_boot (s : State) (n : Nat) (l : Lane) : (s.setLane n l).boot = s.boot := rfl
@[simp] theorem State.setLane_tim (s : State) (n : Nat) (l : Lane) : (s.setLane n l).tim = s.tim := rfl
@[simp] theorem State.setLane_wire (s : State) (n : Nat) (l : Lane) : (s.setLane n l).wire = s.wire := rfl
@[simp] theorem State.setLane_answers (s : State) (n : Nat) (l : Lane) : (s.setLane n l).answers = s.answers := rfl
@[simp] theorem State.setLane_lost (s : State) (n : Nat) (l : Lane) : (s.setLane n l).lost = s.lost := rfl
@[simp] theorem State.setLane_txSeq (s : State) (n : Nat) (l : Lane) : (s.setLane n l).txSeq = s.txSeq := rfl
@[simp] theorem State.setLane_streams (s : State) (n : Nat) (l : Lane) : (s.setLane n l).streams = s.streams := rfl
@[simp] theorem State.setLane_alarms (s : State) (n : Nat) (l : Lane) : (s.setLane n l).alarms = s.alarms := rfl
@[simp] theorem State.setLane_loft (s : State) (n : Nat) (l : Lane) : (s.setLane n l).loft = s.loft := rfl
@[simp] theorem State.setLane_sec (s : State) (n : Nat) (l : Lane) : (s.setLane n l).sec = s.sec := rfl
@[simp] theorem State.setLane_tal (s : State) (n : Nat) (l : Lane) : (s.setLane n l).tal = s.tal := rfl
@[simp] theorem State.setLane_shf (s : State) (n : Nat) (l : Lane) : (s.setLane n l).shf = s.shf := rfl
@[simp] theorem State.setLane_mem (s : State) (n : Nat) (l : Lane) : (s.setLane n l).mem = s.mem := rfl
@[simp] theorem State.setLane_dma (s : State) (n : Nat) (l : Lane) : (s.setLane n l).dma = s.dma := rfl
@[simp] theorem State.setLane_cnv (s : State) (n : Nat) (l : Lane) : (s.setLane n l).cnv = s.cnv := rfl
@[simp] theorem State.setLane_rfe (s : State) (n : Nat) (l : Lane) : (s.setLane n l).rfe = s.rfe := rfl
@[simp] theorem State.setLane_txc (s : State) (n : Nat) (l : Lane) : (s.setLane n l).txc = s.txc := rfl
@[simp] theorem State.setLane_con (s : State) (n : Nat) (l : Lane) : (s.setLane n l).con = s.con := rfl
@[simp] theorem State.setLane_rxc (s : State) (n : Nat) (l : Lane) : (s.setLane n l).rxc = s.rxc := rfl
@[simp] theorem State.setLane_mon (s : State) (n : Nat) (l : Lane) : (s.setLane n l).mon = s.mon := rfl
@[simp] theorem State.setLane_dpd (s : State) (n : Nat) (l : Lane) : (s.setLane n l).dpd = s.dpd := rfl
@[simp] theorem State.setLane_tiles (s : State) (n : Nat) (l : Lane) : (s.setLane n l).tiles = s.tiles := rfl
@[simp] theorem State.setLane_jtag (s : State) (n : Nat) (l : Lane) : (s.setLane n l).jtag = s.jtag := rfl

@[simp] theorem State.setCalChip_pending (s : State) (k : Nat) (c : CalChip) : (s.setCalChip k c).pending = s.pending := rfl
@[simp] theorem State.setCalChip_part (s : State) (k : Nat) (c : CalChip) : (s.setCalChip k c).part = s.part := rfl
@[simp] theorem State.setCalChip_regs (s : State) (k : Nat) (c : CalChip) : (s.setCalChip k c).regs = s.regs := rfl
@[simp] theorem State.setCalChip_free (s : State) (k : Nat) (c : CalChip) : (s.setCalChip k c).free = s.free := rfl
@[simp] theorem State.setCalChip_vaon (s : State) (k : Nat) (c : CalChip) : (s.setCalChip k c).vaon = s.vaon := rfl
@[simp] theorem State.setCalChip_boot (s : State) (k : Nat) (c : CalChip) : (s.setCalChip k c).boot = s.boot := rfl
@[simp] theorem State.setCalChip_tim (s : State) (k : Nat) (c : CalChip) : (s.setCalChip k c).tim = s.tim := rfl
@[simp] theorem State.setCalChip_wire (s : State) (k : Nat) (c : CalChip) : (s.setCalChip k c).wire = s.wire := rfl
@[simp] theorem State.setCalChip_answers (s : State) (k : Nat) (c : CalChip) : (s.setCalChip k c).answers = s.answers := rfl
@[simp] theorem State.setCalChip_lost (s : State) (k : Nat) (c : CalChip) : (s.setCalChip k c).lost = s.lost := rfl
@[simp] theorem State.setCalChip_txSeq (s : State) (k : Nat) (c : CalChip) : (s.setCalChip k c).txSeq = s.txSeq := rfl
@[simp] theorem State.setCalChip_streams (s : State) (k : Nat) (c : CalChip) : (s.setCalChip k c).streams = s.streams := rfl
@[simp] theorem State.setCalChip_alarms (s : State) (k : Nat) (c : CalChip) : (s.setCalChip k c).alarms = s.alarms := rfl
@[simp] theorem State.setCalChip_loft (s : State) (k : Nat) (c : CalChip) : (s.setCalChip k c).loft = s.loft := rfl
@[simp] theorem State.setCalChip_sec (s : State) (k : Nat) (c : CalChip) : (s.setCalChip k c).sec = s.sec := rfl
@[simp] theorem State.setCalChip_tal (s : State) (k : Nat) (c : CalChip) : (s.setCalChip k c).tal = s.tal := rfl
@[simp] theorem State.setCalChip_shf (s : State) (k : Nat) (c : CalChip) : (s.setCalChip k c).shf = s.shf := rfl
@[simp] theorem State.setCalChip_lnk (s : State) (k : Nat) (c : CalChip) : (s.setCalChip k c).lnk = s.lnk := rfl
@[simp] theorem State.setCalChip_mem (s : State) (k : Nat) (c : CalChip) : (s.setCalChip k c).mem = s.mem := rfl
@[simp] theorem State.setCalChip_dma (s : State) (k : Nat) (c : CalChip) : (s.setCalChip k c).dma = s.dma := rfl
@[simp] theorem State.setCalChip_cnv (s : State) (k : Nat) (c : CalChip) : (s.setCalChip k c).cnv = s.cnv := rfl
@[simp] theorem State.setCalChip_txc (s : State) (k : Nat) (c : CalChip) : (s.setCalChip k c).txc = s.txc := rfl
@[simp] theorem State.setCalChip_con (s : State) (k : Nat) (c : CalChip) : (s.setCalChip k c).con = s.con := rfl
@[simp] theorem State.setCalChip_rxc (s : State) (k : Nat) (c : CalChip) : (s.setCalChip k c).rxc = s.rxc := rfl
@[simp] theorem State.setCalChip_mon (s : State) (k : Nat) (c : CalChip) : (s.setCalChip k c).mon = s.mon := rfl
@[simp] theorem State.setCalChip_dpd (s : State) (k : Nat) (c : CalChip) : (s.setCalChip k c).dpd = s.dpd := rfl
@[simp] theorem State.setCalChip_tiles (s : State) (k : Nat) (c : CalChip) : (s.setCalChip k c).tiles = s.tiles := rfl
@[simp] theorem State.setCalChip_jtag (s : State) (k : Nat) (c : CalChip) : (s.setCalChip k c).jtag = s.jtag := rfl

@[simp] theorem State.setFsbBus_pending (s : State) (b : Nat) (x : FsbBus) : (s.setFsbBus b x).pending = s.pending := rfl
@[simp] theorem State.setFsbBus_part (s : State) (b : Nat) (x : FsbBus) : (s.setFsbBus b x).part = s.part := rfl
@[simp] theorem State.setFsbBus_regs (s : State) (b : Nat) (x : FsbBus) : (s.setFsbBus b x).regs = s.regs := rfl
@[simp] theorem State.setFsbBus_free (s : State) (b : Nat) (x : FsbBus) : (s.setFsbBus b x).free = s.free := rfl
@[simp] theorem State.setFsbBus_vaon (s : State) (b : Nat) (x : FsbBus) : (s.setFsbBus b x).vaon = s.vaon := rfl
@[simp] theorem State.setFsbBus_boot (s : State) (b : Nat) (x : FsbBus) : (s.setFsbBus b x).boot = s.boot := rfl
@[simp] theorem State.setFsbBus_tim (s : State) (b : Nat) (x : FsbBus) : (s.setFsbBus b x).tim = s.tim := rfl
@[simp] theorem State.setFsbBus_wire (s : State) (b : Nat) (x : FsbBus) : (s.setFsbBus b x).wire = s.wire := rfl
@[simp] theorem State.setFsbBus_answers (s : State) (b : Nat) (x : FsbBus) : (s.setFsbBus b x).answers = s.answers := rfl
@[simp] theorem State.setFsbBus_lost (s : State) (b : Nat) (x : FsbBus) : (s.setFsbBus b x).lost = s.lost := rfl
@[simp] theorem State.setFsbBus_txSeq (s : State) (b : Nat) (x : FsbBus) : (s.setFsbBus b x).txSeq = s.txSeq := rfl
@[simp] theorem State.setFsbBus_streams (s : State) (b : Nat) (x : FsbBus) : (s.setFsbBus b x).streams = s.streams := rfl
@[simp] theorem State.setFsbBus_alarms (s : State) (b : Nat) (x : FsbBus) : (s.setFsbBus b x).alarms = s.alarms := rfl
@[simp] theorem State.setFsbBus_loft (s : State) (b : Nat) (x : FsbBus) : (s.setFsbBus b x).loft = s.loft := rfl
@[simp] theorem State.setFsbBus_sec (s : State) (b : Nat) (x : FsbBus) : (s.setFsbBus b x).sec = s.sec := rfl
@[simp] theorem State.setFsbBus_tal (s : State) (b : Nat) (x : FsbBus) : (s.setFsbBus b x).tal = s.tal := rfl
@[simp] theorem State.setFsbBus_shf (s : State) (b : Nat) (x : FsbBus) : (s.setFsbBus b x).shf = s.shf := rfl
@[simp] theorem State.setFsbBus_lnk (s : State) (b : Nat) (x : FsbBus) : (s.setFsbBus b x).lnk = s.lnk := rfl
@[simp] theorem State.setFsbBus_mem (s : State) (b : Nat) (x : FsbBus) : (s.setFsbBus b x).mem = s.mem := rfl
@[simp] theorem State.setFsbBus_dma (s : State) (b : Nat) (x : FsbBus) : (s.setFsbBus b x).dma = s.dma := rfl
@[simp] theorem State.setFsbBus_cnv (s : State) (b : Nat) (x : FsbBus) : (s.setFsbBus b x).cnv = s.cnv := rfl
@[simp] theorem State.setFsbBus_txc (s : State) (b : Nat) (x : FsbBus) : (s.setFsbBus b x).txc = s.txc := rfl
@[simp] theorem State.setFsbBus_con (s : State) (b : Nat) (x : FsbBus) : (s.setFsbBus b x).con = s.con := rfl
@[simp] theorem State.setFsbBus_rxc (s : State) (b : Nat) (x : FsbBus) : (s.setFsbBus b x).rxc = s.rxc := rfl
@[simp] theorem State.setFsbBus_mon (s : State) (b : Nat) (x : FsbBus) : (s.setFsbBus b x).mon = s.mon := rfl
@[simp] theorem State.setFsbBus_dpd (s : State) (b : Nat) (x : FsbBus) : (s.setFsbBus b x).dpd = s.dpd := rfl
@[simp] theorem State.setFsbBus_tiles (s : State) (b : Nat) (x : FsbBus) : (s.setFsbBus b x).tiles = s.tiles := rfl
@[simp] theorem State.setFsbBus_jtag (s : State) (b : Nat) (x : FsbBus) : (s.setFsbBus b x).jtag = s.jtag := rfl

@[simp] theorem State.setTine_pending (s : State) (k : Nat) (x : Tine) : (s.setTine k x).pending = s.pending := rfl
@[simp] theorem State.setTine_part (s : State) (k : Nat) (x : Tine) : (s.setTine k x).part = s.part := rfl
@[simp] theorem State.setTine_regs (s : State) (k : Nat) (x : Tine) : (s.setTine k x).regs = s.regs := rfl
@[simp] theorem State.setTine_free (s : State) (k : Nat) (x : Tine) : (s.setTine k x).free = s.free := rfl
@[simp] theorem State.setTine_vaon (s : State) (k : Nat) (x : Tine) : (s.setTine k x).vaon = s.vaon := rfl
@[simp] theorem State.setTine_boot (s : State) (k : Nat) (x : Tine) : (s.setTine k x).boot = s.boot := rfl
@[simp] theorem State.setTine_tim (s : State) (k : Nat) (x : Tine) : (s.setTine k x).tim = s.tim := rfl
@[simp] theorem State.setTine_wire (s : State) (k : Nat) (x : Tine) : (s.setTine k x).wire = s.wire := rfl
@[simp] theorem State.setTine_answers (s : State) (k : Nat) (x : Tine) : (s.setTine k x).answers = s.answers := rfl
@[simp] theorem State.setTine_lost (s : State) (k : Nat) (x : Tine) : (s.setTine k x).lost = s.lost := rfl
@[simp] theorem State.setTine_txSeq (s : State) (k : Nat) (x : Tine) : (s.setTine k x).txSeq = s.txSeq := rfl
@[simp] theorem State.setTine_streams (s : State) (k : Nat) (x : Tine) : (s.setTine k x).streams = s.streams := rfl
@[simp] theorem State.setTine_alarms (s : State) (k : Nat) (x : Tine) : (s.setTine k x).alarms = s.alarms := rfl
@[simp] theorem State.setTine_loft (s : State) (k : Nat) (x : Tine) : (s.setTine k x).loft = s.loft := rfl
@[simp] theorem State.setTine_sec (s : State) (k : Nat) (x : Tine) : (s.setTine k x).sec = s.sec := rfl
@[simp] theorem State.setTine_tal (s : State) (k : Nat) (x : Tine) : (s.setTine k x).tal = s.tal := rfl
@[simp] theorem State.setTine_shf (s : State) (k : Nat) (x : Tine) : (s.setTine k x).shf = s.shf := rfl
@[simp] theorem State.setTine_lnk (s : State) (k : Nat) (x : Tine) : (s.setTine k x).lnk = s.lnk := rfl
@[simp] theorem State.setTine_mem (s : State) (k : Nat) (x : Tine) : (s.setTine k x).mem = s.mem := rfl
@[simp] theorem State.setTine_dma (s : State) (k : Nat) (x : Tine) : (s.setTine k x).dma = s.dma := rfl
@[simp] theorem State.setTine_cnv (s : State) (k : Nat) (x : Tine) : (s.setTine k x).cnv = s.cnv := rfl
@[simp] theorem State.setTine_txc (s : State) (k : Nat) (x : Tine) : (s.setTine k x).txc = s.txc := rfl
@[simp] theorem State.setTine_con (s : State) (k : Nat) (x : Tine) : (s.setTine k x).con = s.con := rfl
@[simp] theorem State.setTine_rxc (s : State) (k : Nat) (x : Tine) : (s.setTine k x).rxc = s.rxc := rfl
@[simp] theorem State.setTine_mon (s : State) (k : Nat) (x : Tine) : (s.setTine k x).mon = s.mon := rfl
@[simp] theorem State.setTine_dpd (s : State) (k : Nat) (x : Tine) : (s.setTine k x).dpd = s.dpd := rfl
@[simp] theorem State.setTine_tiles (s : State) (k : Nat) (x : Tine) : (s.setTine k x).tiles = s.tiles := rfl
@[simp] theorem State.setTine_jtag (s : State) (k : Nat) (x : Tine) : (s.setTine k x).jtag = s.jtag := rfl

@[simp] theorem State.setTile_pending (s : State) (t : Nat) (x : Tile) : (s.setTile t x).pending = s.pending := rfl
@[simp] theorem State.setTile_part (s : State) (t : Nat) (x : Tile) : (s.setTile t x).part = s.part := rfl
@[simp] theorem State.setTile_regs (s : State) (t : Nat) (x : Tile) : (s.setTile t x).regs = s.regs := rfl
@[simp] theorem State.setTile_free (s : State) (t : Nat) (x : Tile) : (s.setTile t x).free = s.free := rfl
@[simp] theorem State.setTile_vaon (s : State) (t : Nat) (x : Tile) : (s.setTile t x).vaon = s.vaon := rfl
@[simp] theorem State.setTile_boot (s : State) (t : Nat) (x : Tile) : (s.setTile t x).boot = s.boot := rfl
@[simp] theorem State.setTile_tim (s : State) (t : Nat) (x : Tile) : (s.setTile t x).tim = s.tim := rfl
@[simp] theorem State.setTile_wire (s : State) (t : Nat) (x : Tile) : (s.setTile t x).wire = s.wire := rfl
@[simp] theorem State.setTile_answers (s : State) (t : Nat) (x : Tile) : (s.setTile t x).answers = s.answers := rfl
@[simp] theorem State.setTile_lost (s : State) (t : Nat) (x : Tile) : (s.setTile t x).lost = s.lost := rfl
@[simp] theorem State.setTile_txSeq (s : State) (t : Nat) (x : Tile) : (s.setTile t x).txSeq = s.txSeq := rfl
@[simp] theorem State.setTile_streams (s : State) (t : Nat) (x : Tile) : (s.setTile t x).streams = s.streams := rfl
@[simp] theorem State.setTile_alarms (s : State) (t : Nat) (x : Tile) : (s.setTile t x).alarms = s.alarms := rfl
@[simp] theorem State.setTile_loft (s : State) (t : Nat) (x : Tile) : (s.setTile t x).loft = s.loft := rfl
@[simp] theorem State.setTile_sec (s : State) (t : Nat) (x : Tile) : (s.setTile t x).sec = s.sec := rfl
@[simp] theorem State.setTile_tal (s : State) (t : Nat) (x : Tile) : (s.setTile t x).tal = s.tal := rfl
@[simp] theorem State.setTile_shf (s : State) (t : Nat) (x : Tile) : (s.setTile t x).shf = s.shf := rfl
@[simp] theorem State.setTile_lnk (s : State) (t : Nat) (x : Tile) : (s.setTile t x).lnk = s.lnk := rfl
@[simp] theorem State.setTile_mem (s : State) (t : Nat) (x : Tile) : (s.setTile t x).mem = s.mem := rfl
@[simp] theorem State.setTile_dma (s : State) (t : Nat) (x : Tile) : (s.setTile t x).dma = s.dma := rfl
@[simp] theorem State.setTile_cnv (s : State) (t : Nat) (x : Tile) : (s.setTile t x).cnv = s.cnv := rfl
@[simp] theorem State.setTile_rfe (s : State) (t : Nat) (x : Tile) : (s.setTile t x).rfe = s.rfe := rfl
@[simp] theorem State.setTile_txc (s : State) (t : Nat) (x : Tile) : (s.setTile t x).txc = s.txc := rfl
@[simp] theorem State.setTile_con (s : State) (t : Nat) (x : Tile) : (s.setTile t x).con = s.con := rfl
@[simp] theorem State.setTile_rxc (s : State) (t : Nat) (x : Tile) : (s.setTile t x).rxc = s.rxc := rfl
@[simp] theorem State.setTile_mon (s : State) (t : Nat) (x : Tile) : (s.setTile t x).mon = s.mon := rfl
@[simp] theorem State.setTile_dpd (s : State) (t : Nat) (x : Tile) : (s.setTile t x).dpd = s.dpd := rfl
@[simp] theorem State.setTile_jtag (s : State) (t : Nat) (x : Tile) : (s.setTile t x).jtag = s.jtag := rfl

@[simp] theorem State.setEng_pending (s : State) (a : Nat) (e : EngSym) : (s.setEng a e).pending = s.pending := rfl
@[simp] theorem State.setEng_part (s : State) (a : Nat) (e : EngSym) : (s.setEng a e).part = s.part := rfl
@[simp] theorem State.setEng_regs (s : State) (a : Nat) (e : EngSym) : (s.setEng a e).regs = s.regs := rfl
@[simp] theorem State.setEng_free (s : State) (a : Nat) (e : EngSym) : (s.setEng a e).free = s.free := rfl
@[simp] theorem State.setEng_vaon (s : State) (a : Nat) (e : EngSym) : (s.setEng a e).vaon = s.vaon := rfl
@[simp] theorem State.setEng_boot (s : State) (a : Nat) (e : EngSym) : (s.setEng a e).boot = s.boot := rfl
@[simp] theorem State.setEng_tim (s : State) (a : Nat) (e : EngSym) : (s.setEng a e).tim = s.tim := rfl
@[simp] theorem State.setEng_wire (s : State) (a : Nat) (e : EngSym) : (s.setEng a e).wire = s.wire := rfl
@[simp] theorem State.setEng_answers (s : State) (a : Nat) (e : EngSym) : (s.setEng a e).answers = s.answers := rfl
@[simp] theorem State.setEng_lost (s : State) (a : Nat) (e : EngSym) : (s.setEng a e).lost = s.lost := rfl
@[simp] theorem State.setEng_txSeq (s : State) (a : Nat) (e : EngSym) : (s.setEng a e).txSeq = s.txSeq := rfl
@[simp] theorem State.setEng_streams (s : State) (a : Nat) (e : EngSym) : (s.setEng a e).streams = s.streams := rfl
@[simp] theorem State.setEng_alarms (s : State) (a : Nat) (e : EngSym) : (s.setEng a e).alarms = s.alarms := rfl
@[simp] theorem State.setEng_loft (s : State) (a : Nat) (e : EngSym) : (s.setEng a e).loft = s.loft := rfl
@[simp] theorem State.setEng_sec (s : State) (a : Nat) (e : EngSym) : (s.setEng a e).sec = s.sec := rfl
@[simp] theorem State.setEng_tal (s : State) (a : Nat) (e : EngSym) : (s.setEng a e).tal = s.tal := rfl
@[simp] theorem State.setEng_shf (s : State) (a : Nat) (e : EngSym) : (s.setEng a e).shf = s.shf := rfl
@[simp] theorem State.setEng_lnk (s : State) (a : Nat) (e : EngSym) : (s.setEng a e).lnk = s.lnk := rfl
@[simp] theorem State.setEng_mem (s : State) (a : Nat) (e : EngSym) : (s.setEng a e).mem = s.mem := rfl
@[simp] theorem State.setEng_dma (s : State) (a : Nat) (e : EngSym) : (s.setEng a e).dma = s.dma := rfl
@[simp] theorem State.setEng_cnv (s : State) (a : Nat) (e : EngSym) : (s.setEng a e).cnv = s.cnv := rfl
@[simp] theorem State.setEng_rfe (s : State) (a : Nat) (e : EngSym) : (s.setEng a e).rfe = s.rfe := rfl
@[simp] theorem State.setEng_con (s : State) (a : Nat) (e : EngSym) : (s.setEng a e).con = s.con := rfl
@[simp] theorem State.setEng_rxc (s : State) (a : Nat) (e : EngSym) : (s.setEng a e).rxc = s.rxc := rfl
@[simp] theorem State.setEng_mon (s : State) (a : Nat) (e : EngSym) : (s.setEng a e).mon = s.mon := rfl
@[simp] theorem State.setEng_dpd (s : State) (a : Nat) (e : EngSym) : (s.setEng a e).dpd = s.dpd := rfl
@[simp] theorem State.setEng_tiles (s : State) (a : Nat) (e : EngSym) : (s.setEng a e).tiles = s.tiles := rfl
@[simp] theorem State.setEng_jtag (s : State) (a : Nat) (e : EngSym) : (s.setEng a e).jtag = s.jtag := rfl

@[simp] theorem State.setSym_pending (s : State) (c t : Nat) (f : SymRec → SymRec) : (s.setSym c t f).pending = s.pending := rfl
@[simp] theorem State.setSym_part (s : State) (c t : Nat) (f : SymRec → SymRec) : (s.setSym c t f).part = s.part := rfl
@[simp] theorem State.setSym_regs (s : State) (c t : Nat) (f : SymRec → SymRec) : (s.setSym c t f).regs = s.regs := rfl
@[simp] theorem State.setSym_free (s : State) (c t : Nat) (f : SymRec → SymRec) : (s.setSym c t f).free = s.free := rfl
@[simp] theorem State.setSym_vaon (s : State) (c t : Nat) (f : SymRec → SymRec) : (s.setSym c t f).vaon = s.vaon := rfl
@[simp] theorem State.setSym_boot (s : State) (c t : Nat) (f : SymRec → SymRec) : (s.setSym c t f).boot = s.boot := rfl
@[simp] theorem State.setSym_tim (s : State) (c t : Nat) (f : SymRec → SymRec) : (s.setSym c t f).tim = s.tim := rfl
@[simp] theorem State.setSym_wire (s : State) (c t : Nat) (f : SymRec → SymRec) : (s.setSym c t f).wire = s.wire := rfl
@[simp] theorem State.setSym_answers (s : State) (c t : Nat) (f : SymRec → SymRec) : (s.setSym c t f).answers = s.answers := rfl
@[simp] theorem State.setSym_lost (s : State) (c t : Nat) (f : SymRec → SymRec) : (s.setSym c t f).lost = s.lost := rfl
@[simp] theorem State.setSym_txSeq (s : State) (c t : Nat) (f : SymRec → SymRec) : (s.setSym c t f).txSeq = s.txSeq := rfl
@[simp] theorem State.setSym_streams (s : State) (c t : Nat) (f : SymRec → SymRec) : (s.setSym c t f).streams = s.streams := rfl
@[simp] theorem State.setSym_alarms (s : State) (c t : Nat) (f : SymRec → SymRec) : (s.setSym c t f).alarms = s.alarms := rfl
@[simp] theorem State.setSym_loft (s : State) (c t : Nat) (f : SymRec → SymRec) : (s.setSym c t f).loft = s.loft := rfl
@[simp] theorem State.setSym_sec (s : State) (c t : Nat) (f : SymRec → SymRec) : (s.setSym c t f).sec = s.sec := rfl
@[simp] theorem State.setSym_tal (s : State) (c t : Nat) (f : SymRec → SymRec) : (s.setSym c t f).tal = s.tal := rfl
@[simp] theorem State.setSym_shf (s : State) (c t : Nat) (f : SymRec → SymRec) : (s.setSym c t f).shf = s.shf := rfl
@[simp] theorem State.setSym_lnk (s : State) (c t : Nat) (f : SymRec → SymRec) : (s.setSym c t f).lnk = s.lnk := rfl
@[simp] theorem State.setSym_mem (s : State) (c t : Nat) (f : SymRec → SymRec) : (s.setSym c t f).mem = s.mem := rfl
@[simp] theorem State.setSym_dma (s : State) (c t : Nat) (f : SymRec → SymRec) : (s.setSym c t f).dma = s.dma := rfl
@[simp] theorem State.setSym_cnv (s : State) (c t : Nat) (f : SymRec → SymRec) : (s.setSym c t f).cnv = s.cnv := rfl
@[simp] theorem State.setSym_rfe (s : State) (c t : Nat) (f : SymRec → SymRec) : (s.setSym c t f).rfe = s.rfe := rfl
@[simp] theorem State.setSym_con (s : State) (c t : Nat) (f : SymRec → SymRec) : (s.setSym c t f).con = s.con := rfl
@[simp] theorem State.setSym_rxc (s : State) (c t : Nat) (f : SymRec → SymRec) : (s.setSym c t f).rxc = s.rxc := rfl
@[simp] theorem State.setSym_mon (s : State) (c t : Nat) (f : SymRec → SymRec) : (s.setSym c t f).mon = s.mon := rfl
@[simp] theorem State.setSym_dpd (s : State) (c t : Nat) (f : SymRec → SymRec) : (s.setSym c t f).dpd = s.dpd := rfl
@[simp] theorem State.setSym_tiles (s : State) (c t : Nat) (f : SymRec → SymRec) : (s.setSym c t f).tiles = s.tiles := rfl
@[simp] theorem State.setSym_jtag (s : State) (c t : Nat) (f : SymRec → SymRec) : (s.setSym c t f).jtag = s.jtag := rfl

@[simp] theorem State.setGran_pending (s : State) (a : Nat) (b : List Byte) : (s.setGran a b).pending = s.pending := rfl
@[simp] theorem State.setGran_part (s : State) (a : Nat) (b : List Byte) : (s.setGran a b).part = s.part := rfl
@[simp] theorem State.setGran_regs (s : State) (a : Nat) (b : List Byte) : (s.setGran a b).regs = s.regs := rfl
@[simp] theorem State.setGran_free (s : State) (a : Nat) (b : List Byte) : (s.setGran a b).free = s.free := rfl
@[simp] theorem State.setGran_vaon (s : State) (a : Nat) (b : List Byte) : (s.setGran a b).vaon = s.vaon := rfl
@[simp] theorem State.setGran_boot (s : State) (a : Nat) (b : List Byte) : (s.setGran a b).boot = s.boot := rfl
@[simp] theorem State.setGran_tim (s : State) (a : Nat) (b : List Byte) : (s.setGran a b).tim = s.tim := rfl
@[simp] theorem State.setGran_wire (s : State) (a : Nat) (b : List Byte) : (s.setGran a b).wire = s.wire := rfl
@[simp] theorem State.setGran_answers (s : State) (a : Nat) (b : List Byte) : (s.setGran a b).answers = s.answers := rfl
@[simp] theorem State.setGran_lost (s : State) (a : Nat) (b : List Byte) : (s.setGran a b).lost = s.lost := rfl
@[simp] theorem State.setGran_txSeq (s : State) (a : Nat) (b : List Byte) : (s.setGran a b).txSeq = s.txSeq := rfl
@[simp] theorem State.setGran_streams (s : State) (a : Nat) (b : List Byte) : (s.setGran a b).streams = s.streams := rfl
@[simp] theorem State.setGran_alarms (s : State) (a : Nat) (b : List Byte) : (s.setGran a b).alarms = s.alarms := rfl
@[simp] theorem State.setGran_loft (s : State) (a : Nat) (b : List Byte) : (s.setGran a b).loft = s.loft := rfl
@[simp] theorem State.setGran_sec (s : State) (a : Nat) (b : List Byte) : (s.setGran a b).sec = s.sec := rfl
@[simp] theorem State.setGran_tal (s : State) (a : Nat) (b : List Byte) : (s.setGran a b).tal = s.tal := rfl
@[simp] theorem State.setGran_shf (s : State) (a : Nat) (b : List Byte) : (s.setGran a b).shf = s.shf := rfl
@[simp] theorem State.setGran_lnk (s : State) (a : Nat) (b : List Byte) : (s.setGran a b).lnk = s.lnk := rfl
@[simp] theorem State.setGran_dma (s : State) (a : Nat) (b : List Byte) : (s.setGran a b).dma = s.dma := rfl
@[simp] theorem State.setGran_cnv (s : State) (a : Nat) (b : List Byte) : (s.setGran a b).cnv = s.cnv := rfl
@[simp] theorem State.setGran_rfe (s : State) (a : Nat) (b : List Byte) : (s.setGran a b).rfe = s.rfe := rfl
@[simp] theorem State.setGran_txc (s : State) (a : Nat) (b : List Byte) : (s.setGran a b).txc = s.txc := rfl
@[simp] theorem State.setGran_con (s : State) (a : Nat) (b : List Byte) : (s.setGran a b).con = s.con := rfl
@[simp] theorem State.setGran_rxc (s : State) (a : Nat) (b : List Byte) : (s.setGran a b).rxc = s.rxc := rfl
@[simp] theorem State.setGran_mon (s : State) (a : Nat) (b : List Byte) : (s.setGran a b).mon = s.mon := rfl
@[simp] theorem State.setGran_dpd (s : State) (a : Nat) (b : List Byte) : (s.setGran a b).dpd = s.dpd := rfl
@[simp] theorem State.setGran_tiles (s : State) (a : Nat) (b : List Byte) : (s.setGran a b).tiles = s.tiles := rfl
@[simp] theorem State.setGran_jtag (s : State) (a : Nat) (b : List Byte) : (s.setGran a b).jtag = s.jtag := rfl

@[simp] theorem State.setLoftBytes_pending (s : State) (a : Nat) (b : List Byte) : (s.setLoftBytes a b).pending = s.pending := rfl
@[simp] theorem State.setLoftBytes_part (s : State) (a : Nat) (b : List Byte) : (s.setLoftBytes a b).part = s.part := rfl
@[simp] theorem State.setLoftBytes_regs (s : State) (a : Nat) (b : List Byte) : (s.setLoftBytes a b).regs = s.regs := rfl
@[simp] theorem State.setLoftBytes_free (s : State) (a : Nat) (b : List Byte) : (s.setLoftBytes a b).free = s.free := rfl
@[simp] theorem State.setLoftBytes_vaon (s : State) (a : Nat) (b : List Byte) : (s.setLoftBytes a b).vaon = s.vaon := rfl
@[simp] theorem State.setLoftBytes_boot (s : State) (a : Nat) (b : List Byte) : (s.setLoftBytes a b).boot = s.boot := rfl
@[simp] theorem State.setLoftBytes_tim (s : State) (a : Nat) (b : List Byte) : (s.setLoftBytes a b).tim = s.tim := rfl
@[simp] theorem State.setLoftBytes_wire (s : State) (a : Nat) (b : List Byte) : (s.setLoftBytes a b).wire = s.wire := rfl
@[simp] theorem State.setLoftBytes_answers (s : State) (a : Nat) (b : List Byte) : (s.setLoftBytes a b).answers = s.answers := rfl
@[simp] theorem State.setLoftBytes_lost (s : State) (a : Nat) (b : List Byte) : (s.setLoftBytes a b).lost = s.lost := rfl
@[simp] theorem State.setLoftBytes_txSeq (s : State) (a : Nat) (b : List Byte) : (s.setLoftBytes a b).txSeq = s.txSeq := rfl
@[simp] theorem State.setLoftBytes_streams (s : State) (a : Nat) (b : List Byte) : (s.setLoftBytes a b).streams = s.streams := rfl
@[simp] theorem State.setLoftBytes_alarms (s : State) (a : Nat) (b : List Byte) : (s.setLoftBytes a b).alarms = s.alarms := rfl
@[simp] theorem State.setLoftBytes_sec (s : State) (a : Nat) (b : List Byte) : (s.setLoftBytes a b).sec = s.sec := rfl
@[simp] theorem State.setLoftBytes_tal (s : State) (a : Nat) (b : List Byte) : (s.setLoftBytes a b).tal = s.tal := rfl
@[simp] theorem State.setLoftBytes_shf (s : State) (a : Nat) (b : List Byte) : (s.setLoftBytes a b).shf = s.shf := rfl
@[simp] theorem State.setLoftBytes_lnk (s : State) (a : Nat) (b : List Byte) : (s.setLoftBytes a b).lnk = s.lnk := rfl
@[simp] theorem State.setLoftBytes_mem (s : State) (a : Nat) (b : List Byte) : (s.setLoftBytes a b).mem = s.mem := rfl
@[simp] theorem State.setLoftBytes_dma (s : State) (a : Nat) (b : List Byte) : (s.setLoftBytes a b).dma = s.dma := rfl
@[simp] theorem State.setLoftBytes_cnv (s : State) (a : Nat) (b : List Byte) : (s.setLoftBytes a b).cnv = s.cnv := rfl
@[simp] theorem State.setLoftBytes_rfe (s : State) (a : Nat) (b : List Byte) : (s.setLoftBytes a b).rfe = s.rfe := rfl
@[simp] theorem State.setLoftBytes_txc (s : State) (a : Nat) (b : List Byte) : (s.setLoftBytes a b).txc = s.txc := rfl
@[simp] theorem State.setLoftBytes_con (s : State) (a : Nat) (b : List Byte) : (s.setLoftBytes a b).con = s.con := rfl
@[simp] theorem State.setLoftBytes_rxc (s : State) (a : Nat) (b : List Byte) : (s.setLoftBytes a b).rxc = s.rxc := rfl
@[simp] theorem State.setLoftBytes_mon (s : State) (a : Nat) (b : List Byte) : (s.setLoftBytes a b).mon = s.mon := rfl
@[simp] theorem State.setLoftBytes_dpd (s : State) (a : Nat) (b : List Byte) : (s.setLoftBytes a b).dpd = s.dpd := rfl
@[simp] theorem State.setLoftBytes_tiles (s : State) (a : Nat) (b : List Byte) : (s.setLoftBytes a b).tiles = s.tiles := rfl
@[simp] theorem State.setLoftBytes_jtag (s : State) (a : Nat) (b : List Byte) : (s.setLoftBytes a b).jtag = s.jtag := rfl

@[simp] theorem State.alertN_pending (s : State) (c : Nat) (b : Bool) : (s.alertN c b).pending = s.pending := rfl
@[simp] theorem State.alertN_part (s : State) (c : Nat) (b : Bool) : (s.alertN c b).part = s.part := rfl
@[simp] theorem State.alertN_regs (s : State) (c : Nat) (b : Bool) : (s.alertN c b).regs = s.regs := rfl
@[simp] theorem State.alertN_free (s : State) (c : Nat) (b : Bool) : (s.alertN c b).free = s.free := rfl
@[simp] theorem State.alertN_vaon (s : State) (c : Nat) (b : Bool) : (s.alertN c b).vaon = s.vaon := rfl
@[simp] theorem State.alertN_tim (s : State) (c : Nat) (b : Bool) : (s.alertN c b).tim = s.tim := rfl
@[simp] theorem State.alertN_wire (s : State) (c : Nat) (b : Bool) : (s.alertN c b).wire = s.wire := rfl
@[simp] theorem State.alertN_answers (s : State) (c : Nat) (b : Bool) : (s.alertN c b).answers = s.answers := rfl
@[simp] theorem State.alertN_lost (s : State) (c : Nat) (b : Bool) : (s.alertN c b).lost = s.lost := rfl
@[simp] theorem State.alertN_txSeq (s : State) (c : Nat) (b : Bool) : (s.alertN c b).txSeq = s.txSeq := rfl
@[simp] theorem State.alertN_streams (s : State) (c : Nat) (b : Bool) : (s.alertN c b).streams = s.streams := rfl
@[simp] theorem State.alertN_alarms (s : State) (c : Nat) (b : Bool) : (s.alertN c b).alarms = s.alarms := rfl
@[simp] theorem State.alertN_loft (s : State) (c : Nat) (b : Bool) : (s.alertN c b).loft = s.loft := rfl
@[simp] theorem State.alertN_sec (s : State) (c : Nat) (b : Bool) : (s.alertN c b).sec = s.sec := rfl
@[simp] theorem State.alertN_tal (s : State) (c : Nat) (b : Bool) : (s.alertN c b).tal = s.tal := rfl
@[simp] theorem State.alertN_shf (s : State) (c : Nat) (b : Bool) : (s.alertN c b).shf = s.shf := rfl
@[simp] theorem State.alertN_lnk (s : State) (c : Nat) (b : Bool) : (s.alertN c b).lnk = s.lnk := rfl
@[simp] theorem State.alertN_mem (s : State) (c : Nat) (b : Bool) : (s.alertN c b).mem = s.mem := rfl
@[simp] theorem State.alertN_dma (s : State) (c : Nat) (b : Bool) : (s.alertN c b).dma = s.dma := rfl
@[simp] theorem State.alertN_cnv (s : State) (c : Nat) (b : Bool) : (s.alertN c b).cnv = s.cnv := rfl
@[simp] theorem State.alertN_rfe (s : State) (c : Nat) (b : Bool) : (s.alertN c b).rfe = s.rfe := rfl
@[simp] theorem State.alertN_txc (s : State) (c : Nat) (b : Bool) : (s.alertN c b).txc = s.txc := rfl
@[simp] theorem State.alertN_con (s : State) (c : Nat) (b : Bool) : (s.alertN c b).con = s.con := rfl
@[simp] theorem State.alertN_rxc (s : State) (c : Nat) (b : Bool) : (s.alertN c b).rxc = s.rxc := rfl
@[simp] theorem State.alertN_mon (s : State) (c : Nat) (b : Bool) : (s.alertN c b).mon = s.mon := rfl
@[simp] theorem State.alertN_dpd (s : State) (c : Nat) (b : Bool) : (s.alertN c b).dpd = s.dpd := rfl
@[simp] theorem State.alertN_tiles (s : State) (c : Nat) (b : Bool) : (s.alertN c b).tiles = s.tiles := rfl
@[simp] theorem State.alertN_jtag (s : State) (c : Nat) (b : Bool) : (s.alertN c b).jtag = s.jtag := rfl

/-- A list of updates that each leave a view of the state leaves it. -/
theorem State.each_keeps {α β : Type} (view : State → β) (f : α → State → State) (h : ∀ a s, view (f a s) = view s) :
    ∀ (l : List α) (s : State), view (s.each l f) = view s
  | [], _ => rfl
  | a :: r, s => by
    show view (State.each (f a s) r f) = view s
    rw [State.each_keeps view f h r, h]

-- What each setter sets

@[simp] theorem State.tile_setTile (s : State) (t : Nat) (x : Tile) : (s.setTile t x).tile t = x := by simp [State.tile, State.setTile]
@[simp] theorem State.tile_setTile_ne (s : State) (t u : Nat) (x : Tile) (h : u ≠ t) : (s.setTile t x).tile u = s.tile u := by
  simp [State.tile, State.setTile, h]
@[simp] theorem State.eng_setEng (s : State) (a : Nat) (e : EngSym) : (s.setEng a e).eng a = e := by simp [State.eng, State.setEng]

/-- A granary byte after a write of consecutive bytes. -/
theorem State.gran_setGran (s : State) (a : Nat) (b : List Byte) (x : Nat) :
    sparseGet 0 (s.setGran a b).mem.gran x = if a ≤ x ∧ x < a + b.length then (b.drop (x - a)).head?.getD 0 else sparseGet 0 s.mem.gran x :=
  sparseGet_setList 0 b s.mem.gran a x

/-- A loft byte after a write of consecutive bytes. -/
theorem State.loft_setLoftBytes (s : State) (a : Nat) (b : List Byte) (x : Nat) :
    sparseGet 0 (s.setLoftBytes a b).loft.bytes x = if a ≤ x ∧ x < a + b.length then (b.drop (x - a)).head?.getD 0 else sparseGet 0 s.loft.bytes x :=
  sparseGet_setList 0 b s.loft.bytes a x

/-- A DRAM byte after a write of consecutive bytes on a trained channel. -/
theorem State.dramByte_setDram (s : State) (a : Nat) (b : List Byte) (x : Nat) (h : s.dramOk = true) :
    (s.setDram a b).dramByte x = if a ≤ x ∧ x < a + b.length then (b.drop (x - a)).head?.getD 0 else s.dramByte x := by
  have hn : ¬ ((!s.dramOk) = true) := by simp [h]
  by_cases hg : s.mem.dramGen = 0
  · simp only [State.setDram, State.dramByte, if_neg hn, if_pos hg]
    exact sparseGet_setList 0 b s.mem.dram a x
  · simp only [State.setDram, State.dramByte, if_neg hn, if_neg hg]
    rw [sparseGet_setList, List.length_map, ← List.map_drop, List.head?_map]
    split
    · rename_i hx
      obtain ⟨c, l, hc⟩ : ∃ c l, b.drop (x - a) = c :: l := by
        cases hd : b.drop (x - a) with
        | nil => have := List.drop_eq_nil_iff.mp hd; omega
        | cons c l => exact ⟨c, l, rfl⟩
      simp [hc]
    · rfl

@[simp] theorem Mem.lose_gran (m : Mem) : m.lose.gran = m.gran := rfl
@[simp] theorem Mem.lose_poison (m : Mem) : m.lose.poison = m.poison := rfl
@[simp] theorem Mem.lose_dram (m : Mem) : m.lose.dram = [] := rfl
@[simp] theorem Mem.lose_dramNew (m : Mem) : m.lose.dramNew = [] := rfl
@[simp] theorem Mem.lose_dramGen (m : Mem) : m.lose.dramGen = m.dramGen + 1 := rfl

/-- With no hunt open on a port, the header that follows changes nothing (R173). -/
theorem State.synced_of_found {s : State} {p : Port} (h : (s.port p).hunting = false ∧ (s.port p).rest = []) : s.synced p = s := by
  simp [State.synced, h.1, h.2]

/-- A word whose access cycle has come stays due (R380). -/
theorem StreamXfer.due_mono (q : StreamXfer) {c d : Nat} (h : c ≤ d) : q.due c ≤ q.due d := by
  simp only [StreamXfer.due]; omega

/-- Where no stream word of a tile is due, the stream unit does nothing (R380). -/
theorem State.streamsTo_of_due {s : State} {t c : Nat} (dirs : List Bool) (h : ∀ q ∈ (s.tile t).queue, q.due c ≤ q.moved) :
    s.streamsTo t c dirs = s := by
  have hstep : ∀ l : List Nat, s.each l (fun i s => match (s.tile t).queue.drop i with
      | [] => s
      | q :: _ => if dirs.contains q.inbound && decide (q.moved < q.due c) && (s.tile t).st != tiHalted then s.moveWords t i q (q.due c) else s) = s := by
    intro l
    induction l with
    | nil => rfl
    | cons i r ih =>
      have hi : (match (s.tile t).queue.drop i with
          | [] => s
          | q :: _ => if dirs.contains q.inbound && decide (q.moved < q.due c) && (s.tile t).st != tiHalted then s.moveWords t i q (q.due c) else s) = s := by
        split
        · rfl
        · rename_i q l' hq
          have hm : q ∈ (s.tile t).queue := List.mem_of_mem_drop (i := i) (by rw [hq]; exact List.mem_cons_self)
          have := h q hm
          rw [if_neg]
          simp only [Bool.and_eq_true, decide_eq_true_eq, not_and]
          omega
      show State.each (match (s.tile t).queue.drop i with
          | [] => s
          | q :: _ => if dirs.contains q.inbound && decide (q.moved < q.due c) && (s.tile t).st != tiHalted then s.moveWords t i q (q.due c) else s) r _ = s
      rw [hi]; exact ih
  exact hstep _

end Sys2Proof.Machine
end

