-- ==== Sys2Proof/Laws/Frame.lean ====
section
/-! SUPPORT. Frames of the register file: which fields an operation leaves as they read, and which parts of the state it leaves whole. -/

namespace Sys2Proof.Machine

theorem Fld.apart_comm (f g : Fld) : f.apart g = g.apart f := by
  simp only [Fld.apart, decide_eq_decide]
  omega

theorem State.regsKeep_refl (fs : List Fld) (s : State) : s.regsKeep fs s := fun _ _ _ => rfl

theorem State.regsKeep_trans {fs : List Fld} {s t u : State} (h : s.regsKeep fs t) (k : t.regsKeep fs u) : s.regsKeep fs u :=
  fun g hg ha => (k g hg ha).trans (h g hg ha)

theorem State.regsKeep_mono {fs gs : List Fld} {s t : State} (h : s.regsKeep fs t) (hs : ∀ f ∈ fs, f ∈ gs) : s.regsKeep gs t :=
  fun g hg ha => h g hg (List.all_eq_true.mpr fun f hf => List.all_eq_true.mp ha f (hs f hf))

/-- A change that leaves the register file alone. -/
theorem State.regsKeep_of_regs {fs : List Fld} {s t : State} (hp : t.part = s.part) (h : t.regs = s.regs) : s.regsKeep fs t := by
  intro g _ _
  simp only [State.get, State.word, hp, h]

theorem State.regsKeep_put {fs : List Fld} (s : State) (f : Fld) (x : Nat) (hf : f.ok = true) (hm : f ∈ fs) : s.regsKeep fs (s.put f x) :=
  fun g hg ha => State.get_put_apart s f g x hf hg (by rw [Fld.apart_comm]; exact List.all_eq_true.mp ha f hm)

theorem State.regsKeep_setBit {fs : List Fld} (s : State) (f : Fld) (i : Nat) (hf : f.ok = true) (hm : f ∈ fs) :
    s.regsKeep fs (s.setBit f i) := by
  unfold State.setBit
  split
  · exact State.regsKeep_refl fs s
  · exact State.regsKeep_put s f _ hf hm

theorem State.regsKeep_countBy {fs : List Fld} (s : State) (c o : Fld) (i k : Nat) (hc : c.ok = true) (ho : o.ok = true) (hm : c ∈ fs)
    (hn : o ∈ fs) : s.regsKeep fs (s.countBy c o i k) := by
  unfold State.countBy
  split
  · exact State.regsKeep_put s c _ hc hm
  · exact State.regsKeep_trans (State.regsKeep_put s c _ hc hm) (State.regsKeep_setBit _ o i ho hn)

theorem State.regsKeep_each {α : Type} {fs : List Fld} (l : List α) (f : α → State → State) (hf : ∀ (a : α) (s : State), s.regsKeep fs (f a s)) :
    ∀ s : State, s.regsKeep fs (s.each l f) := by
  induction l with
  | nil => exact State.regsKeep_refl fs
  | cons a r ih => exact fun s => State.regsKeep_trans (hf a s) (ih (f a s))

-- Frames

theorem frame_refl (cs : List Comp) (fs : List Fld) (s : State) : s.frame cs fs s :=
  ⟨fun c _ => by cases c <;> rfl, State.regsKeep_refl fs s⟩

theorem Comp.same_trans {c : Comp} {s t u : State} (h : c.same s t) (k : c.same t u) : c.same s u := by
  cases c <;> exact Eq.trans k h

theorem frame_trans {cs : List Comp} {fs : List Fld} {s t u : State} (h : s.frame cs fs t) (k : t.frame cs fs u) : s.frame cs fs u :=
  ⟨fun c hc => Comp.same_trans (h.comps c hc) (k.comps c hc), State.regsKeep_trans h.regs k.regs⟩

theorem frame_mono {cs ds : List Comp} {fs gs : List Fld} {s t : State} (h : s.frame cs fs t) (hc : ∀ c ∈ cs, c ∈ ds) (hf : ∀ f ∈ fs, f ∈ gs) :
    s.frame ds gs t :=
  ⟨fun c hn => h.comps c (fun hm => hn (hc c hm)), State.regsKeep_mono h.regs hf⟩

/-- An operation framed by `ds` and `gs` after a change framed by more. -/
theorem frame_after {cs ds : List Comp} {fs gs : List Fld} {s t u : State} (k : t.frame ds gs u) (h : s.frame cs fs t) (hc : ∀ c ∈ ds, c ∈ cs)
    (hf : ∀ f ∈ gs, f ∈ fs) : s.frame cs fs u :=
  frame_trans h (frame_mono k hc hf)

/-- A change that leaves the part and the register file alone. -/
theorem frame_of {cs : List Comp} {fs : List Fld} {s t u : State} (h : s.frame cs fs t) (hp : u.part = t.part) (hr : u.regs = t.regs)
    (hc : ∀ c : Comp, c ∉ cs → c.same t u) : s.frame cs fs u :=
  ⟨fun c hn => Comp.same_trans (h.comps c hn) (hc c hn), State.regsKeep_trans h.regs (State.regsKeep_of_regs hp hr)⟩

theorem frame_ite {cs : List Comp} {fs : List Fld} {s t u : State} {c : Prop} [Decidable c] (ht : s.frame cs fs t) (hu : s.frame cs fs u) :
    s.frame cs fs (if c then t else u) := by
  split
  · exact ht
  · exact hu

theorem put_frame (s : State) (f : Fld) (x : Nat) (hf : f.ok = true) : s.frame [] [f] (s.put f x) :=
  ⟨fun c _ => by cases c <;> rfl, State.regsKeep_put s f x hf (List.mem_singleton.mpr rfl)⟩

theorem putFlag_frame (s : State) (f : Fld) (b : Bool) (hf : f.ok = true) : s.frame [] [f] (s.putFlag f b) := put_frame s f _ hf

theorem putInt_frame (s : State) (f : Fld) (x : Int) (hf : f.ok = true) : s.frame [] [f] (s.putInt f x) := put_frame s f _ hf

theorem setBit_frame (s : State) (f : Fld) (i : Nat) (hf : f.ok = true) : s.frame [] [f] (s.setBit f i) := by
  unfold State.setBit
  split
  · exact frame_refl _ _ _
  · exact put_frame s f _ hf

theorem clrBit_frame (s : State) (f : Fld) (i : Nat) (hf : f.ok = true) : s.frame [] [f] (s.clrBit f i) := by
  unfold State.clrBit
  split
  · exact put_frame s f _ hf
  · exact frame_refl _ _ _

theorem countBy_frame (s : State) (c o : Fld) (i k : Nat) (hc : c.ok = true) (ho : o.ok = true) : s.frame [] [c, o] (s.countBy c o i k) := by
  unfold State.countBy
  split
  · exact frame_mono (put_frame s c _ hc) (fun _ h => h) (by simp)
  · exact frame_after (setBit_frame _ o i ho) (frame_mono (put_frame s c _ hc) (fun _ h => h) (by simp)) (fun _ h => h) (by simp)

theorem count_frame (s : State) (c o : Fld) (i : Nat) (hc : c.ok = true) (ho : o.ok = true) : s.frame [] [c, o] (s.count c o i) :=
  countBy_frame s c o i 1 hc ho

theorem each_frame {α : Type} {cs : List Comp} {fs : List Fld} (f : α → State → State) (hf : ∀ (a : α) (s : State), s.frame cs fs (f a s)) :
    ∀ (l : List α) (s : State), s.frame cs fs (s.each l f)
  | [], s => frame_refl cs fs s
  | a :: r, s => frame_trans (hf a s) (each_frame f hf r (f a s))

theorem fresh_frame (s : State) : s.frame [.free] [] s.fresh :=
  frame_of (frame_refl _ _ s) rfl rfl (fun c hc => by cases c <;> first | rfl | exact absurd (by decide) hc)

theorem alertN_frame (s : State) (cause : Nat) (on : Bool) : s.frame [.boot] [] (s.alertN cause on) :=
  frame_of (frame_refl _ _ s) rfl rfl (fun c hc => by cases c <;> first | rfl | exact absurd (by decide) hc)

theorem emit_frame (s : State) (w : Sent) : s.frame [.wire, .waitq] [] (s.emit w) := by
  unfold State.emit
  dsimp only
  split
  · refine frame_of (frame_refl _ _ s) ?_ ?_ (fun c hc => ?_)
    · unfold State.setPort; cases w.port <;> rfl
    · unfold State.setPort; cases w.port <;> rfl
    · unfold State.setPort; cases w.port <;> cases c <;> first | rfl | exact absurd (by decide) hc
  · exact frame_of (frame_refl _ _ s) rfl rfl (fun c hc => by cases c <;> first | rfl | exact absurd (by decide) hc)

theorem transmitMasked_frame (s : State) (p : Port) (plane typ rev dest : Nat) (air : BitVec 32) (body : List Byte) (mask : BitVec 32) :
    s.frame [.wire, .waitq, .txSeq] [] (s.transmitMasked p plane typ rev dest air body mask) := by
  unfold State.transmitMasked
  dsimp only
  split
  · exact frame_after (emit_frame _ _) (frame_of (frame_refl _ _ s) rfl rfl (fun c hc => by cases c <;> first | rfl | exact absurd (by decide) hc))
      (by simp) (by simp)
  · exact frame_refl _ _ s

theorem transmit_frame (s : State) (p : Port) (plane typ rev dest : Nat) (air : BitVec 32) (body : List Byte) :
    s.frame [.wire, .waitq, .txSeq] [] (s.transmit p plane typ rev dest air body) := transmitMasked_frame s p plane typ rev dest air body 0

theorem answer_frame (s : State) (a : Asker) (typ reason off detail : Nat) :
    s.frame [.answers, .lost] lostFields (s.answer a typ reason off detail) := by
  unfold State.answer
  split
  · exact frame_refl _ _ s
  · split
    · exact frame_of (frame_refl _ _ s) rfl rfl (fun c hc => by cases c <;> first | rfl | exact absurd (by decide) hc)
    · refine frame_after (count_frame _ _ _ _ rfl rfl) (frame_of (frame_refl _ _ s) rfl rfl (fun c hc => ?_)) (by simp) (by simp [lostFields])
      cases c <;> first | rfl | exact absurd (by decide) hc

theorem critAnswer_frame (s : State) (a : Asker) (typ reason off detail : Nat) :
    s.frame [.answers, .lost] (R.SEC_LASTCMD.REASON :: lostFields) (s.critAnswer a typ reason off detail) := by
  unfold State.critAnswer
  have h : s.frame [.answers, .lost] (R.SEC_LASTCMD.REASON :: lostFields) (s.answer a typ reason off detail) :=
    frame_mono (answer_frame s a typ reason off detail) (fun _ h => h) (fun _ h => List.mem_cons_of_mem _ h)
  dsimp only
  split
  · exact frame_after (put_frame _ _ _ rfl) h (by simp) (by simp)
  · exact h

theorem alarm_frame (s : State) (code sev detail : Nat) : s.frame [.wire, .waitq, .txSeq, .alarms] [] (s.alarm code sev detail) := by
  unfold State.alarm
  have h (m : Sparse AlarmSlot) : s.frame [.wire, .waitq, .txSeq, .alarms] [] { s with alarms := m } :=
    frame_of (frame_refl _ _ s) rfl rfl (fun c hc => by cases c <;> first | rfl | exact absurd (by decide) hc)
  dsimp only
  split
  · exact frame_after (transmit_frame _ _ _ _ _ _ _ _) (h _) (by simp) (by simp)
  · exact h _

theorem setQueue_frame (s : State) (q : List TalEvent) : s.frame [.tal] tallyFields (s.setQueue q) := by
  have h : s.frame [.tal] tallyFields { s with tal := { s.tal with queue := q } } :=
    frame_of (frame_refl _ _ s) rfl rfl (fun c hc => by cases c <;> first | rfl | exact absurd (by decide) hc)
  have h1 := frame_after (put_frame _ R.TAL_STAT.QUEUE q.length rfl) h (by simp) (by simp [tallyFields])
  unfold State.setQueue
  dsimp only
  split
  · exact frame_after (put_frame _ _ _ rfl) (frame_after (put_frame _ _ _ rfl) h1 (by simp) (by simp [tallyFields])) (by simp)
      (by simp [tallyFields])
  · exact h1

theorem tally_frame (s : State) (code : Nat) (detail : List Byte) : s.frame [.tal] tallyFields (s.tally code detail) := by
  have h (x : Tal) : s.frame [.tal] tallyFields { s with tal := x } :=
    frame_of (frame_refl _ _ s) rfl rfl (fun c hc => by cases c <;> first | rfl | exact absurd (by decide) hc)
  unfold State.tally
  dsimp only
  repeat' split
  all_goals first
    | exact frame_after (count_frame _ _ _ _ rfl rfl) (h _) (by simp) (by simp [tallyFields])
    | exact frame_after (setQueue_frame _ _) (h _) (by simp) (fun _ h => h)

theorem security_frame (s : State) (event cmd sev : Nat) :
    s.frame [.tal, .wire, .waitq, .txSeq, .alarms] tallyFields (s.security event cmd sev) :=
  frame_after (alarm_frame _ _ _ _) (frame_mono (tally_frame s _ _) (by simp) (fun _ h => h)) (by simp) (by simp)

theorem linkEvent_frame (s : State) (i : Nat) : s.frame [.wire, .waitq, .txSeq, .alarms] [R.LNK_PEVENT.EVENTS] (s.linkEvent i) := by
  unfold State.linkEvent
  split
  · exact frame_refl _ _ s
  · exact frame_after (alarm_frame _ _ _ _) (frame_mono (setBit_frame s _ i rfl) (by simp) (fun _ h => h)) (fun _ h => h) (by simp)

-- What a frame gives

theorem frame_get {cs : List Comp} {fs : List Fld} {s t : State} (h : s.frame cs fs t) (g : Fld) (hg : g.ok = true) (ha : fs.all g.apart = true) :
    t.get g = s.get g := h.regs g hg ha

/-- What an operation leaves of a field already written. -/
theorem frame_get_eq {cs : List Comp} {fs : List Fld} {s t : State} {g : Fld} {x : Nat} (h : s.frame cs fs t) (k : s.get g = x) (hg : g.ok = true)
    (ha : fs.all g.apart = true) : t.get g = x := (h.regs g hg ha).trans k

end Sys2Proof.Machine
end

