-- ==== Sys2Proof/Laws/SoundOps.lean ====
section
/-! SUPPORT. Sound states: what keeps `State.Sound`: a record update, the register file, lists of updates, the answers, the alarms, the receive checks, the schedule. -/

set_option linter.unusedTactic false
set_option linter.unreachableTactic false
set_option linter.unusedVariables false

namespace Sys2Proof.Machine

def OutSound (pt : Part) (o : Out) : Prop := ∀ t, o = .next t → t.Sound pt

theorem outSound_next {pt : Part} {t : State} (h : t.Sound pt) : OutSound pt (.next t) := by
  intro u hu; cases hu; exact h

theorem sound_mk {pt : Part} {s : State} {pending : List Instr} {free : Nat} {vaon : Vaon} {boot : Boot} {tim : Tim} {wire : List Sent}
    {lost : Nat} {txSeq : Sparse Nat} {streams : List Stream} {alarms : Sparse AlarmSlot} {loft : Loft} {sec : Sec} {tal : Tal} {shf : Shf}
    {lnk : Lnk} {mem : Mem} {dma : Dma} {cnv : Cnv} {rfe : Rfe} {txc : Txc} {con : Con} {rxc : Rxc} {mon : Mon} {dpd : Dpd}
    {tiles : Sparse Tile} {jtag : Jtag}
    (h : s.Sound pt) (h1 : mem.gran = s.mem.gran) (h2 : (mem.dram, mem.dramNew) = (s.mem.dram, s.mem.dramNew)) (h3 : loft.bytes = s.loft.bytes)
    (h5 : tal.queue = s.tal.queue) (h6 : tal.ring = s.tal.ring) (h7 : boot.heldMsgs = s.boot.heldMsgs ∨ boot.heldMsgs = []) :
    (State.mk pending s.part s.regs free vaon boot tim wire s.answers lost txSeq streams alarms loft sec tal shf lnk mem dma cnv rfe txc con
      rxc mon dpd tiles jtag).Sound pt := by
  refine ⟨h.part, ⟨h.canonical.1, ?_, ?_, ?_, ?_⟩, h.bounded.1, ?_, ?_, ?_⟩
  · show sparseWf _ 0 mem.gran = true; rw [h1]; exact h.canonical.2.1
  · show sparseWf _ 0 mem.dram = true; rw [(Prod.mk.inj h2).1]; exact h.canonical.2.2.1
  · show sparseWf _ 0 mem.dramNew = true; rw [(Prod.mk.inj h2).2]; exact h.canonical.2.2.2.1
  · show sparseWf _ 0 loft.bytes = true; rw [h3]; exact h.canonical.2.2.2.2
  · show tal.queue.length ≤ 64; rw [h5]; exact h.bounded.2.1
  · show tal.ring.length ≤ 16; rw [h6]; exact h.bounded.2.2.1
  · show boot.heldMsgs.length ≤ 256
    rcases h7 with h7 | h7 <;> rw [h7]
    · exact h.bounded.2.2.2
    · exact Nat.zero_le _

theorem setWord_sound {pt : Part} (s : State) (addr : Nat) (w : Word) (hs : s.Sound pt) : (s.setWord addr w).Sound pt :=
  ⟨hs.part, ⟨sparseWf_set _ addr w rfl hs.canonical.1, hs.canonical.2⟩, hs.bounded⟩

theorem each_sound {pt : Part} {α : Type} (s : State) (l : List α) (f : α → State → State) (hs : s.Sound pt)
    (hf : ∀ a t, t.Sound pt → (f a t).Sound pt) : (s.each l f).Sound pt := by
  induction l generalizing s with
  | nil => exact hs
  | cons a r ih => exact ih _ (hf a s hs)

theorem foldl_sound {pt : Part} {α : Type} (f : State → α → State) (hf : ∀ t a, t.Sound pt → (f t a).Sound pt) :
    ∀ (l : List α) (s : State), s.Sound pt → (l.foldl f s).Sound pt
  | [], _, hs => hs
  | a :: r, s, hs => foldl_sound f hf r (f s a) (hf s a hs)

-- Machine/Ops.lean

theorem ite_sound {pt : Part} {c : Prop} [Decidable c] {t u : State} (ht : t.Sound pt) (hu : u.Sound pt) : (if c then t else u).Sound pt := by
  split
  · exact ht
  · exact hu

theorem put_sound {pt : Part} (s : State) (f : Fld) (x : Nat) (hs : s.Sound pt) : (State.put s f x).Sound pt := by
  unfold State.put
  repeat' first
    | with_reducible assumption | with_reducible apply setWord_sound

theorem putFlag_sound {pt : Part} (s : State) (f : Fld) (b : Bool) (hs : s.Sound pt) : (State.putFlag s f b).Sound pt := by
  unfold State.putFlag
  repeat' first
    | with_reducible assumption | split | with_reducible apply put_sound

theorem putInt_sound {pt : Part} (s : State) (f : Fld) (x : Int) (hs : s.Sound pt) : (State.putInt s f x).Sound pt := by
  unfold State.putInt
  repeat' first
    | with_reducible assumption | with_reducible apply put_sound

theorem setBit_sound {pt : Part} (s : State) (f : Fld) (i : Nat) (hs : s.Sound pt) : (State.setBit s f i).Sound pt := by
  unfold State.setBit
  repeat' first
    | with_reducible assumption | split | with_reducible apply put_sound

theorem clrBit_sound {pt : Part} (s : State) (f : Fld) (i : Nat) (hs : s.Sound pt) : (State.clrBit s f i).Sound pt := by
  unfold State.clrBit
  repeat' first
    | with_reducible assumption | split | with_reducible apply put_sound

theorem countBy_sound {pt : Part} (s : State) (c ovf : Fld) (i k : Nat) (hs : s.Sound pt) : (State.countBy s c ovf i k).Sound pt := by
  unfold State.countBy
  repeat' first
    | with_reducible assumption | split | with_reducible apply put_sound | with_reducible apply setBit_sound

theorem count_sound {pt : Part} (s : State) (c ovf : Fld) (i : Nat) (hs : s.Sound pt) : (State.count s c ovf i).Sound pt := by
  unfold State.count
  repeat' first
    | with_reducible assumption | with_reducible apply countBy_sound

theorem fresh_sound {pt : Part} (s : State) (hs : s.Sound pt) : (State.fresh s).Sound pt := by
  unfold State.fresh
  try dsimp only
  repeat' first
    | with_reducible assumption
    | ((with_reducible refine sound_mk ?_ ?_ ?_ ?_ ?_ ?_ ?_); rotate_left; all_goals first | rfl | exact Or.inl rfl | exact Or.inr rfl | skip)

-- Machine/Events.lean

theorem setPort_sound {pt : Part} (s : State) (p : Port) (q : PortSt) (hs : s.Sound pt) : (State.setPort s p q).Sound pt := by
  unfold State.setPort
  try dsimp only
  repeat' first
    | with_reducible assumption | split
    | ((with_reducible refine sound_mk ?_ ?_ ?_ ?_ ?_ ?_ ?_); rotate_left; all_goals first | rfl | exact Or.inl rfl | exact Or.inr rfl | skip)

theorem emit_sound {pt : Part} (s : State) (w : Sent) (hs : s.Sound pt) : (State.emit s w).Sound pt := by
  unfold State.emit
  try dsimp only
  repeat' first
    | with_reducible assumption | split | with_reducible apply setPort_sound
    | ((with_reducible refine sound_mk ?_ ?_ ?_ ?_ ?_ ?_ ?_); rotate_left; all_goals first | rfl | exact Or.inl rfl | exact Or.inr rfl | skip)
    | intro _

theorem countOut_sound {pt : Part} (s : State) (w : Sent) (hs : s.Sound pt) : (State.countOut s w).Sound pt := by
  unfold State.countOut
  repeat' first
    | with_reducible assumption | split | with_reducible apply count_sound | with_reducible apply put_sound

theorem outOne_sound {pt : Part} (s : State) (p : Port) (hs : s.Sound pt) : (State.outOne s p).Sound pt := by
  unfold State.outOne
  try dsimp only
  repeat' first
    | with_reducible assumption | split | with_reducible apply setPort_sound | with_reducible apply countOut_sound
    | ((with_reducible refine sound_mk ?_ ?_ ?_ ?_ ?_ ?_ ?_); rotate_left; all_goals first | rfl | exact Or.inl rfl | exact Or.inr rfl | skip)

theorem transmitMasked_sound {pt : Part} (s : State) (p : Port) (plane typ rev dest : Nat) (air : BitVec 32) (body : List Byte) (mask : BitVec 32) (hs : s.Sound pt) : (State.transmitMasked s p plane typ rev dest air body mask).Sound pt := by
  unfold State.transmitMasked
  try dsimp only
  repeat' first
    | with_reducible assumption | split | with_reducible apply emit_sound
    | ((with_reducible refine sound_mk ?_ ?_ ?_ ?_ ?_ ?_ ?_); rotate_left; all_goals first | rfl | exact Or.inl rfl | exact Or.inr rfl | skip)

theorem transmit_sound {pt : Part} (s : State) (p : Port) (plane typ rev dest : Nat) (air : BitVec 32) (body : List Byte) (hs : s.Sound pt) : (State.transmit s p plane typ rev dest air body).Sound pt := by
  unfold State.transmit
  repeat' first
    | with_reducible assumption | with_reducible apply transmitMasked_sound

theorem answer_sound {pt : Part} (s : State) (a : Asker) (typ reason off detail : Nat) (hs : s.Sound pt) : (s.answer a typ reason off detail).Sound pt := by
  unfold State.answer
  split
  · exact hs
  · split
    · rename_i h
      exact ⟨hs.part, hs.canonical, by simpa using h, hs.bounded.2⟩
    · exact count_sound _ _ _ _ ⟨hs.part, hs.canonical, hs.bounded⟩

theorem ackWith_sound {pt : Part} (s : State) (a : Asker) (detail : Nat) (hs : s.Sound pt) : (State.ackWith s a detail).Sound pt := by
  unfold State.ackWith
  repeat' first
    | with_reducible assumption | with_reducible apply answer_sound

theorem ack_sound {pt : Part} (s : State) (a : Asker) (hs : s.Sound pt) : (State.ack s a).Sound pt := by
  unfold State.ack
  repeat' first
    | with_reducible assumption | with_reducible apply ackWith_sound

theorem nack_sound {pt : Part} (s : State) (a : Asker) (reason : Nat) (hs : s.Sound pt) : (State.nack s a reason).Sound pt := by
  unfold State.nack
  repeat' first
    | with_reducible assumption | with_reducible apply answer_sound

theorem nackAt_sound {pt : Part} (s : State) (a : Asker) (reason off : Nat) (hs : s.Sound pt) : (State.nackAt s a reason off).Sound pt := by
  unfold State.nackAt
  repeat' first
    | with_reducible assumption | with_reducible apply answer_sound

theorem critAnswer_sound {pt : Part} (s : State) (a : Asker) (typ reason off detail : Nat) (hs : s.Sound pt) : (State.critAnswer s a typ reason off detail).Sound pt := by
  unfold State.critAnswer
  try dsimp only
  repeat' first
    | with_reducible assumption | split | with_reducible apply answer_sound | with_reducible apply put_sound

theorem critAck_sound {pt : Part} (s : State) (a : Asker) (hs : s.Sound pt) : (State.critAck s a).Sound pt := by
  unfold State.critAck
  repeat' first
    | with_reducible assumption | with_reducible apply critAnswer_sound

theorem critNackAt_sound {pt : Part} (s : State) (a : Asker) (reason off : Nat) (hs : s.Sound pt) : (State.critNackAt s a reason off).Sound pt := by
  unfold State.critNackAt
  repeat' first
    | with_reducible assumption | with_reducible apply critAnswer_sound

theorem critNack_sound {pt : Part} (s : State) (a : Asker) (reason : Nat) (hs : s.Sound pt) : (State.critNack s a reason).Sound pt := by
  unfold State.critNack
  repeat' first
    | with_reducible assumption | with_reducible apply critNackAt_sound

theorem drainAnswer_sound {pt : Part} (s : State) (hs : s.Sound pt) : s.drainAnswer.Sound pt := by
  unfold State.drainAnswer
  extract_lets free
  clear_value free
  split
  · exact hs
  · rename_i m _
    have h0 : ({ s with answers := s.answers.eraseP free } : State).Sound pt :=
      ⟨hs.part, hs.canonical, Nat.le_trans (List.length_eraseP_le) hs.bounded.1, hs.bounded.2⟩
    have h1 := fun a b c d e f g => transmit_sound { s with answers := s.answers.eraseP free } a b c d e f g h0
    dsimp only
    split
    · exact countOut_sound _ _ (h1 _ _ _ _ _ _ _)
    · exact h1 _ _ _ _ _ _ _

theorem alarm_sound {pt : Part} (s : State) (code sev detail : Nat) (hs : s.Sound pt) : (State.alarm s code sev detail).Sound pt := by
  unfold State.alarm
  try dsimp only
  repeat' first
    | with_reducible assumption | split | with_reducible apply transmit_sound
    | ((with_reducible refine sound_mk ?_ ?_ ?_ ?_ ?_ ?_ ?_); rotate_left; all_goals first | rfl | exact Or.inl rfl | exact Or.inr rfl | skip)

theorem setQueue_sound {pt : Part} (s : State) (q : List TalEvent) (hs : s.Sound pt) (hq : q.length ≤ 64) : (s.setQueue q).Sound pt := by
  have h : ({ s with tal := { s.tal with queue := q } } : State).Sound pt := ⟨hs.part, hs.canonical, hs.bounded.1, hq, hs.bounded.2.2⟩
  unfold State.setQueue
  dsimp only
  split
  · exact put_sound _ _ _ (put_sound _ _ _ (put_sound _ _ _ h))
  · exact put_sound _ _ _ h

theorem freeze_sound {pt : Part} (s : State) (hs : s.Sound pt) : s.freeze.Sound pt :=
  setQueue_sound _ _ (put_sound _ _ _ hs) hs.bounded.2.1

theorem tally_sound {pt : Part} (s : State) (code : Nat) (detail : List Byte) (hs : s.Sound pt) : (s.tally code detail).Sound pt := by
  unfold State.tally
  dsimp only
  repeat' split
  all_goals first
    | exact count_sound _ _ _ _ ⟨hs.part, hs.canonical, hs.bounded⟩
    | exact setQueue_sound _ _ ⟨hs.part, hs.canonical, hs.bounded⟩ (by simp only [List.length_append, List.length_singleton]; omega)

theorem alertN_sound {pt : Part} (s : State) (cause : Nat) (on : Bool) (hs : s.Sound pt) : (State.alertN s cause on).Sound pt := by
  unfold State.alertN
  try dsimp only
  repeat' first
    | with_reducible assumption | split | with_reducible apply cause_sound
    | ((with_reducible refine sound_mk ?_ ?_ ?_ ?_ ?_ ?_ ?_); rotate_left; all_goals first | rfl | exact Or.inl rfl | exact Or.inr rfl | skip)

theorem security_sound {pt : Part} (s : State) (event cmd sev : Nat) (hs : s.Sound pt) : (State.security s event cmd sev).Sound pt := by
  unfold State.security
  repeat' first
    | with_reducible assumption | with_reducible apply alarm_sound | with_reducible apply tally_sound

-- Machine/Flags.lean

theorem linkEvent_sound {pt : Part} (s : State) (i : Nat) (hs : s.Sound pt) : (State.linkEvent s i).Sound pt := by
  unfold State.linkEvent
  repeat' first
    | with_reducible assumption | split | with_reducible apply alarm_sound | with_reducible apply setBit_sound

-- Machine/Operands.lean

theorem sendOn_sound {pt : Part} (s : State) (p : Port) (plane typ : Nat) (m : Msg) (body : List Byte) (crc : BitVec 32) (hs : s.Sound pt) : (State.sendOn s p plane typ m body crc).Sound pt := by
  unfold State.sendOn
  try dsimp only
  repeat' first
    | with_reducible assumption | split | with_reducible apply emit_sound | with_reducible apply countOut_sound
    | with_reducible apply setPort_sound
    | ((with_reducible refine sound_mk ?_ ?_ ?_ ?_ ?_ ?_ ?_); rotate_left; all_goals first | rfl | exact Or.inl rfl | exact Or.inr rfl | skip)

theorem forwardMsg_sound {pt : Part} (s : State) (p : Port) (plane typ : Nat) (m : Msg) (hs : s.Sound pt) : (State.forwardMsg s p plane typ m).Sound pt := by
  unfold State.forwardMsg
  repeat' first
    | with_reducible assumption | split | with_reducible apply sendOn_sound

theorem sendChanged_sound {pt : Part} (s : State) (p : Port) (plane typ : Nat) (m : Msg) (body : List Byte) (hs : s.Sound pt) : (State.sendChanged s p plane typ m body).Sound pt := by
  unfold State.sendChanged
  repeat' first
    | with_reducible assumption | with_reducible apply sendOn_sound

theorem remember_sound {pt : Part} (s : State) (m : Msg) (plane : Nat) (hs : s.Sound pt) : (State.remember s m plane).Sound pt := by
  unfold State.remember
  try dsimp only
  repeat' first
    | with_reducible assumption | split | with_reducible apply countBy_sound
    | ((with_reducible refine sound_mk ?_ ?_ ?_ ?_ ?_ ?_ ?_); rotate_left; all_goals first | rfl | exact Or.inl rfl | exact Or.inr rfl | skip)
    | intro _

theorem holdMsg_sound {pt : Part} (s : State) (i : Instr) (hs : s.Sound pt) : (s.holdMsg i).Sound pt := by
  unfold State.holdMsg
  split
  · rename_i h
    refine ⟨hs.part, hs.canonical, hs.bounded.1, hs.bounded.2.1, hs.bounded.2.2.1, ?_⟩
    simp only [List.length_append, List.length_singleton]; omega
  · exact count_sound _ _ _ _ hs

theorem mplane_sound {pt : Part} (s : State) (i : Instr) (typ : Nat) (m : Msg) (f : State) (hs : s.Sound pt) (hf : f.Sound pt) : OutSound pt (State.mplane s i typ m f) := by
  unfold State.mplane
  repeat' first
    | with_reducible assumption | with_reducible apply outSound_next | split | with_reducible apply holdMsg_sound

def RxSound (pt : Part) : Rx → Prop
  | .done t => t.Sound pt
  | .take t => t.Sound pt

theorem ofRxDone_sound {pt : Part} {r : Rx} {t : State} (h : r = .done t) (hr : RxSound pt r) : t.Sound pt := by rw [h] at hr; exact hr

theorem ofRxTake_sound {pt : Part} {r : Rx} {t : State} (h : r = .take t) (hr : RxSound pt r) : t.Sound pt := by rw [h] at hr; exact hr

theorem consume_sound {pt : Part} (s : State) (plane typ : Nat) (m : Msg) (hs : s.Sound pt) : RxSound pt (s.consume plane typ m) := by
  unfold State.consume
  split
  · exact nackAt_sound _ _ _ _ (count_sound _ _ _ _ hs)
  · split
    · exact count_sound _ _ _ _ hs
    · exact remember_sound _ _ _ hs

theorem feed_sound {pt : Part} (s : State) (p : Port) (b : List Byte) (hs : s.Sound pt) : (State.feed s p b).Sound pt := by
  unfold State.feed
  try dsimp only
  repeat' first
    | with_reducible assumption | with_reducible apply countBy_sound | with_reducible apply count_sound
    | with_reducible apply setPort_sound
    | ((with_reducible refine sound_mk ?_ ?_ ?_ ?_ ?_ ?_ ?_); rotate_left; all_goals first | rfl | exact Or.inl rfl | exact Or.inr rfl | skip)

theorem synced_sound {pt : Part} (s : State) (p : Port) (hs : s.Sound pt) : (State.synced s p).Sound pt := by
  unfold State.synced
  repeat' first
    | with_reducible assumption | split | with_reducible apply countBy_sound | with_reducible apply setPort_sound
    | ((with_reducible refine sound_mk ?_ ?_ ?_ ?_ ?_ ?_ ?_); rotate_left; all_goals first | rfl | exact Or.inl rfl | exact Or.inr rfl | skip)

theorem rxHead_sound {pt : Part} (s t : State) (plane typ : Nat) (m : Msg) (hs : s.Sound pt) (h : s.rxHead plane typ m = some t) : t.Sound pt := by
  unfold State.rxHead at h
  dsimp only at h
  split at h
  · cases h; exact hs
  · split at h
    · cases h; exact feed_sound _ _ _ hs
    · split at h
      · cases h; exact nackAt_sound _ _ _ _ hs
      · split at h
        · cases h; exact nackAt_sound _ _ _ _ (synced_sound _ _ hs)
        · cases h

theorem rxVia_sound {pt : Part} (s : State) (plane typ : Nat) (m : Msg) (bcast : Bool) (fwd : Port → State → State) (hs : s.Sound pt)
    (hfwd : ∀ p t, t.Sound pt → (fwd p t).Sound pt) : RxSound pt (s.rxVia plane typ m bcast fwd) := by
  unfold State.rxVia
  split
  · rename_i t h; exact rxHead_sound _ _ _ _ _ hs h
  · have hy := synced_sound s m.port hs
    dsimp only
    generalize s.synced m.port = u at hy
    split
    · exact nackAt_sound _ _ _ _ hy
    · split
      · exact nackAt_sound _ _ _ _ hy
      · exact hfwd _ _ hy
      · exact consume_sound _ _ _ _ (hfwd _ _ hy)
      · exact consume_sound _ _ _ _ hy

theorem rx_sound {pt : Part} (s : State) (plane typ : Nat) (m : Msg) (hs : s.Sound pt) : RxSound pt (s.rx plane typ m) :=
  rxVia_sound _ _ _ _ _ _ hs (fun _ _ h => forwardMsg_sound _ _ _ _ _ h)

theorem keepaliveSeen_sound {pt : Part} (s : State) (hs : s.Sound pt) : (State.keepaliveSeen s).Sound pt := by
  unfold State.keepaliveSeen
  try dsimp only
  repeat' first
    | with_reducible assumption | split
    | ((with_reducible refine sound_mk ?_ ?_ ?_ ?_ ?_ ?_ ?_); rotate_left; all_goals first | rfl | exact Or.inl rfl | exact Or.inr rfl | skip)

theorem learnPos_sound {pt : Part} (s : State) (m : Msg) (hs : s.Sound pt) : (State.learnPos s m).Sound pt := by
  unfold State.learnPos
  repeat' first
    | with_reducible assumption | split | with_reducible apply put_sound

theorem passed_sound {pt : Part} (s : State) (plane : Nat) (m : Msg) (hs : s.Sound pt) : (State.passed s plane m).Sound pt := by
  unfold State.passed
  try dsimp only
  repeat' first
    | with_reducible assumption | split | with_reducible apply keepaliveSeen_sound | with_reducible apply learnPos_sound

theorem ackIf_sound {pt : Part} (s : State) (plane typ : Nat) (m : Msg) (always : Bool) (detail : Nat) (hs : s.Sound pt) : (State.ackIf s plane typ m always detail).Sound pt := by
  unfold State.ackIf
  repeat' first
    | with_reducible assumption | split | with_reducible apply ackWith_sound

theorem countTiming_sound {pt : Part} (s : State) (reason : Nat) (hs : s.Sound pt) : (State.countTiming s reason).Sound pt := by
  unfold State.countTiming
  repeat' first
    | with_reducible assumption | split | with_reducible apply count_sound

theorem refuseC_sound {pt : Part} (s : State) (a : Asker) (r : Nat × Nat) (hs : s.Sound pt) : (State.refuseC s a r).Sound pt := by
  unfold State.refuseC
  repeat' first
    | with_reducible assumption | with_reducible apply countTiming_sound | with_reducible apply nackAt_sound

theorem refuseU_sound {pt : Part} (s : State) (a : Asker) (r : Nat × Nat) (hs : s.Sound pt) : (State.refuseU s a r).Sound pt := by
  unfold State.refuseU
  repeat' first
    | with_reducible assumption | split | with_reducible apply countTiming_sound | with_reducible apply nackAt_sound

-- Machine/Sched.lean

theorem muteStopFrom_sound {pt : Part} (s : State) (a : Nat) (hs : s.Sound pt) : (State.muteStopFrom s a).Sound pt := by
  unfold State.muteStopFrom
  try dsimp only
  repeat' first
    | with_reducible assumption | split
    | ((with_reducible refine sound_mk ?_ ?_ ?_ ?_ ?_ ?_ ?_); rotate_left; all_goals first | rfl | exact Or.inl rfl | exact Or.inr rfl | skip)

theorem setSym_sound {pt : Part} (s : State) (car t : Nat) (f : SymRec → SymRec) (hs : s.Sound pt) : (State.setSym s car t f).Sound pt := by
  unfold State.setSym
  try dsimp only
  repeat' first
    | with_reducible assumption
    | ((with_reducible refine sound_mk ?_ ?_ ?_ ?_ ?_ ?_ ?_); rotate_left; all_goals first | rfl | exact Or.inl rfl | exact Or.inr rfl | skip)

theorem chipZeroes_sound {pt : Part} (s : State) (k : Nat) (hs : s.Sound pt) : (State.chipZeroes s k).Sound pt := by
  unfold State.chipZeroes
  try dsimp only
  repeat' first
    | with_reducible assumption | split | with_reducible apply each_sound | with_reducible apply foldl_sound
    | with_reducible apply setSym_sound | with_reducible apply foldl_sound
    | ((with_reducible refine sound_mk ?_ ?_ ?_ ?_ ?_ ?_ ?_); rotate_left; all_goals first | rfl | exact Or.inl rfl | exact Or.inr rfl | skip)
    | intro _

theorem winnowFrom_sound {pt : Part} (s : State) (a : Nat) (keep : Option Nat) (hs : s.Sound pt) : (State.winnowFrom s a keep).Sound pt := by
  unfold State.winnowFrom
  try dsimp only
  repeat' first
    | with_reducible assumption | split | with_reducible apply countBy_sound
    | ((with_reducible refine sound_mk ?_ ?_ ?_ ?_ ?_ ?_ ?_); rotate_left; all_goals first | rfl | exact Or.inl rfl | exact Or.inr rfl | skip)
    | intro _

theorem dropContent_sound {pt : Part} (s : State) (a : Nat) (hs : s.Sound pt) : (State.dropContent s a).Sound pt := by
  unfold State.dropContent
  try dsimp only
  repeat' first
    | with_reducible assumption
    | ((with_reducible refine sound_mk ?_ ?_ ?_ ?_ ?_ ?_ ?_); rotate_left; all_goals first | rfl | exact Or.inl rfl | exact Or.inr rfl | skip)
    | intro _

theorem clear_sound {pt : Part} (s : State) (l : List Fld) (hs : s.Sound pt) : (s.clear l).Sound pt :=
  foldl_sound _ (fun _ _ h => put_sound _ _ _ h) l s hs

theorem clearMirrors_sound {pt : Part} (s : State) (hs : s.Sound pt) : (State.clearMirrors s).Sound pt := by
  unfold State.clearMirrors
  try dsimp only
  repeat' first
    | with_reducible assumption | split | with_reducible apply clear_sound | with_reducible apply each_sound | with_reducible apply put_sound
    | with_reducible apply each_sound | with_reducible apply foldl_sound
    | ((with_reducible refine sound_mk ?_ ?_ ?_ ?_ ?_ ?_ ?_); rotate_left; all_goals first | rfl | exact Or.inl rfl | exact Or.inr rfl | skip)
    | intro _

theorem onFire_sound {pt : Part} (s : State) (a : Act) (f : State → State) (hs : s.Sound pt) (hf : ∀ (x0 : State), x0.Sound pt → (f x0).Sound pt) : OutSound pt (State.onFire s a f) := by
  unfold State.onFire
  repeat' first
    | with_reducible assumption | with_reducible apply outSound_next | split | apply hf | intro _

theorem slotsEnd_sound {pt : Part} (s : State) (hs : s.Sound pt) : (State.slotsEnd s).Sound pt := by
  unfold State.slotsEnd
  repeat' first
    | with_reducible assumption
    | ((with_reducible refine sound_mk ?_ ?_ ?_ ?_ ?_ ?_ ?_); rotate_left; all_goals first | rfl | exact Or.inl rfl | exact Or.inr rfl | skip)
    | intro _

theorem toFaulted_sound {pt : Part} (s : State) (hs : s.Sound pt) : (State.toFaulted s).Sound pt := by
  unfold State.toFaulted
  repeat' first
    | with_reducible assumption | with_reducible apply slotsEnd_sound | with_reducible apply put_sound

theorem runFault_sound {pt : Part} (s : State) (cause : Nat) (hs : s.Sound pt) : (State.runFault s cause).Sound pt := by
  unfold State.runFault
  repeat' first
    | with_reducible assumption | with_reducible apply cause_sound | with_reducible apply put_sound | with_reducible apply tally_sound

theorem renewProt_sound {pt : Part} (s : State) (hs : s.Sound pt) : (State.renewProt s).Sound pt := by
  unfold State.renewProt
  try dsimp only
  repeat' first
    | with_reducible assumption | split | with_reducible apply clrBit_sound | with_reducible apply each_sound | with_reducible apply putFlag_sound
    | with_reducible apply setBit_sound | with_reducible apply each_sound
    | ((with_reducible refine sound_mk ?_ ?_ ?_ ?_ ?_ ?_ ?_); rotate_left; all_goals first | rfl | exact Or.inl rfl | exact Or.inr rfl | skip)
    | intro _

theorem failApply_sound {pt : Part} (s : State) (reason detail : Nat) (hs : s.Sound pt) : (State.failApply s reason detail).Sound pt := by
  unfold State.failApply
  try dsimp only
  repeat' first
    | with_reducible assumption | split | with_reducible apply put_sound | with_reducible apply runFault_sound
    | with_reducible apply critAnswer_sound | with_reducible apply clearMirrors_sound | with_reducible apply renewProt_sound
    | ((with_reducible refine sound_mk ?_ ?_ ?_ ?_ ?_ ?_ ?_); rotate_left; all_goals first | rfl | exact Or.inl rfl | exact Or.inr rfl | skip)

theorem cutVerify_sound {pt : Part} (s : State) (hs : s.Sound pt) : (State.cutVerify s).Sound pt := by
  unfold State.cutVerify
  try dsimp only
  repeat' first
    | with_reducible assumption | split | with_reducible apply critNack_sound | with_reducible apply put_sound
    | ((with_reducible refine sound_mk ?_ ?_ ?_ ?_ ?_ ?_ ?_); rotate_left; all_goals first | rfl | exact Or.inl rfl | exact Or.inr rfl | skip)

theorem dramRunFault_sound {pt : Part} (s : State) (hs : s.Sound pt) : (State.dramRunFault s).Sound pt := by
  unfold State.dramRunFault
  try dsimp only
  repeat' first
    | with_reducible assumption | split | with_reducible apply muteStopFrom_sound | with_reducible apply runFault_sound
    | with_reducible apply toFaulted_sound | with_reducible apply winnowFrom_sound
    | ((with_reducible refine sound_mk ?_ ?_ ?_ ?_ ?_ ?_ ?_); rotate_left; all_goals first | rfl | exact Or.inl rfl | exact Or.inr rfl | skip)

-- Machine/Analog.lean

theorem renewQuiet_sound {pt : Part} (s : State) (hs : s.Sound pt) : (State.renewQuiet s).Sound pt := by
  unfold State.renewQuiet
  try dsimp only
  repeat' first
    | with_reducible assumption | with_reducible apply each_sound | with_reducible apply putFlag_sound | with_reducible apply each_sound | intro _

theorem holdQuiet_sound {pt : Part} (s : State) (k : Nat) (on : Bool) (hs : s.Sound pt) : (State.holdQuiet s k on).Sound pt := by
  unfold State.holdQuiet
  try dsimp only
  repeat' first
    | with_reducible assumption | split | with_reducible apply renewQuiet_sound
    | ((with_reducible refine sound_mk ?_ ?_ ?_ ?_ ?_ ?_ ?_); rotate_left; all_goals first | rfl | exact Or.inl rfl | exact Or.inr rfl | skip)

theorem invalidate_sound {pt : Part} (s : State) (path car from_ count : Nat) (hs : s.Sound pt) : (State.invalidate s path car from_ count).Sound pt := by
  unfold State.invalidate
  try dsimp only
  repeat' first
    | with_reducible assumption | with_reducible apply count_sound
    | ((with_reducible refine sound_mk ?_ ?_ ?_ ?_ ?_ ?_ ?_); rotate_left; all_goals first | rfl | exact Or.inl rfl | exact Or.inr rfl | skip)

theorem invalidateAll_sound {pt : Part} (s : State) (path from_ count : Nat) (hs : s.Sound pt) : (State.invalidateAll s path from_ count).Sound pt := by
  unfold State.invalidateAll
  try dsimp only
  repeat' first
    | with_reducible assumption | with_reducible apply count_sound | with_reducible apply each_sound | with_reducible apply invalidate_sound
    | with_reducible apply each_sound | intro _

theorem invalidateChip_sound {pt : Part} (s : State) (k from_ : Nat) (hs : s.Sound pt) : (State.invalidateChip s k from_).Sound pt := by
  unfold State.invalidateChip
  try dsimp only
  repeat' first
    | with_reducible assumption
    | ((with_reducible refine sound_mk ?_ ?_ ?_ ?_ ?_ ?_ ?_); rotate_left; all_goals first | rfl | exact Or.inl rfl | exact Or.inr rfl | skip)
    | intro _

theorem validChip_sound {pt : Part} (s : State) (k till : Nat) (hs : s.Sound pt) : (State.validChip s k till).Sound pt := by
  unfold State.validChip
  try dsimp only
  repeat' first
    | with_reducible assumption | split
    | ((with_reducible refine sound_mk ?_ ?_ ?_ ?_ ?_ ?_ ?_); rotate_left; all_goals first | rfl | exact Or.inl rfl | exact Or.inr rfl | skip)
    | intro _

theorem renewComp_sound {pt : Part} (s : State) (paths : List Nat) (hs : s.Sound pt) : (State.renewComp s paths).Sound pt := by
  unfold State.renewComp
  repeat' first
    | with_reducible assumption | with_reducible apply foldl_sound | with_reducible apply fresh_sound | with_reducible apply foldl_sound
    | ((with_reducible refine sound_mk ?_ ?_ ?_ ?_ ?_ ?_ ?_); rotate_left; all_goals first | rfl | exact Or.inl rfl | exact Or.inr rfl | skip)
    | intro _

theorem biasSafe_sound {pt : Part} (s : State) (o : Nat) (hs : s.Sound pt) : (State.biasSafe s o).Sound pt := by
  unfold State.biasSafe
  try dsimp only
  repeat' first
    | with_reducible assumption | split | with_reducible apply put_sound

theorem allBiasSafe_sound {pt : Part} (s : State) (hs : s.Sound pt) : (State.allBiasSafe s).Sound pt := by
  unfold State.allBiasSafe
  try dsimp only
  repeat' first
    | with_reducible assumption | split | with_reducible apply biasSafe_sound | with_reducible apply each_sound | with_reducible apply each_sound
    | ((with_reducible refine sound_mk ?_ ?_ ?_ ?_ ?_ ?_ ?_); rotate_left; all_goals first | rfl | exact Or.inl rfl | exact Or.inr rfl | skip)
    | intro _

-- Machine/Signed.lean

theorem attestShow_sound {pt : Part} (s : State) (hs : s.Sound pt) : (State.attestShow s).Sound pt := by
  unfold State.attestShow
  repeat' first
    | with_reducible assumption | with_reducible apply putFlag_sound

theorem secShow_sound {pt : Part} (s : State) (hs : s.Sound pt) : (State.secShow s).Sound pt := by
  unfold State.secShow
  try dsimp only
  repeat' first
    | with_reducible assumption | split | with_reducible apply attestShow_sound | with_reducible apply putFlag_sound | with_reducible apply put_sound
    | ((with_reducible refine sound_mk ?_ ?_ ?_ ?_ ?_ ?_ ?_); rotate_left; all_goals first | rfl | exact Or.inl rfl | exact Or.inr rfl | skip)
    | intro _

end Sys2Proof.Machine
end

