-- ==== Sys2Proof/Laws/SoundUnits.lean ====
section
/-! SUPPORT. Sound states: the link lanes, the tally, the memories, the front end, the monitor, power and reset, the converters and the critical commands keep `State.Sound`. -/

set_option linter.unusedTactic false
set_option linter.unreachableTactic false
set_option linter.unusedVariables false

namespace Sys2Proof.Machine

-- Machine/Lanes.lean

theorem setLane_sound {pt : Part} (s : State) (n : Nat) (l : Lane) (hs : s.Sound pt) : (State.setLane s n l).Sound pt := by
  unfold State.setLane
  try dsimp only
  repeat' first
    | with_reducible assumption
    | ((with_reducible refine sound_mk ?_ ?_ ?_ ?_ ?_ ?_ ?_); rotate_left; all_goals first | rfl | exact Or.inl rfl | exact Or.inr rfl | skip)

theorem portTrains_sound {pt : Part} (s : State) (p : Port) (hs : s.Sound pt) : (State.portTrains s p).Sound pt := by
  unfold State.portTrains
  repeat' first
    | with_reducible assumption | split | with_reducible apply put_sound

theorem setRx_sound {pt : Part} (s : State) (n st : Nat) (hs : s.Sound pt) : (State.setRx s n st).Sound pt := by
  unfold State.setRx
  try dsimp only
  repeat' first
    | with_reducible assumption | with_reducible apply put_sound | with_reducible apply setLane_sound
    | ((with_reducible refine sound_mk ?_ ?_ ?_ ?_ ?_ ?_ ?_); rotate_left; all_goals first | rfl | exact Or.inl rfl | exact Or.inr rfl | skip)

theorem setProg_sound {pt : Part} (s : State) (n st : Nat) (hs : s.Sound pt) : (State.setProg s n st).Sound pt := by
  unfold State.setProg
  try dsimp only
  repeat' first
    | with_reducible assumption | split | with_reducible apply setLane_sound | with_reducible apply setRx_sound
    | ((with_reducible refine sound_mk ?_ ?_ ?_ ?_ ?_ ?_ ?_); rotate_left; all_goals first | rfl | exact Or.inl rfl | exact Or.inr rfl | skip)

theorem setTx_sound {pt : Part} (s : State) (n st : Nat) (hs : s.Sound pt) : (State.setTx s n st).Sound pt := by
  unfold State.setTx
  repeat' first
    | with_reducible assumption | with_reducible apply put_sound

theorem noteDeg_sound {pt : Part} (s : State) (old : Nat) (hs : s.Sound pt) : (State.noteDeg s old).Sound pt := by
  unfold State.noteDeg
  try dsimp only
  repeat' first
    | with_reducible assumption | split
    | ((with_reducible refine sound_mk ?_ ?_ ?_ ?_ ?_ ?_ ?_); rotate_left; all_goals first | rfl | exact Or.inl rfl | exact Or.inr rfl | skip)
    | intro _

theorem putDeg_sound {pt : Part} (s : State) (p : Port) (hs : s.Sound pt) : (State.putDeg s p).Sound pt := by
  unfold State.putDeg
  try dsimp only
  repeat' first
    | with_reducible assumption | split | with_reducible apply put_sound | with_reducible apply noteDeg_sound

theorem renewDeg_sound {pt : Part} (s : State) (p : Port) (hs : s.Sound pt) : (State.renewDeg s p).Sound pt := by
  unfold State.renewDeg
  try dsimp only
  repeat' first
    | with_reducible assumption | split | with_reducible apply putDeg_sound | with_reducible apply linkEvent_sound

theorem renewState_sound {pt : Part} (s : State) (p : Port) (hs : s.Sound pt) : (State.renewState s p).Sound pt := by
  unfold State.renewState
  try dsimp only
  repeat' first
    | with_reducible assumption | split | with_reducible apply put_sound | intro _

theorem bringUp_sound {pt : Part} (s : State) (p : Port) (rate : Nat) (hs : s.Sound pt) : (State.bringUp s p rate).Sound pt := by
  unfold State.bringUp
  try dsimp only
  repeat' first
    | with_reducible assumption | split | with_reducible apply each_sound | with_reducible apply put_sound | with_reducible apply setLane_sound
    | with_reducible apply setPort_sound | with_reducible apply setTx_sound | with_reducible apply each_sound
    | ((with_reducible refine sound_mk ?_ ?_ ?_ ?_ ?_ ?_ ?_); rotate_left; all_goals first | rfl | exact Or.inl rfl | exact Or.inr rfl | skip)
    | intro _

theorem restartPort_sound {pt : Part} (s : State) (p : Port) (hs : s.Sound pt) : (State.restartPort s p).Sound pt := by
  unfold State.restartPort
  try dsimp only
  repeat' first
    | with_reducible assumption | split | with_reducible apply alertN_sound | with_reducible apply bringUp_sound | with_reducible apply put_sound
    | ((with_reducible refine sound_mk ?_ ?_ ?_ ?_ ?_ ?_ ?_); rotate_left; all_goals first | rfl | exact Or.inl rfl | exact Or.inr rfl | skip)

theorem portDown_sound {pt : Part} (s : State) (p : Port) (hs : s.Sound pt) : (State.portDown s p).Sound pt := by
  unfold State.portDown
  repeat' first
    | with_reducible assumption | split | with_reducible apply linkEvent_sound | with_reducible apply restartPort_sound

theorem testMin_sound {pt : Part} (s : State) (p : Port) (hs : s.Sound pt) : (State.testMin s p).Sound pt := by
  unfold State.testMin
  repeat' first
    | with_reducible assumption | split | with_reducible apply portDown_sound

theorem testDead_sound {pt : Part} (s : State) (p : Port) (hs : s.Sound pt) : (State.testDead s p).Sound pt := by
  unfold State.testDead
  repeat' first
    | with_reducible assumption | split | with_reducible apply portDown_sound
    | intro _

theorem exclude_sound {pt : Part} (s : State) (n : Nat) (hs : s.Sound pt) : (State.exclude s n).Sound pt := by
  unfold State.exclude
  try dsimp only
  repeat' first
    | with_reducible assumption | split | with_reducible apply setLane_sound | with_reducible apply put_sound
    | with_reducible apply count_sound | with_reducible apply renewState_sound | with_reducible apply testDead_sound
    | ((with_reducible refine sound_mk ?_ ?_ ?_ ?_ ?_ ?_ ?_); rotate_left; all_goals first | rfl | exact Or.inl rfl | exact Or.inr rfl | skip)

theorem loseLock_sound {pt : Part} (s : State) (n : Nat) (hs : s.Sound pt) : (State.loseLock s n).Sound pt := by
  unfold State.loseLock
  repeat' first
    | with_reducible assumption | split | with_reducible apply exclude_sound | with_reducible apply setProg_sound
    | with_reducible apply setLane_sound | with_reducible apply testDead_sound
    | ((with_reducible refine sound_mk ?_ ?_ ?_ ?_ ?_ ?_ ?_); rotate_left; all_goals first | rfl | exact Or.inl rfl | exact Or.inr rfl | skip)

theorem lockLost_sound {pt : Part} (s : State) (n : Nat) (hs : s.Sound pt) : (State.lockLost s n).Sound pt := by
  unfold State.lockLost
  repeat' first
    | with_reducible assumption | with_reducible apply count_sound | with_reducible apply loseLock_sound

theorem markerError_sound {pt : Part} (s : State) (n : Nat) (hs : s.Sound pt) : (State.markerError s n).Sound pt := by
  unfold State.markerError
  try dsimp only
  repeat' first
    | with_reducible assumption | split | with_reducible apply count_sound | with_reducible apply lockLost_sound
    | with_reducible apply setLane_sound
    | ((with_reducible refine sound_mk ?_ ?_ ?_ ?_ ?_ ?_ ?_); rotate_left; all_goals first | rfl | exact Or.inl rfl | exact Or.inr rfl | skip)

theorem execLaneSignalDetect_sound {pt : Part} (lane : Nat) (s : State) (hs : s.Sound pt) : OutSound pt (execLaneSignalDetect lane s) := by
  unfold execLaneSignalDetect
  repeat' first
    | with_reducible assumption | with_reducible apply outSound_next | split | with_reducible apply setRx_sound
    | with_reducible apply setLane_sound | with_reducible apply setProg_sound | with_reducible apply portTrains_sound
    | ((with_reducible refine sound_mk ?_ ?_ ?_ ?_ ?_ ?_ ?_); rotate_left; all_goals first | rfl | exact Or.inl rfl | exact Or.inr rfl | skip)

theorem execLaneDetectTimeout_sound {pt : Part} (lane : Nat) (tx : Bool) (s : State) (hs : s.Sound pt) : OutSound pt (execLaneDetectTimeout lane tx s) := by
  unfold execLaneDetectTimeout
  repeat' first
    | with_reducible assumption | with_reducible apply outSound_next | split | with_reducible apply setRx_sound | with_reducible apply setTx_sound

theorem execTerminationDetect_sound {pt : Part} (lane : Nat) (s : State) (hs : s.Sound pt) : OutSound pt (execTerminationDetect lane s) := by
  unfold execTerminationDetect
  repeat' first
    | with_reducible assumption | with_reducible apply outSound_next | split | with_reducible apply setTx_sound
    | with_reducible apply portTrains_sound

theorem execTrainingControlBlock_sound {pt : Part} (lane : Nat) (block : List Byte) (req : BitVec 6) (converged : Bool) (s : State) (hs : s.Sound pt) : OutSound pt (execTrainingControlBlock lane block s req converged) := by
  unfold execTrainingControlBlock
  try dsimp only
  repeat' first
    | with_reducible assumption | with_reducible apply outSound_next | split | with_reducible apply put_sound
    | with_reducible apply setLane_sound
    | ((with_reducible refine sound_mk ?_ ?_ ?_ ?_ ?_ ?_ ?_); rotate_left; all_goals first | rfl | exact Or.inl rfl | exact Or.inr rfl | skip)

theorem execLaneTrainDone_sound {pt : Part} (lane ctle : Nat) (s : State) (hs : s.Sound pt) : OutSound pt (execLaneTrainDone lane ctle s) := by
  unfold execLaneTrainDone
  try dsimp only
  repeat' first
    | with_reducible assumption | with_reducible apply outSound_next | split | with_reducible apply put_sound | with_reducible apply setLane_sound
    | with_reducible apply setTx_sound
    | ((with_reducible refine sound_mk ?_ ?_ ?_ ?_ ?_ ?_ ?_); rotate_left; all_goals first | rfl | exact Or.inl rfl | exact Or.inr rfl | skip)

theorem execLaneBitLock_sound {pt : Part} (lane : Nat) (s : State) (hs : s.Sound pt) : OutSound pt (execLaneBitLock lane s) := by
  unfold execLaneBitLock
  repeat' first
    | with_reducible assumption | with_reducible apply outSound_next | split | with_reducible apply setProg_sound

theorem execLaneBlockLock_sound {pt : Part} (lane : Nat) (inverted : Bool) (s : State) (hs : s.Sound pt) : OutSound pt (execLaneBlockLock lane inverted s) := by
  unfold execLaneBlockLock
  repeat' first
    | with_reducible assumption | with_reducible apply outSound_next | split | with_reducible apply putFlag_sound | with_reducible apply setProg_sound

theorem execLaneAligned_sound {pt : Part} (lane logical : Nat) (s : State) (hs : s.Sound pt) : OutSound pt (execLaneAligned lane logical s) := by
  unfold execLaneAligned
  try dsimp only
  repeat' first
    | with_reducible assumption | with_reducible apply outSound_next | split | with_reducible apply put_sound | with_reducible apply renewState_sound
    | with_reducible apply setLane_sound | with_reducible apply setRx_sound
    | ((with_reducible refine sound_mk ?_ ?_ ?_ ?_ ?_ ?_ ?_); rotate_left; all_goals first | rfl | exact Or.inl rfl | exact Or.inr rfl | skip)

theorem execLaneLossOfLock_sound {pt : Part} (lane : Nat) (cause : LockLoss) (invalid : Nat) (s : State) (hs : s.Sound pt) : OutSound pt (execLaneLossOfLock lane cause s invalid) := by
  unfold execLaneLossOfLock
  try dsimp only
  repeat' first
    | with_reducible assumption | with_reducible apply outSound_next | split | with_reducible apply count_sound
    | with_reducible apply countBy_sound | with_reducible apply lockLost_sound

theorem execBringupTimeout_sound {pt : Part} (port : Port) (s : State) (hs : s.Sound pt) : OutSound pt (execBringupTimeout port s) := by
  unfold execBringupTimeout
  try dsimp only
  repeat' first
    | with_reducible assumption | with_reducible apply outSound_next | split | with_reducible apply bringUp_sound | with_reducible apply put_sound
    | with_reducible apply setPort_sound | refine ofRxDone_sound (by assumption) ?_ | refine ofRxTake_sound (by assumption) ?_
    | with_reducible apply rx_sound | with_reducible apply rxVia_sound | with_reducible apply forwardMsg_sound
    | ((with_reducible refine sound_mk ?_ ?_ ?_ ?_ ?_ ?_ ?_); rotate_left; all_goals first | rfl | exact Or.inl rfl | exact Or.inr rfl | skip)
    | intro _

theorem execBringupRetry_sound {pt : Part} (port : Port) (s : State) (hs : s.Sound pt) : OutSound pt (execBringupRetry port s) := by
  unfold execBringupRetry
  repeat' first
    | with_reducible assumption | with_reducible apply outSound_next | split | with_reducible apply bringUp_sound

theorem applySegment_sound {pt : Part} (s : State) (q : Bool × Bool × Bool) (hs : s.Sound pt) : (State.applySegment s q).Sound pt := by
  unfold State.applySegment
  try dsimp only
  repeat' first
    | with_reducible assumption | split | with_reducible apply putFlag_sound | with_reducible apply put_sound
    | with_reducible apply alarm_sound

theorem startSegment_sound {pt : Part} (s : State) (hs : s.Sound pt) : (State.startSegment s).Sound pt := by
  unfold State.startSegment
  repeat' first
    | with_reducible assumption | with_reducible apply applySegment_sound

theorem upstreamActive_sound {pt : Part} (s : State) (hs : s.Sound pt) : (State.upstreamActive s).Sound pt := by
  unfold State.upstreamActive
  try dsimp only
  repeat' first
    | with_reducible assumption | split | with_reducible apply alarm_sound | with_reducible apply alertN_sound | with_reducible apply fresh_sound
    | with_reducible apply put_sound
    | ((with_reducible refine sound_mk ?_ ?_ ?_ ?_ ?_ ?_ ?_); rotate_left; all_goals first | rfl | exact Or.inl rfl | exact Or.inr rfl | skip)

theorem portActive_sound {pt : Part} (s : State) (p : Port) (r : List Byte) (hs : s.Sound pt) : (State.portActive s p r).Sound pt := by
  unfold State.portActive
  try dsimp only
  repeat' first
    | with_reducible assumption | split | with_reducible apply rx_sound | with_reducible apply put_sound
    | with_reducible apply putFlag_sound | with_reducible apply setPort_sound | with_reducible apply each_sound
    | with_reducible apply setRx_sound | with_reducible apply setTx_sound | with_reducible apply renewDeg_sound
    | with_reducible apply renewState_sound | with_reducible apply upstreamActive_sound
    | ((with_reducible refine sound_mk ?_ ?_ ?_ ?_ ?_ ?_ ?_); rotate_left; all_goals first | rfl | exact Or.inl rfl | exact Or.inr rfl | skip)
    | intro _

theorem takeRecord_sound {pt : Part} (s : State) (port : Port) (lane : Nat) (record : List Byte) (hs : s.Sound pt) : (State.takeRecord s port lane record).Sound pt := by
  unfold State.takeRecord
  repeat' first
    | with_reducible assumption | split | with_reducible apply count_sound | with_reducible apply linkEvent_sound
    | with_reducible apply setPort_sound
    | ((with_reducible refine sound_mk ?_ ?_ ?_ ?_ ?_ ?_ ?_); rotate_left; all_goals first | rfl | exact Or.inl rfl | exact Or.inr rfl | skip)

theorem execCapabilityBlock_sound {pt : Part} (port : Port) (lane : Nat) (block : List Byte) (s : State) (hs : s.Sound pt) : OutSound pt (execCapabilityBlock port lane block s) := by
  unfold execCapabilityBlock
  try dsimp only
  repeat' first
    | with_reducible assumption | with_reducible apply outSound_next | split | with_reducible apply setPort_sound
    | with_reducible apply takeRecord_sound
    | ((with_reducible refine sound_mk ?_ ?_ ?_ ?_ ?_ ?_ ?_); rotate_left; all_goals first | rfl | exact Or.inl rfl | exact Or.inr rfl | skip)

theorem takeMarker_sound {pt : Part} (s : State) (m : Marker) (hs : s.Sound pt) : (State.takeMarker s m).Sound pt := by
  unfold State.takeMarker
  try dsimp only
  repeat' first
    | with_reducible assumption | split | with_reducible apply setLane_sound | with_reducible apply countBy_sound
    | with_reducible apply count_sound | with_reducible apply loseLock_sound | with_reducible apply markerError_sound
    | with_reducible apply setRx_sound | with_reducible apply renewState_sound
    | ((with_reducible refine sound_mk ?_ ?_ ?_ ?_ ?_ ?_ ?_); rotate_left; all_goals first | rfl | exact Or.inl rfl | exact Or.inr rfl | skip)

theorem newRxMap_sound {pt : Part} (s : State) (p : Port) (map epoch : Nat) (hs : s.Sound pt) : (State.newRxMap s p map epoch).Sound pt := by
  unfold State.newRxMap
  try dsimp only
  repeat' first
    | with_reducible assumption | split | with_reducible apply each_sound | with_reducible apply put_sound | with_reducible apply renewDeg_sound
    | with_reducible apply renewState_sound | with_reducible apply setRx_sound | with_reducible apply testMin_sound | with_reducible apply each_sound
    | intro _

theorem execAlignmentMarker_sound {pt : Part} (port : Port) (markers : List Marker) (s : State) (hs : s.Sound pt) : OutSound pt (execAlignmentMarker port markers s) := by
  unfold execAlignmentMarker
  try dsimp only
  repeat' first
    | with_reducible assumption | with_reducible apply outSound_next | split | with_reducible apply each_sound | with_reducible apply newRxMap_sound
    | with_reducible apply setPort_sound | with_reducible apply setRx_sound | with_reducible apply takeMarker_sound | with_reducible apply each_sound
    | ((with_reducible refine sound_mk ?_ ?_ ?_ ?_ ?_ ?_ ?_); rotate_left; all_goals first | rfl | exact Or.inl rfl | exact Or.inr rfl | skip)
    | intro _

theorem storeReplay_sound {pt : Part} (s : State) (p : Port) (hs : s.Sound pt) : (State.storeReplay s p).Sound pt := by
  unfold State.storeReplay
  try dsimp only
  repeat' first
    | with_reducible assumption | with_reducible apply setPort_sound
    | ((with_reducible refine sound_mk ?_ ?_ ?_ ?_ ?_ ?_ ?_); rotate_left; all_goals first | rfl | exact Or.inl rfl | exact Or.inr rfl | skip)
    | intro _

theorem replay_sound {pt : Part} (s : State) (p : Port) (hs : s.Sound pt) : (State.replay s p).Sound pt := by
  unfold State.replay
  try dsimp only
  repeat' first
    | with_reducible assumption | with_reducible apply setPort_sound
    | ((with_reducible refine sound_mk ?_ ?_ ?_ ?_ ?_ ?_ ?_); rotate_left; all_goals first | rfl | exact Or.inl rfl | exact Or.inr rfl | skip)
    | intro _

theorem release_sound {pt : Part} (p : Port) : ∀ (n : Nat) (s : State), s.Sound pt → (State.release p n s).Sound pt
  | 0, s, hs => hs
  | n + 1, s, hs => by
    unfold State.release
    exact release_sound p n _ (outOne_sound _ _ hs)

theorem releaseWaiting_sound {pt : Part} (s : State) (p : Port) (hs : s.Sound pt) : (State.releaseWaiting s p).Sound pt := by
  unfold State.releaseWaiting
  extract_lets q
  split
  · exact hs
  · rename_i r t _
    have ht : t.Sound pt := setPort_sound _ _ _ (release_sound _ _ _ hs)
    clear_value t
    split
    · exact linkEvent_sound _ _ ht
    · exact ht

theorem execMarkerTransmit_sound {pt : Part} (port : Port) (s : State) (hs : s.Sound pt) : OutSound pt (execMarkerTransmit port s) := by
  unfold execMarkerTransmit
  extract_lets s0 s1 q up slp nm chg ep map s2 s3 s4 s5 s6
  have h0 : s0.Sound pt := by
    unfold s0
    split
    · split
      · exact portActive_sound _ _ _ hs
      · exact hs
    · exact hs
  have h1 : s1.Sound pt := storeReplay_sound _ _ h0
  have h2 : s2.Sound pt := each_sound _ _ _ h1 (fun n t ht => by
    dsimp only
    split
    · exact setLane_sound _ _ _ (setTx_sound _ _ _ ht)
    · exact ht)
  have h3 : s3.Sound pt := setPort_sound _ _ _ (put_sound _ _ _ (put_sound _ _ _ h2))
  have h4 : s4.Sound pt := each_sound _ _ _ h3 (fun n t ht => by
    extract_lets i _ u
    have hu : u.Sound pt := by
      unfold u
      split
      · exact setLane_sound _ _ _ ht
      · exact ht
    clear_value u
    split
    · exact setTx_sound _ _ _ hu
    · split
      · exact setTx_sound _ _ _ hu
      · exact hu)
  have h5 : s5.Sound pt := by
    unfold s5
    split
    · exact testMin_sound _ _ (renewDeg_sound _ _ h4)
    · exact h4
  have h6 : s6.Sound pt := by
    unfold s6
    split
    · exact replay_sound _ _ h5
    · exact h5
  exact outSound_next (releaseWaiting_sound _ _ h6)

theorem retrain_sound {pt : Part} (s : State) (n : Nat) (hs : s.Sound pt) : (State.retrain s n).Sound pt := by
  unfold State.retrain
  repeat' first
    | with_reducible assumption | with_reducible apply setProg_sound | with_reducible apply setLane_sound
    | with_reducible apply count_sound

theorem execLaneRetrainRetry_sound {pt : Part} (lane : Nat) (s : State) (hs : s.Sound pt) : OutSound pt (execLaneRetrainRetry lane s) := by
  unfold execLaneRetrainRetry
  repeat' first
    | with_reducible assumption | with_reducible apply outSound_next | split | with_reducible apply retrain_sound

theorem execLaneRetrain_sound {pt : Part} (lane : Nat) (s : State) (hs : s.Sound pt) : OutSound pt (execLaneRetrain lane s) := by
  unfold execLaneRetrain
  try dsimp only
  repeat' first
    | with_reducible assumption | with_reducible apply outSound_next | split | with_reducible apply exclude_sound | with_reducible apply put_sound
    | with_reducible apply retrain_sound | with_reducible apply setLane_sound
    | ((with_reducible refine sound_mk ?_ ?_ ?_ ?_ ?_ ?_ ?_); rotate_left; all_goals first | rfl | exact Or.inl rfl | exact Or.inr rfl | skip)

theorem execLaneDisable_sound {pt : Part} (lane : Nat) (s : State) (hs : s.Sound pt) : OutSound pt (execLaneDisable lane s) := by
  unfold execLaneDisable
  try dsimp only
  repeat' first
    | with_reducible assumption | with_reducible apply outSound_next | split | with_reducible apply put_sound
    | with_reducible apply setRx_sound | with_reducible apply setTx_sound | with_reducible apply setLane_sound
    | with_reducible apply count_sound | with_reducible apply renewState_sound | with_reducible apply testDead_sound
    | ((with_reducible refine sound_mk ?_ ?_ ?_ ?_ ?_ ?_ ?_); rotate_left; all_goals first | rfl | exact Or.inl rfl | exact Or.inr rfl | skip)

theorem execBitslip_sound {pt : Part} (lane : Nat) (s : State) (hs : s.Sound pt) : OutSound pt (execBitslip lane s) := by
  unfold execBitslip
  try dsimp only
  repeat' first
    | with_reducible assumption | with_reducible apply outSound_next | split | with_reducible apply put_sound | with_reducible apply setLane_sound
    | ((with_reducible refine sound_mk ?_ ?_ ?_ ?_ ?_ ?_ ?_); rotate_left; all_goals first | rfl | exact Or.inl rfl | exact Or.inr rfl | skip)

theorem execLaneSleep_sound {pt : Part} (lane : Nat) (s : State) (hs : s.Sound pt) : OutSound pt (execLaneSleep lane s) := by
  unfold execLaneSleep
  try dsimp only
  repeat' first
    | with_reducible assumption | with_reducible apply outSound_next | split | with_reducible apply linkEvent_sound
    | with_reducible apply setBit_sound | with_reducible apply setPort_sound
    | ((with_reducible refine sound_mk ?_ ?_ ?_ ?_ ?_ ?_ ?_); rotate_left; all_goals first | rfl | exact Or.inl rfl | exact Or.inr rfl | skip)

theorem execLaneWake_sound {pt : Part} (lane : Nat) (s : State) (hs : s.Sound pt) : OutSound pt (execLaneWake lane s) := by
  unfold execLaneWake
  try dsimp only
  repeat' first
    | with_reducible assumption | with_reducible apply outSound_next | split | with_reducible apply clrBit_sound
    | with_reducible apply setPort_sound | with_reducible apply setLane_sound | with_reducible apply setTx_sound
    | ((with_reducible refine sound_mk ?_ ?_ ?_ ?_ ?_ ?_ ?_); rotate_left; all_goals first | rfl | exact Or.inl rfl | exact Or.inr rfl | skip)

theorem execLaneWakeTimeout_sound {pt : Part} (lane : Nat) (s : State) (hs : s.Sound pt) : OutSound pt (execLaneWakeTimeout lane s) := by
  unfold execLaneWakeTimeout
  repeat' first
    | with_reducible assumption | with_reducible apply outSound_next | split | with_reducible apply put_sound
    | with_reducible apply retrain_sound | with_reducible apply renewState_sound

theorem restartCmd_sound {pt : Part} (s : State) (p : Port) (hs : s.Sound pt) : (State.restartCmd s p).Sound pt := by
  unfold State.restartCmd
  repeat' first
    | with_reducible assumption | split | with_reducible apply linkEvent_sound | with_reducible apply restartPort_sound

theorem execUpRestart_sound {pt : Part} (s : State) (hs : s.Sound pt) : OutSound pt (execUpRestart s) := by
  unfold execUpRestart
  repeat' first
    | with_reducible assumption | with_reducible apply outSound_next | with_reducible apply restartCmd_sound

theorem execCasRestart_sound {pt : Part} (s : State) (hs : s.Sound pt) : OutSound pt (execCasRestart s) := by
  unfold execCasRestart
  repeat' first
    | with_reducible assumption | with_reducible apply outSound_next | split | with_reducible apply restartCmd_sound

theorem execSegmentStatusChange_sound {pt : Part} (s : State) (hs : s.Sound pt) : OutSound pt (execSegmentStatusChange s) := by
  unfold execSegmentStatusChange
  try dsimp only
  repeat' first
    | with_reducible assumption | with_reducible apply outSound_next | split | with_reducible apply applySegment_sound
    | ((with_reducible refine sound_mk ?_ ?_ ?_ ?_ ?_ ?_ ?_); rotate_left; all_goals first | rfl | exact Or.inl rfl | exact Or.inr rfl | skip)

-- Machine/Tally.lean

theorem loftFixed_sound {pt : Part} (s : State) (n : Nat) (hs : s.Sound pt) : (State.loftFixed s n).Sound pt := by
  unfold State.loftFixed
  repeat' first
    | with_reducible assumption | with_reducible apply countBy_sound

theorem setLoftBytes_sound {pt : Part} (s : State) (a : Nat) (b : List Byte) (hs : s.Sound pt) : (s.setLoftBytes a b).Sound pt :=
  ⟨hs.part, ⟨hs.canonical.1, hs.canonical.2.1, hs.canonical.2.2.1, hs.canonical.2.2.2.1, sparseWf_setList b a hs.canonical.2.2.2.2⟩, hs.bounded⟩

theorem loftOp_sound {pt : Part} (s : State) (a : Nat) (b : List Byte) (fail : Option Nat) (hs : s.Sound pt) : (s.loftOp a b fail).1.Sound pt := by
  unfold State.loftOp
  split
  · exact setLoftBytes_sound _ _ _ hs
  · exact setLoftBytes_sound _ _ _ (setLoftBytes_sound _ _ _ hs)

theorem blank_sound {pt : Part} (s : State) (unreadable : List Nat) (hs : s.Sound pt) : (State.blank s unreadable).Sound pt := by
  unfold State.blank
  repeat' first
    | with_reducible assumption | with_reducible apply each_sound | with_reducible apply setLoftBytes_sound
    | intro _

theorem loftFail_sound {pt : Part} (s : State) (addr : Nat) (hs : s.Sound pt) : (State.loftFail s addr).Sound pt := by
  unfold State.loftFail
  repeat' first
    | with_reducible assumption | with_reducible apply count_sound | with_reducible apply put_sound

theorem loftTry_sound {pt : Part} (s : State) (a : Nat) (b : List Byte) (fail : Option Nat) (hs : s.Sound pt) : (s.loftTry a b fail).1.Sound pt := by
  have h := loftOp_sound s a b fail hs
  unfold State.loftTry
  split <;> rename_i he <;> rw [he] at h
  · exact h
  · exact loftFail_sound _ _ h

theorem writeCtl_sound {pt : Part} (s : State) (f : Option Nat × Option Nat) (hs : s.Sound pt) : (s.writeCtl f).1.Sound pt := by
  unfold State.writeCtl
  dsimp only
  apply put_sound
  exact sound_mk (loftTry_sound _ _ _ _ (loftTry_sound _ _ _ _ hs)) rfl rfl rfl rfl rfl (.inl rfl)

theorem tryOps_sound {pt : Part} (addr : Nat) : ∀ (l : List (Nat × List Byte)) (s : State) (fails : List (Option Nat)), s.Sound pt →
    (s.tryOps addr fails l).1.Sound pt
  | [], s, _, hs => hs
  | (o, b) :: rest, s, fails, hs => by
    have h := loftOp_sound s (addr + o) b (fails.head?.getD none) hs
    unfold State.tryOps
    split <;> rename_i he <;> rw [he] at h
    · exact h
    · exact tryOps_sound addr rest _ _ h

theorem mediaFault_sound {pt : Part} (s : State) (mfaFail : Option Nat) (hs : s.Sound pt) : (State.mediaFault s mfaFail).Sound pt := by
  unfold State.mediaFault
  extract_lets detail e tal s1 a b useB addr fails s2
  have h1 : s1.Sound pt := sound_mk hs rfl rfl rfl rfl rfl (.inl rfl)
  have h2 : s2.Sound pt := by
    have h := tryOps_sound addr (recordOps true (e.headRec true)) s1 fails h1
    unfold s2
    split <;> rename_i he <;> rw [he] at h
    · exact h
    · exact put_sound _ _ _ (loftFail_sound _ _ h)
  exact alarm_sound _ _ _ _ (put_sound _ _ _ (put_sound _ _ _ h2))

theorem remap_sound {pt : Part} (s t : State) (slot : Nat) (unreadable : List Nat) (hs : s.Sound pt) (h : s.remap slot unreadable = some t) :
    t.Sound pt := by
  unfold State.remap at h
  dsimp only at h
  split at h
  · cases h
    exact setLoftBytes_sound _ _ _ (sound_mk hs rfl rfl rfl rfl rfl (.inl rfl))
  · cases h

theorem writeRecord_sound {pt : Part} (ops : List (Nat × List Byte)) (unreadable : List Nat) : ∀ (fuel : Nat) (s : State) (fails : List (Option Nat)),
    s.Sound pt → (s.writeRecord ops fails unreadable fuel).1.Sound pt
  | 0, s, _, hs => by unfold State.writeRecord; exact hs
  | fuel + 1, s, fails, hs => by
    have h := tryOps_sound (logSlotAddr s.tal.map s.tal.wpos) ops s fails hs
    unfold State.writeRecord
    split <;> rename_i he <;> rw [he] at h
    · exact sound_mk h rfl rfl rfl rfl rfl (.inl rfl)
    · split
      · rename_i u hu
        exact writeRecord_sound ops unreadable fuel u _ (remap_sound _ _ _ _ (loftFail_sound _ _ h) hu)
      · exact loftFail_sound _ _ h

theorem writeRecords_sound {pt : Part} (mark : Bool) (unreadable : List Nat) : ∀ (l : List (List Byte)) (s : State) (fails : List (Option Nat)),
    s.Sound pt → (s.writeRecords mark fails unreadable l).1.Sound pt
  | [], s, _, hs => by unfold State.writeRecords; exact hs
  | r :: rest, s, fails, hs => by
    have h := writeRecord_sound (recordOps mark r) unreadable 6 s fails hs
    unfold State.writeRecords
    split <;> rename_i he <;> rw [he] at h
    · exact writeRecords_sound mark unreadable rest _ _ h
    · exact h

theorem toRing_sound {pt : Part} (s : State) (rs : List (List Byte)) (hs : s.Sound pt) : (s.toRing rs).Sound pt := by
  refine ⟨hs.part, hs.canonical, hs.bounded.1, hs.bounded.2.1, ?_, hs.bounded.2.2.2⟩
  simp only [State.toRing, List.length_drop]; omega

theorem writeEvent_sound {pt : Part} (s : State) (e : TalEvent) (r : MediaReport) (hs : s.Sound pt) : (s.writeEvent e r).Sound pt := by
  unfold State.writeEvent
  split
  · exact toRing_sound _ _ hs
  · have hw := writeRecords_sound s.talMark r.unreadable (e.records s.talMark) s r.fails hs
    generalize s.writeRecords s.talMark r.fails r.unreadable (e.records s.talMark) = w at hw
    dsimp only
    have hc : (if (w.1.tal.map != s.tal.map) = true then w.1.writeCtl r.ctlFail else (w.1, true)).1.Sound pt := by
      split
      · exact writeCtl_sound _ _ hw
      · exact hw
    generalize (if (w.1.tal.map != s.tal.map) = true then w.1.writeCtl r.ctlFail else (w.1, true)) = c at hc
    split
    · exact count_sound _ _ _ _ (put_sound _ _ _ (put_sound _ _ _ (sound_mk hc rfl rfl rfl rfl rfl (.inl rfl))))
    · exact toRing_sound _ _ (mediaFault_sound _ _ hc)

theorem execTallyRecordWrite_sound {pt : Part} (report : MediaReport) (s : State) (hs : s.Sound pt) : OutSound pt (execTallyRecordWrite report s) := by
  unfold execTallyRecordWrite
  split
  · exact outSound_next hs
  · rename_i e q h
    split
    · exact outSound_next hs
    · refine outSound_next (writeEvent_sound _ _ _ (setQueue_sound _ _ hs ?_))
      have := hs.bounded.2.1; rw [h] at this; simp only [List.length_cons] at this; omega

theorem execTallyScanDone_sound {pt : Part} (mfaFail : Option Nat) (s : State) (corrected : Nat) (unreadable : List Nat) (hs : s.Sound pt) : OutSound pt (execTallyScanDone mfaFail s corrected unreadable) := by
  unfold execTallyScanDone
  try dsimp only
  repeat' first
    | with_reducible assumption | with_reducible apply outSound_next | split | with_reducible apply loftFixed_sound
    | with_reducible apply blank_sound | with_reducible apply mediaFault_sound | with_reducible apply put_sound
    | ((with_reducible refine sound_mk ?_ ?_ ?_ ?_ ?_ ?_ ?_); rotate_left; all_goals first | rfl | exact Or.inl rfl | exact Or.inr rfl | skip)
    | intro _

theorem execTallyClearDone_sound {pt : Part} (s : State) (hs : s.Sound pt) : OutSound pt (execTallyClearDone s) := by
  unfold execTallyClearDone
  try dsimp only
  repeat' first
    | with_reducible assumption | with_reducible apply outSound_next | split | with_reducible apply each_sound | with_reducible apply put_sound
    | with_reducible apply setLoftBytes_sound | with_reducible apply each_sound | intro _

theorem execOptimePersist_sound {pt : Part} (s : State) (hs : s.Sound pt) : OutSound pt (execOptimePersist s) := by
  unfold execOptimePersist
  try dsimp only
  repeat' first
    | with_reducible assumption | with_reducible apply outSound_next | split
    | ((with_reducible refine sound_mk ?_ ?_ ?_ ?_ ?_ ?_ ?_); rotate_left; all_goals first | rfl | exact Or.inl rfl | exact Or.inr rfl | skip)

theorem execMediaClear_sound {pt : Part} (s : State) (hs : s.Sound pt) : OutSound pt (execMediaClear s) := by
  unfold execMediaClear
  repeat' first
    | with_reducible assumption | with_reducible apply outSound_next | with_reducible apply put_sound

theorem execTallyWindowRead_sound {pt : Part} (s : State) (corrected : Nat) (bad : Bool) (hs : s.Sound pt) : OutSound pt (execTallyWindowRead s corrected bad) := by
  unfold execTallyWindowRead
  try dsimp only
  repeat' first
    | with_reducible assumption | with_reducible apply outSound_next | with_reducible apply loftFixed_sound
    | with_reducible apply each_sound | with_reducible apply setWord_sound
    | intro _

theorem sbReturn_sound {pt : Part} (s : State) (b : List Byte) (hs : s.Sound pt) : (State.sbReturn s b).Sound pt := by
  unfold State.sbReturn
  try dsimp only
  repeat' first
    | with_reducible assumption
    | ((with_reducible refine sound_mk ?_ ?_ ?_ ?_ ?_ ?_ ?_); rotate_left; all_goals first | rfl | exact Or.inl rfl | exact Or.inr rfl | skip)

theorem execTallyOpen_sound {pt : Part} (s : State) (hs : s.Sound pt) : OutSound pt (execTallyOpen s) := by
  unfold execTallyOpen
  try dsimp only
  repeat' first
    | with_reducible assumption | with_reducible apply outSound_next | split | with_reducible apply freeze_sound | with_reducible apply sbReturn_sound
    | ((with_reducible refine sound_mk ?_ ?_ ?_ ?_ ?_ ?_ ?_); rotate_left; all_goals first | rfl | exact Or.inl rfl | exact Or.inr rfl | skip)

theorem execTallyRead_sound {pt : Part} (s : State) (corrected : Nat) (bad : Bool) (hs : s.Sound pt) : OutSound pt (execTallyRead s corrected bad) := by
  unfold execTallyRead
  try dsimp only
  repeat' first
    | with_reducible assumption | with_reducible apply outSound_next | split | with_reducible apply sbReturn_sound
    | with_reducible apply loftFixed_sound
    | ((with_reducible refine sound_mk ?_ ?_ ?_ ?_ ?_ ?_ ?_); rotate_left; all_goals first | rfl | exact Or.inl rfl | exact Or.inr rfl | skip)

theorem execTallySeek_sound {pt : Part} (word : BitVec 16) (s : State) (hs : s.Sound pt) : OutSound pt (execTallySeek word s) := by
  unfold execTallySeek
  try dsimp only
  repeat' first
    | with_reducible assumption | with_reducible apply outSound_next | split
    | ((with_reducible refine sound_mk ?_ ?_ ?_ ?_ ?_ ?_ ?_); rotate_left; all_goals first | rfl | exact Or.inl rfl | exact Or.inr rfl | skip)

theorem endSession_sound {pt : Part} (s : State) (hs : s.Sound pt) : (State.endSession s).Sound pt := by
  unfold State.endSession
  try dsimp only
  repeat' first
    | with_reducible assumption | split | with_reducible apply put_sound
    | ((with_reducible refine sound_mk ?_ ?_ ?_ ?_ ?_ ?_ ?_); rotate_left; all_goals first | rfl | exact Or.inl rfl | exact Or.inr rfl | skip)

theorem execTallyClose_sound {pt : Part} (s : State) (hs : s.Sound pt) : OutSound pt (execTallyClose s) := by
  unfold execTallyClose
  repeat' first
    | with_reducible assumption | with_reducible apply outSound_next | with_reducible apply endSession_sound

theorem execTallySessionTimeout_sound {pt : Part} (s : State) (hs : s.Sound pt) : OutSound pt (execTallySessionTimeout s) := by
  unfold execTallySessionTimeout
  repeat' first
    | with_reducible assumption | with_reducible apply outSound_next | split | with_reducible apply endSession_sound

-- Machine/Rfe.lean

theorem setCalChip_sound {pt : Part} (s : State) (k : Nat) (c : CalChip) (hs : s.Sound pt) : (State.setCalChip s k c).Sound pt := by
  unfold State.setCalChip
  try dsimp only
  repeat' first
    | with_reducible assumption
    | ((with_reducible refine sound_mk ?_ ?_ ?_ ?_ ?_ ?_ ?_); rotate_left; all_goals first | rfl | exact Or.inl rfl | exact Or.inr rfl | skip)

theorem renewHeld_sound {pt : Part} (s : State) (k : Nat) (hs : s.Sound pt) : (State.renewHeld s k).Sound pt := by
  unfold State.renewHeld
  try dsimp only
  repeat' first
    | with_reducible assumption | with_reducible apply holdQuiet_sound

theorem calRequest_sound {pt : Part} (s : State) (k kinds : Nat) (hs : s.Sound pt) : (State.calRequest s k kinds).Sound pt := by
  unfold State.calRequest
  repeat' first
    | with_reducible assumption | split | with_reducible apply put_sound

theorem requestRetune_sound {pt : Part} (s : State) (n : Nat) (hs : s.Sound pt) : (State.requestRetune s n).Sound pt := by
  unfold State.requestRetune
  try dsimp only
  repeat' first
    | with_reducible assumption | split | with_reducible apply calRequest_sound | with_reducible apply setCalChip_sound
    | ((with_reducible refine sound_mk ?_ ?_ ?_ ?_ ?_ ?_ ?_); rotate_left; all_goals first | rfl | exact Or.inl rfl | exact Or.inr rfl | skip)

theorem tempTrigger_sound {pt : Part} (s : State) (k : Nat) (hs : s.Sound pt) : (State.tempTrigger s k).Sound pt := by
  unfold State.tempTrigger
  try dsimp only
  repeat' first
    | with_reducible assumption | split | with_reducible apply calRequest_sound | with_reducible apply each_sound | with_reducible apply each_sound
    | ((with_reducible refine sound_mk ?_ ?_ ?_ ?_ ?_ ?_ ?_); rotate_left; all_goals first | rfl | exact Or.inl rfl | exact Or.inr rfl | skip)
    | intro _

theorem calCounted_sound {pt : Part} (s : State) (k kind : Nat) (hs : s.Sound pt) : (State.calCounted s k kind).Sound pt := by
  unfold State.calCounted
  try dsimp only
  repeat' first
    | with_reducible assumption | with_reducible apply count_sound | with_reducible apply fresh_sound | with_reducible apply putInt_sound
    | with_reducible apply setCalChip_sound
    | ((with_reducible refine sound_mk ?_ ?_ ?_ ?_ ?_ ?_ ?_); rotate_left; all_goals first | rfl | exact Or.inl rfl | exact Or.inr rfl | skip)

theorem calAlarm_sound {pt : Part} (s : State) (detail : Nat) (rec : Bool) (hs : s.Sound pt) : (State.calAlarm s detail rec).Sound pt := by
  unfold State.calAlarm
  repeat' first
    | with_reducible assumption | split | with_reducible apply alarm_sound | with_reducible apply tally_sound

theorem calWrite_sound {pt : Part} (s : State) (kinds chiplets : Nat) (hs : s.Sound pt) : (State.calWrite s kinds chiplets).Sound pt := by
  unfold State.calWrite
  try dsimp only
  repeat' first
    | with_reducible assumption | with_reducible apply calRequest_sound | with_reducible apply each_sound | with_reducible apply each_sound | intro _

theorem execCalRequest_sound {pt : Part} (kinds : BitVec 5) (chiplets : BitVec 4) (s : State) (hs : s.Sound pt) : OutSound pt (execCalRequest kinds chiplets s) := by
  unfold execCalRequest
  repeat' first
    | with_reducible assumption | with_reducible apply outSound_next | with_reducible apply calWrite_sound

theorem execCalWindowOpen_sound {pt : Part} (a : Act) (close : Nat) (s : State) (hs : s.Sound pt) : OutSound pt (execCalWindowOpen a close s) := by
  unfold execCalWindowOpen
  try dsimp only
  repeat' first
    | with_reducible assumption | with_reducible apply outSound_next | split | with_reducible apply onFire_sound
    | with_reducible apply setCalChip_sound
    | ((with_reducible refine sound_mk ?_ ?_ ?_ ?_ ?_ ?_ ?_); rotate_left; all_goals first | rfl | exact Or.inl rfl | exact Or.inr rfl | skip)
    | intro _

theorem showLock_sound {pt : Part} (s : State) (k : Nat) (on : Bool) (hs : s.Sound pt) : (State.showLock s k on).Sound pt := by
  unfold State.showLock
  repeat' first
    | with_reducible assumption | with_reducible apply putFlag_sound

theorem calBegin_sound {pt : Part} (s : State) (k kind : Nat) (forLock : Bool) (hs : s.Sound pt) : (State.calBegin s k kind forLock).Sound pt := by
  unfold State.calBegin
  try dsimp only
  repeat' first
    | with_reducible assumption | split | with_reducible apply showLock_sound | with_reducible apply setCalChip_sound
    | with_reducible apply put_sound | with_reducible apply renewHeld_sound
    | ((with_reducible refine sound_mk ?_ ?_ ?_ ?_ ?_ ?_ ?_); rotate_left; all_goals first | rfl | exact Or.inl rfl | exact Or.inr rfl | skip)

theorem execCalStart_sound {pt : Part} (chiplet : Nat) (s : State) (hs : s.Sound pt) : OutSound pt (execCalStart chiplet s) := by
  unfold execCalStart
  try dsimp only
  repeat' first
    | with_reducible assumption | with_reducible apply outSound_next | split | with_reducible apply calBegin_sound
    | ((with_reducible refine sound_mk ?_ ?_ ?_ ?_ ?_ ?_ ?_); rotate_left; all_goals first | rfl | exact Or.inl rfl | exact Or.inr rfl | skip)

theorem calClose_sound {pt : Part} (s : State) (k : Nat) (hs : s.Sound pt) : (State.calClose s k).Sound pt := by
  unfold State.calClose
  try dsimp only
  repeat' first
    | with_reducible assumption | split | with_reducible apply setCalChip_sound | with_reducible apply put_sound
    | with_reducible apply chipZeroes_sound | with_reducible apply count_sound | with_reducible apply invalidateChip_sound
    | with_reducible apply calAlarm_sound
    | ((with_reducible refine sound_mk ?_ ?_ ?_ ?_ ?_ ?_ ?_); rotate_left; all_goals first | rfl | exact Or.inl rfl | exact Or.inr rfl | skip)

theorem execCalWindowClose_sound {pt : Part} (a : Act) (s : State) (hs : s.Sound pt) : OutSound pt (execCalWindowClose a s) := by
  unfold execCalWindowClose
  try dsimp only
  repeat' first
    | with_reducible assumption | with_reducible apply outSound_next | with_reducible apply calClose_sound | with_reducible apply onFire_sound
    | intro _

theorem calIdle_sound {pt : Part} (s : State) (k : Nat) (hs : s.Sound pt) : (State.calIdle s k).Sound pt := by
  unfold State.calIdle
  try dsimp only
  repeat' first
    | with_reducible assumption | split | with_reducible apply showLock_sound | with_reducible apply setCalChip_sound
    | with_reducible apply put_sound | with_reducible apply renewHeld_sound
    | ((with_reducible refine sound_mk ?_ ?_ ?_ ?_ ?_ ?_ ?_); rotate_left; all_goals first | rfl | exact Or.inl rfl | exact Or.inr rfl | skip)

theorem calRelease_sound {pt : Part} (s : State) (k : Nat) (hs : s.Sound pt) : (State.calRelease s k).Sound pt := by
  unfold State.calRelease
  try dsimp only
  repeat' first
    | with_reducible assumption | with_reducible apply put_sound | with_reducible apply setCalChip_sound | with_reducible apply foldl_sound
    | ((with_reducible refine sound_mk ?_ ?_ ?_ ?_ ?_ ?_ ?_); rotate_left; all_goals first | rfl | exact Or.inl rfl | exact Or.inr rfl | skip)
    | intro _

theorem execCalHeldRelease_sound {pt : Part} (chiplet : Nat) (s : State) (hs : s.Sound pt) : OutSound pt (execCalHeldRelease chiplet s) := by
  unfold execCalHeldRelease
  try dsimp only
  repeat' first
    | with_reducible assumption | with_reducible apply outSound_next | split | with_reducible apply calRelease_sound

theorem execSynLockLoss_sound {pt : Part} (chiplet : Nat) (s : State) (hs : s.Sound pt) : OutSound pt (execSynLockLoss chiplet s) := by
  unfold execSynLockLoss
  try dsimp only
  repeat' first
    | with_reducible assumption | with_reducible apply outSound_next | split | with_reducible apply showLock_sound
    | with_reducible apply setCalChip_sound | with_reducible apply renewHeld_sound | with_reducible apply chipZeroes_sound
    | with_reducible apply invalidateChip_sound | with_reducible apply count_sound | with_reducible apply calAlarm_sound
    | ((with_reducible refine sound_mk ?_ ?_ ?_ ?_ ?_ ?_ ?_); rotate_left; all_goals first | rfl | exact Or.inl rfl | exact Or.inr rfl | skip)

theorem execSynRelockRetry_sound {pt : Part} (chiplet : Nat) (s : State) (hs : s.Sound pt) : OutSound pt (execSynRelockRetry chiplet s) := by
  unfold execSynRelockRetry
  try dsimp only
  repeat' first
    | with_reducible assumption | with_reducible apply outSound_next | split | with_reducible apply calBegin_sound

theorem setFsbBus_sound {pt : Part} (s : State) (b : Nat) (x : FsbBus) (hs : s.Sound pt) : (State.setFsbBus s b x).Sound pt := by
  unfold State.setFsbBus
  try dsimp only
  repeat' first
    | with_reducible assumption
    | ((with_reducible refine sound_mk ?_ ?_ ?_ ?_ ?_ ?_ ?_); rotate_left; all_goals first | rfl | exact Or.inl rfl | exact Or.inr rfl | skip)

theorem fsbOut_sound {pt : Part} (s : State) (b : Nat) (hs : s.Sound pt) : (State.fsbOut s b).Sound pt := by
  unfold State.fsbOut
  try dsimp only
  repeat' first
    | with_reducible assumption | split
    | ((with_reducible refine sound_mk ?_ ?_ ?_ ?_ ?_ ?_ ?_); rotate_left; all_goals first | rfl | exact Or.inl rfl | exact Or.inr rfl | skip)

theorem fsbRun_sound {pt : Part} (s : State) (b : Nat) (chain : List Nat) (hs : s.Sound pt) : (State.fsbRun s b chain).Sound pt := by
  unfold State.fsbRun
  try dsimp only
  repeat' first
    | with_reducible assumption | with_reducible apply fsbOut_sound | with_reducible apply setFsbBus_sound
    | ((with_reducible refine sound_mk ?_ ?_ ?_ ?_ ?_ ?_ ?_); rotate_left; all_goals first | rfl | exact Or.inl rfl | exact Or.inr rfl | skip)

theorem fsbDue_sound {pt : Part} (s : State) (b : Nat) (hs : s.Sound pt) : (State.fsbDue s b).Sound pt := by
  unfold State.fsbDue
  try dsimp only
  repeat' first
    | with_reducible assumption | split | with_reducible apply setFsbBus_sound | with_reducible apply fsbRun_sound
    | with_reducible apply fresh_sound
    | ((with_reducible refine sound_mk ?_ ?_ ?_ ?_ ?_ ?_ ?_); rotate_left; all_goals first | rfl | exact Or.inl rfl | exact Or.inr rfl | skip)

theorem fsbTrigger_sound {pt : Part} (s : State) (b i : Nat) (hs : s.Sound pt) : (State.fsbTrigger s b i).Sound pt := by
  unfold State.fsbTrigger
  try dsimp only
  repeat' first
    | with_reducible assumption | split | with_reducible apply fsbDue_sound | with_reducible apply fsbRun_sound
    | with_reducible apply setFsbBus_sound
    | ((with_reducible refine sound_mk ?_ ?_ ?_ ?_ ?_ ?_ ?_); rotate_left; all_goals first | rfl | exact Or.inl rfl | exact Or.inr rfl | skip)

theorem execFsbSend_sound {pt : Part} (a : Act) (s : State) (hs : s.Sound pt) : OutSound pt (execFsbSend a s) := by
  unfold execFsbSend
  try dsimp only
  repeat' first
    | with_reducible assumption | with_reducible apply outSound_next | split | with_reducible apply fresh_sound | with_reducible apply fsbRun_sound
    | with_reducible apply onFire_sound | with_reducible apply setFsbBus_sound
    | ((with_reducible refine sound_mk ?_ ?_ ?_ ?_ ?_ ?_ ?_); rotate_left; all_goals first | rfl | exact Or.inl rfl | exact Or.inr rfl | skip)
    | intro _

theorem execFsbChainStart_sound {pt : Part} (bus : Nat) (s : State) (hs : s.Sound pt) : OutSound pt (execFsbChainStart bus s) := by
  unfold execFsbChainStart
  try dsimp only
  repeat' first
    | with_reducible assumption | with_reducible apply outSound_next | split | with_reducible apply fsbDue_sound
    | with_reducible apply setFsbBus_sound | with_reducible apply fsbRun_sound
    | ((with_reducible refine sound_mk ?_ ?_ ?_ ?_ ?_ ?_ ?_); rotate_left; all_goals first | rfl | exact Or.inl rfl | exact Or.inr rfl | skip)

theorem execFsbFrameDone_sound {pt : Part} (bus : Nat) (data : Byte) (par : Bool) (s : State) (hs : s.Sound pt) : OutSound pt (execFsbFrameDone bus data par s) := by
  unfold execFsbFrameDone
  try dsimp only
  repeat' first
    | with_reducible assumption | with_reducible apply outSound_next | split | with_reducible apply put_sound
    | with_reducible apply putFlag_sound | with_reducible apply count_sound | with_reducible apply setFsbBus_sound
    | with_reducible apply fsbOut_sound | with_reducible apply fsbDue_sound
    | ((with_reducible refine sound_mk ?_ ?_ ?_ ?_ ?_ ?_ ?_); rotate_left; all_goals first | rfl | exact Or.inl rfl | exact Or.inr rfl | skip)

theorem fsbGo_sound {pt : Part} (s : State) (w : Word) (hs : s.Sound pt) : (State.fsbGo s w).Sound pt := by
  unfold State.fsbGo
  try dsimp only
  repeat' first
    | with_reducible assumption | split | with_reducible apply fsbRun_sound | with_reducible apply put_sound | with_reducible apply setFsbBus_sound
    | ((with_reducible refine sound_mk ?_ ?_ ?_ ?_ ?_ ?_ ?_); rotate_left; all_goals first | rfl | exact Or.inl rfl | exact Or.inr rfl | skip)

theorem execFsbGo_sound {pt : Part} (word : BitVec 32) (s : State) (hs : s.Sound pt) : OutSound pt (execFsbGo word s) := by
  unfold execFsbGo
  repeat' first
    | with_reducible assumption | with_reducible apply outSound_next | with_reducible apply fsbGo_sound

theorem femLines_sound {pt : Part} (s : State) (n : Nat) (hs : s.Sound pt) : (State.femLines s n).Sound pt := by
  unfold State.femLines
  repeat' first
    | with_reducible assumption | with_reducible apply put_sound

theorem femTake_sound {pt : Part} (s : State) (n e : Nat) (hs : s.Sound pt) : (State.femTake s n e).Sound pt := by
  unfold State.femTake
  repeat' first
    | with_reducible assumption | split | with_reducible apply put_sound

theorem stepTake_sound {pt : Part} (s : State) (n i : Nat) (hs : s.Sound pt) : (State.stepTake s n i).Sound pt := by
  unfold State.stepTake
  repeat' first
    | with_reducible assumption | with_reducible apply femTake_sound | with_reducible apply put_sound

theorem stepRequest_sound {pt : Part} (s : State) (n i : Nat) (hs : s.Sound pt) : (State.stepRequest s n i).Sound pt := by
  unfold State.stepRequest
  try dsimp only
  repeat' first
    | with_reducible assumption | split | with_reducible apply put_sound | with_reducible apply stepTake_sound

theorem femChains_sound {pt : Part} (s : State) (l : List (Nat × Nat)) (hs : s.Sound pt) : (State.femChains s l).Sound pt := by
  unfold State.femChains
  try dsimp only
  repeat' first
    | with_reducible assumption | split | with_reducible apply each_sound | with_reducible apply fsbTrigger_sound | with_reducible apply each_sound
    | intro _

theorem frontAt_sound {pt : Part} (s : State) (a : Nat) (hs : s.Sound pt) : (State.frontAt s a).Sound pt := by
  unfold State.frontAt
  try dsimp only
  repeat' first
    | with_reducible assumption | split | with_reducible apply each_sound | with_reducible apply femChains_sound | with_reducible apply femLines_sound
    | with_reducible apply femTake_sound | with_reducible apply put_sound | with_reducible apply stepRequest_sound | with_reducible apply each_sound
    | ((with_reducible refine sound_mk ?_ ?_ ?_ ?_ ?_ ?_ ?_); rotate_left; all_goals first | rfl | exact Or.inl rfl | exact Or.inr rfl | skip)
    | intro _

theorem execPowerStepBoundary_sound {pt : Part} (bound : Nat) (s : State) (hs : s.Sound pt) : OutSound pt (execPowerStepBoundary bound s) := by
  unfold execPowerStepBoundary
  repeat' first
    | with_reducible assumption | with_reducible apply outSound_next | with_reducible apply frontAt_sound

theorem execFemChangeInstant_sound {pt : Part} (bound : Nat) (s : State) (hs : s.Sound pt) : OutSound pt (execFemChangeInstant bound s) := by
  unfold execFemChangeInstant
  repeat' first
    | with_reducible assumption | with_reducible apply outSound_next | with_reducible apply frontAt_sound

theorem execFemPhase_sound {pt : Part} (a : Act) (s : State) (hs : s.Sound pt) : OutSound pt (execFemPhase a s) := by
  unfold execFemPhase
  try dsimp only
  repeat' first
    | with_reducible assumption | with_reducible apply outSound_next | with_reducible apply onFire_sound
    | ((with_reducible refine sound_mk ?_ ?_ ?_ ?_ ?_ ?_ ?_); rotate_left; all_goals first | rfl | exact Or.inl rfl | exact Or.inr rfl | skip)
    | intro _

theorem femIdleAll_sound {pt : Part} (s : State) (hs : s.Sound pt) : (State.femIdleAll s).Sound pt := by
  unfold State.femIdleAll
  try dsimp only
  repeat' first
    | with_reducible assumption | with_reducible apply each_sound | with_reducible apply put_sound | with_reducible apply each_sound | intro _

theorem frontStart_sound {pt : Part} (s : State) (hs : s.Sound pt) : (State.frontStart s).Sound pt := by
  unfold State.frontStart
  try dsimp only
  repeat' first
    | with_reducible assumption | split | with_reducible apply each_sound | with_reducible apply femChains_sound | with_reducible apply femLines_sound
    | with_reducible apply put_sound | with_reducible apply each_sound | intro _

theorem execProtectBoundary_sound {pt : Part} (bound : Nat) (s : State) (hs : s.Sound pt) : OutSound pt (execProtectBoundary bound s) := by
  unfold execProtectBoundary
  try dsimp only
  repeat' first
    | with_reducible assumption | with_reducible apply outSound_next | split | with_reducible apply each_sound | with_reducible apply femChains_sound
    | with_reducible apply femLines_sound | with_reducible apply stepTake_sound | with_reducible apply each_sound
    | ((with_reducible refine sound_mk ?_ ?_ ?_ ?_ ?_ ?_ ?_); rotate_left; all_goals first | rfl | exact Or.inl rfl | exact Or.inr rfl | skip)
    | intro _

theorem reflection_sound {pt : Part} (s : State) (p est : Nat) (hs : s.Sound pt) : (State.reflection s p est).Sound pt := by
  unfold State.reflection
  try dsimp only
  repeat' first
    | with_reducible assumption | split | with_reducible apply count_sound | with_reducible apply fsbTrigger_sound
    | with_reducible apply renewProt_sound | with_reducible apply setBit_sound | with_reducible apply tally_sound
    | ((with_reducible refine sound_mk ?_ ?_ ?_ ?_ ?_ ?_ ?_); rotate_left; all_goals first | rfl | exact Or.inl rfl | exact Or.inr rfl | skip)

theorem execAlertInputRise_sound {pt : Part} (input : Nat) (s : State) (held : Nat) (hs : s.Sound pt) : OutSound pt (execAlertInputRise input s held) := by
  unfold execAlertInputRise
  repeat' first
    | with_reducible assumption | with_reducible apply outSound_next | split | with_reducible apply setBit_sound
    | with_reducible apply tally_sound | with_reducible apply renewProt_sound

theorem execAlertInputFall_sound {pt : Part} (input : Nat) (s : State) (held : Nat) (hs : s.Sound pt) : OutSound pt (execAlertInputFall input s held) := by
  unfold execAlertInputFall
  repeat' first
    | with_reducible assumption | with_reducible apply outSound_next | split | with_reducible apply clrBit_sound

theorem tripClear_sound {pt : Part} (s : State) (p : Nat) (hs : s.Sound pt) : (State.tripClear s p).Sound pt := by
  unfold State.tripClear
  try dsimp only
  repeat' first
    | with_reducible assumption | split | with_reducible apply clrBit_sound | with_reducible apply renewProt_sound
    | ((with_reducible refine sound_mk ?_ ?_ ?_ ?_ ?_ ?_ ?_); rotate_left; all_goals first | rfl | exact Or.inl rfl | exact Or.inr rfl | skip)

theorem execTripClear_sound {pt : Part} (path : Nat) (s : State) (hs : s.Sound pt) : OutSound pt (execTripClear path s) := by
  unfold execTripClear
  repeat' first
    | with_reducible assumption | with_reducible apply outSound_next | with_reducible apply tripClear_sound

theorem latchClear_sound {pt : Part} (s : State) (k : Nat) (hs : s.Sound pt) : (State.latchClear s k).Sound pt := by
  unfold State.latchClear
  repeat' first
    | with_reducible assumption | split | with_reducible apply clrBit_sound | with_reducible apply renewProt_sound

theorem execLatchClear_sound {pt : Part} (input : Nat) (s : State) (hs : s.Sound pt) : OutSound pt (execLatchClear input s) := by
  unfold execLatchClear
  repeat' first
    | with_reducible assumption | with_reducible apply outSound_next | split | with_reducible apply latchClear_sound

theorem setTine_sound {pt : Part} (s : State) (k : Nat) (x : Tine) (hs : s.Sound pt) : (State.setTine s k x).Sound pt := by
  unfold State.setTine
  try dsimp only
  repeat' first
    | with_reducible assumption
    | ((with_reducible refine sound_mk ?_ ?_ ?_ ?_ ?_ ?_ ?_); rotate_left; all_goals first | rfl | exact Or.inl rfl | exact Or.inr rfl | skip)

theorem tineOut_sound {pt : Part} (s : State) (k : Nat) (l : List (List Bool)) (idle : Bool) (hs : s.Sound pt) : (State.tineOut s k l idle).Sound pt := by
  unfold State.tineOut
  try dsimp only
  repeat' first
    | with_reducible assumption | split | with_reducible apply countBy_sound | with_reducible apply idle_sound | with_reducible apply put_sound
    | with_reducible apply setTine_sound
    | ((with_reducible refine sound_mk ?_ ?_ ?_ ?_ ?_ ?_ ?_); rotate_left; all_goals first | rfl | exact Or.inl rfl | exact Or.inr rfl | skip)

theorem execTineSend_sound {pt : Part} (a : Act) (s : State) (hs : s.Sound pt) : OutSound pt (execTineSend a s) := by
  unfold execTineSend
  try dsimp only
  repeat' first
    | with_reducible assumption | with_reducible apply outSound_next | split | with_reducible apply onFire_sound | with_reducible apply tineOut_sound
    | ((with_reducible refine sound_mk ?_ ?_ ?_ ?_ ?_ ?_ ?_); rotate_left; all_goals first | rfl | exact Or.inl rfl | exact Or.inr rfl | skip)
    | intro _

theorem execTineStrobe_sound {pt : Part} (a : Act) (s : State) (hs : s.Sound pt) : OutSound pt (execTineStrobe a s) := by
  unfold execTineStrobe
  try dsimp only
  repeat' first
    | with_reducible assumption | with_reducible apply outSound_next | with_reducible apply each_sound | with_reducible apply onFire_sound
    | with_reducible apply setTine_sound | with_reducible apply each_sound
    | ((with_reducible refine sound_mk ?_ ?_ ?_ ?_ ?_ ?_ ?_); rotate_left; all_goals first | rfl | exact Or.inl rfl | exact Or.inr rfl | skip)
    | intro _

theorem execTineReadback_sound {pt : Part} (chain : Nat) (ret : List Bool) (s : State) (hs : s.Sound pt) : OutSound pt (execTineReadback chain ret s) := by
  unfold execTineReadback
  try dsimp only
  repeat' first
    | with_reducible assumption | with_reducible apply outSound_next | split | with_reducible apply count_sound | with_reducible apply put_sound
    | with_reducible apply setTine_sound
    | ((with_reducible refine sound_mk ?_ ?_ ?_ ?_ ?_ ?_ ?_); rotate_left; all_goals first | rfl | exact Or.inl rfl | exact Or.inr rfl | skip)

theorem tineIdleAll_sound {pt : Part} (s : State) (hs : s.Sound pt) : (State.tineIdleAll s).Sound pt := by
  unfold State.tineIdleAll
  try dsimp only
  repeat' first
    | with_reducible assumption | with_reducible apply each_sound | with_reducible apply tineOut_sound | with_reducible apply each_sound | intro _

theorem execTineIdleStrobe_sound {pt : Part} (chain : Nat) (s : State) (hs : s.Sound pt) : OutSound pt (execTineIdleStrobe chain s) := by
  unfold execTineIdleStrobe
  try dsimp only
  repeat' first
    | with_reducible assumption | with_reducible apply outSound_next | split | with_reducible apply idle_sound | with_reducible apply setTine_sound
    | ((with_reducible refine sound_mk ?_ ?_ ?_ ?_ ?_ ?_ ?_); rotate_left; all_goals first | rfl | exact Or.inl rfl | exact Or.inr rfl | skip)

-- Machine/Memory.lean

theorem setGran_sound {pt : Part} (s : State) (a : Nat) (b : List Byte) (hs : s.Sound pt) : (s.setGran a b).Sound pt :=
  ⟨hs.part, ⟨hs.canonical.1, sparseWf_setList b a hs.canonical.2.1, hs.canonical.2.2⟩, hs.bounded⟩

theorem granEcc_sound {pt : Part} (s : State) (addr : Nat) (e : EccResult) (hs : s.Sound pt) : (State.granEcc s addr e).Sound pt := by
  unfold State.granEcc
  try dsimp only
  repeat' first
    | with_reducible assumption | split | with_reducible apply count_sound | with_reducible apply put_sound | with_reducible apply tally_sound
    | ((with_reducible refine sound_mk ?_ ?_ ?_ ?_ ?_ ?_ ?_); rotate_left; all_goals first | rfl | exact Or.inl rfl | exact Or.inr rfl | skip)

theorem storeLoft_sound {pt : Part} (s : State) (a : Nat) (b : List Byte) (hs : s.Sound pt) : (State.storeLoft s a b).Sound pt := by
  unfold State.storeLoft
  try dsimp only
  repeat' first
    | with_reducible assumption | split | with_reducible apply setLoftBytes_sound
    | ((with_reducible refine sound_mk ?_ ?_ ?_ ?_ ?_ ?_ ?_); rotate_left; all_goals first | rfl | exact Or.inl rfl | exact Or.inr rfl | skip)

theorem execLoftWriteDone_sound {pt : Part} (writer : LoftWriter) (addr : Nat) (words : List (BitVec 64)) (failed : Option Nat) (s : State) (hs : s.Sound pt) : OutSound pt (execLoftWriteDone writer addr words failed s) := by
  unfold execLoftWriteDone
  try dsimp only
  repeat' first
    | with_reducible assumption | with_reducible apply outSound_next | split | with_reducible apply count_sound | with_reducible apply put_sound
    | with_reducible apply storeLoft_sound
    | ((with_reducible refine sound_mk ?_ ?_ ?_ ?_ ?_ ?_ ?_); rotate_left; all_goals first | rfl | exact Or.inl rfl | exact Or.inr rfl | skip)
    | intro _

theorem setDram_sound {pt : Part} (s : State) (a : Nat) (b : List Byte) (hs : s.Sound pt) : (s.setDram a b).Sound pt := by
  unfold State.setDram
  split
  · exact hs
  · split
    · exact ⟨hs.part, ⟨hs.canonical.1, hs.canonical.2.1, sparseWf_setList b a hs.canonical.2.2.1, hs.canonical.2.2.2⟩, hs.bounded⟩
    · exact ⟨hs.part, ⟨hs.canonical.1, hs.canonical.2.1, hs.canonical.2.2.1, sparseWf_setList (b.map some) a hs.canonical.2.2.2.1, hs.canonical.2.2.2.2⟩, hs.bounded⟩

theorem srExit_sound {pt : Part} (s : State) (counted : Bool) (hs : s.Sound pt) : (State.srExit s counted).Sound pt := by
  unfold State.srExit
  try dsimp only
  repeat' first
    | with_reducible assumption | split | with_reducible apply count_sound | with_reducible apply put_sound
    | ((with_reducible refine sound_mk ?_ ?_ ?_ ?_ ?_ ?_ ?_); rotate_left; all_goals first | rfl | exact Or.inl rfl | exact Or.inr rfl | skip)

theorem dramUsed_sound {pt : Part} (s : State) (hs : s.Sound pt) : (State.dramUsed s).Sound pt := by
  unfold State.dramUsed
  repeat' first
    | with_reducible assumption
    | ((with_reducible refine sound_mk ?_ ?_ ?_ ?_ ?_ ?_ ?_); rotate_left; all_goals first | rfl | exact Or.inl rfl | exact Or.inr rfl | skip)

theorem dramReq_sound {pt : Part} (s : State) (hs : s.Sound pt) : (State.dramReq s).Sound pt := by
  unfold State.dramReq
  try dsimp only
  repeat' first
    | with_reducible assumption | split | with_reducible apply dramUsed_sound | with_reducible apply count_sound
    | with_reducible apply srExit_sound

theorem srEnter_sound {pt : Part} (s : State) (hs : s.Sound pt) : (State.srEnter s).Sound pt := by
  unfold State.srEnter
  try dsimp only
  repeat' first
    | with_reducible assumption | split | with_reducible apply put_sound
    | ((with_reducible refine sound_mk ?_ ?_ ?_ ?_ ?_ ?_ ?_); rotate_left; all_goals first | rfl | exact Or.inl rfl | exact Or.inr rfl | skip)

theorem execSelfRefreshEntry_sound {pt : Part} (s : State) (hs : s.Sound pt) : OutSound pt (execSelfRefreshEntry s) := by
  unfold execSelfRefreshEntry
  try dsimp only
  repeat' first
    | with_reducible assumption | with_reducible apply outSound_next | split
    | ((with_reducible refine sound_mk ?_ ?_ ?_ ?_ ?_ ?_ ?_); rotate_left; all_goals first | rfl | exact Or.inl rfl | exact Or.inr rfl | skip)

theorem execSelfRefreshExit_sound {pt : Part} (request : Bool) (s : State) (hs : s.Sound pt) : OutSound pt (execSelfRefreshExit request s) := by
  unfold execSelfRefreshExit
  repeat' first
    | with_reducible assumption | with_reducible apply outSound_next | with_reducible apply srExit_sound

theorem dramFail_sound {pt : Part} (s : State) (lanes : Nat) (hs : s.Sound pt) : (State.dramFail s lanes).Sound pt := by
  unfold State.dramFail
  split
  · exact hs
  · extract_lets a b shf mem c d con e f g
    have ha : a.Sound pt := each_sound _ _ _ hs (fun _ _ ht => put_sound _ _ _ ht)
    have hb : b.Sound pt := put_sound _ _ _ (put_sound _ _ _ (put_sound _ _ _ ha))
    have hc : c.Sound pt := cutVerify_sound _
      ⟨hb.part, ⟨hb.canonical.1, hb.canonical.2.1, rfl, rfl, hb.canonical.2.2.2.2⟩, hb.bounded⟩
    have hd : d.Sound pt := each_sound _ _ _ hc (fun _ _ ht => nack_sound _ _ _ (count_sound _ _ _ _ ht))
    have he : e.Sound pt := put_sound _ _ _ (sound_mk hd rfl rfl rfl rfl rfl (.inl rfl))
    have hf : f.Sound pt := alarm_sound _ _ _ _ (tally_sound _ _ _ he)
    have hg : g.Sound pt := by
      unfold g
      split
      · exact failApply_sound _ _ _ hf
      · exact hf
    clear_value g
    split
    · exact dramRunFault_sound _ hg
    · exact hg

theorem setLaneDelays_sound {pt : Part} (s : State) (k : Nat) (l : LaneSweep) (hs : s.Sound pt) : (State.setLaneDelays s k l).Sound pt := by
  unfold State.setLaneDelays
  try dsimp only
  repeat' first
    | with_reducible assumption | with_reducible apply fresh_sound | with_reducible apply put_sound

theorem setLaneEyes_sound {pt : Part} (s : State) (k : Nat) (l : LaneSweep) (hs : s.Sound pt) : (State.setLaneEyes s k l).Sound pt := by
  unfold State.setLaneEyes
  repeat' first
    | with_reducible assumption | with_reducible apply put_sound | with_reducible apply putInt_sound

theorem takeSweeps_sound {pt : Part} (s : State) (lanes : List LaneSweep) (hs : s.Sound pt) : (State.takeSweeps s lanes).Sound pt := by
  unfold State.takeSweeps
  try dsimp only
  repeat' first
    | with_reducible assumption | split | with_reducible apply each_sound | with_reducible apply setLaneEyes_sound
    | with_reducible apply setLaneDelays_sound | with_reducible apply put_sound
    | ((with_reducible refine sound_mk ?_ ?_ ?_ ?_ ?_ ?_ ?_); rotate_left; all_goals first | rfl | exact Or.inl rfl | exact Or.inr rfl | skip)
    | intro _

theorem execDramTrainingDone_sound {pt : Part} (size : BitVec 2) (lanes : List LaneSweep) (s : State) (hs : s.Sound pt) : OutSound pt (execDramTrainingDone size lanes s) := by
  unfold execDramTrainingDone
  try dsimp only
  repeat' first
    | with_reducible assumption | with_reducible apply outSound_next | split | with_reducible apply alertN_sound | with_reducible apply bringUp_sound
    | with_reducible apply put_sound | with_reducible apply takeSweeps_sound | with_reducible apply tally_sound

theorem execDramFullTrainingDone_sound {pt : Part} (lanes : List LaneSweep) (s : State) (hs : s.Sound pt) : OutSound pt (execDramFullTrainingDone lanes s) := by
  unfold execDramFullTrainingDone
  try dsimp only
  repeat' first
    | with_reducible assumption | with_reducible apply outSound_next | split | with_reducible apply alertN_sound | with_reducible apply put_sound
    | with_reducible apply takeSweeps_sound

theorem dramRetrain_sound {pt : Part} (s : State) (hs : s.Sound pt) : (State.dramRetrain s).Sound pt := by
  unfold State.dramRetrain
  repeat' first
    | with_reducible assumption | split | with_reducible apply put_sound | with_reducible apply srExit_sound

theorem linkFixed_sound {pt : Part} (s : State) (lane : Nat) (hs : s.Sound pt) : (State.linkFixed s lane).Sound pt := by
  unfold State.linkFixed
  repeat' first
    | with_reducible assumption | with_reducible apply count_sound

theorem linkLost_sound {pt : Part} (s : State) (lane : Nat) (hs : s.Sound pt) : (State.linkLost s lane).Sound pt := by
  unfold State.linkLost
  try dsimp only
  repeat' first
    | with_reducible assumption | split | with_reducible apply count_sound | with_reducible apply dramRetrain_sound
    | ((with_reducible refine sound_mk ?_ ?_ ?_ ?_ ?_ ?_ ?_); rotate_left; all_goals first | rfl | exact Or.inl rfl | exact Or.inr rfl | skip)
    | intro _

theorem linkMeets_sound {pt : Part} (s : State) (l : LinkErrs) (hs : s.Sound pt) : (State.linkMeets s l).Sound pt := by
  unfold State.linkMeets
  repeat' first
    | with_reducible assumption | split | with_reducible apply each_sound | with_reducible apply linkLost_sound
    | with_reducible apply linkFixed_sound
    | intro _

theorem execDramTrain_sound {pt : Part} (s : State) (hs : s.Sound pt) : OutSound pt (execDramTrain s) := by
  unfold execDramTrain
  repeat' first
    | with_reducible assumption | with_reducible apply outSound_next | split | with_reducible apply dramRetrain_sound | with_reducible apply put_sound

theorem execDramRetrainDone_sound {pt : Part} (lanes : List LaneSweep) (s : State) (hs : s.Sound pt) : OutSound pt (execDramRetrainDone lanes s) := by
  unfold execDramRetrainDone
  try dsimp only
  repeat' first
    | with_reducible assumption | with_reducible apply outSound_next | split | with_reducible apply each_sound
    | with_reducible apply setLaneEyes_sound | with_reducible apply count_sound | with_reducible apply setLaneDelays_sound
    | with_reducible apply put_sound | with_reducible apply foldl_sound | with_reducible apply dramFail_sound
    | with_reducible apply foldl_sound
    | ((with_reducible refine sound_mk ?_ ?_ ?_ ?_ ?_ ?_ ?_); rotate_left; all_goals first | rfl | exact Or.inl rfl | exact Or.inr rfl | skip)
    | intro _

theorem execRefreshWindow_sound {pt : Part} (banks : List Nat) (s : State) (hs : s.Sound pt) : OutSound pt (execRefreshWindow banks s) := by
  unfold execRefreshWindow
  try dsimp only
  repeat' first
    | with_reducible assumption | with_reducible apply outSound_next | split | with_reducible apply foldl_sound
    | ((with_reducible refine sound_mk ?_ ?_ ?_ ?_ ?_ ?_ ?_); rotate_left; all_goals first | rfl | exact Or.inl rfl | exact Or.inr rfl | skip)
    | intro _

theorem execMr4Poll_sound {pt : Part} (rates postponed : List Nat) (s : State) (hs : s.Sound pt) : OutSound pt (execMr4Poll rates postponed s) := by
  unfold execMr4Poll
  try dsimp only
  repeat' first
    | with_reducible assumption | with_reducible apply outSound_next | split | with_reducible apply alarm_sound | with_reducible apply dramFail_sound
    | with_reducible apply dramRetrain_sound | with_reducible apply putFlag_sound | with_reducible apply put_sound | with_reducible apply tally_sound
    | with_reducible apply foldl_sound
    | ((with_reducible refine sound_mk ?_ ?_ ?_ ?_ ?_ ?_ ?_); rotate_left; all_goals first | rfl | exact Or.inl rfl | exact Or.inr rfl | skip)
    | intro _

-- Machine/Monitor.lean

theorem monShow_sound {pt : Part} (s : State) (hs : s.Sound pt) : (State.monShow s).Sound pt := by
  unfold State.monShow
  try dsimp only
  repeat' first
    | with_reducible assumption | split | with_reducible apply put_sound
    | ((with_reducible refine sound_mk ?_ ?_ ?_ ?_ ?_ ?_ ?_); rotate_left; all_goals first | rfl | exact Or.inl rfl | exact Or.inr rfl | skip)

theorem monStart_sound {pt : Part} (s : State) (c : MonConv) (hs : s.Sound pt) : (State.monStart s c).Sound pt := by
  unfold State.monStart
  try dsimp only
  repeat' first
    | with_reducible assumption | with_reducible apply monShow_sound
    | ((with_reducible refine sound_mk ?_ ?_ ?_ ?_ ?_ ?_ ?_); rotate_left; all_goals first | rfl | exact Or.inl rfl | exact Or.inr rfl | skip)

theorem monNext_sound {pt : Part} (s : State) (at_ : Nat) (hs : s.Sound pt) : (State.monNext s at_).Sound pt := by
  unfold State.monNext
  try dsimp only
  repeat' first
    | with_reducible assumption | split | with_reducible apply monShow_sound | with_reducible apply monStart_sound | with_reducible apply put_sound
    | ((with_reducible refine sound_mk ?_ ?_ ?_ ?_ ?_ ?_ ?_); rotate_left; all_goals first | rfl | exact Or.inl rfl | exact Or.inr rfl | skip)

theorem monAbort_sound {pt : Part} (s : State) (hs : s.Sound pt) : (State.monAbort s).Sound pt := by
  unfold State.monAbort
  try dsimp only
  repeat' first
    | with_reducible assumption | split | with_reducible apply count_sound | with_reducible apply monShow_sound
    | ((with_reducible refine sound_mk ?_ ?_ ?_ ?_ ?_ ?_ ?_); rotate_left; all_goals first | rfl | exact Or.inl rfl | exact Or.inr rfl | skip)

theorem execConvert_sound {pt : Part} (a : Act) (s : State) (hs : s.Sound pt) : OutSound pt (execConvert a s) := by
  unfold execConvert
  try dsimp only
  repeat' first
    | with_reducible assumption | with_reducible apply outSound_next | split | with_reducible apply monAbort_sound
    | with_reducible apply monStart_sound | with_reducible apply onFire_sound
    | ((with_reducible refine sound_mk ?_ ?_ ?_ ?_ ?_ ?_ ?_); rotate_left; all_goals first | rfl | exact Or.inl rfl | exact Or.inr rfl | skip)
    | intro _

theorem urgentGo_sound {pt : Part} (s : State) (ch : Nat) (hs : s.Sound pt) : (State.urgentGo s ch).Sound pt := by
  unfold State.urgentGo
  try dsimp only
  repeat' first
    | with_reducible assumption | split | with_reducible apply monAbort_sound | with_reducible apply monNext_sound | with_reducible apply put_sound
    | ((with_reducible refine sound_mk ?_ ?_ ?_ ?_ ?_ ?_ ?_); rotate_left; all_goals first | rfl | exact Or.inl rfl | exact Or.inr rfl | skip)

theorem execUrgentGo_sound {pt : Part} (ch : BitVec 7) (s : State) (hs : s.Sound pt) : OutSound pt (execUrgentGo ch s) := by
  unfold execUrgentGo
  repeat' first
    | with_reducible assumption | with_reducible apply outSound_next | with_reducible apply urgentGo_sound

theorem monCal_sound {pt : Part} (s : State) (hs : s.Sound pt) : (State.monCal s).Sound pt := by
  unfold State.monCal
  repeat' first
    | with_reducible assumption | with_reducible apply monNext_sound | with_reducible apply put_sound

theorem execMonCal_sound {pt : Part} (s : State) (hs : s.Sound pt) : OutSound pt (execMonCal s) := by
  unfold execMonCal
  repeat' first
    | with_reducible assumption | with_reducible apply outSound_next | with_reducible apply monCal_sound

theorem monPower_sound {pt : Part} (s : State) (hs : s.Sound pt) : (State.monPower s).Sound pt := by
  unfold State.monPower
  try dsimp only
  repeat' first
    | with_reducible assumption | split | with_reducible apply monCal_sound | with_reducible apply put_sound | with_reducible apply setWord_sound
    | ((with_reducible refine sound_mk ?_ ?_ ?_ ?_ ?_ ?_ ?_); rotate_left; all_goals first | rfl | exact Or.inl rfl | exact Or.inr rfl | skip)

theorem execScanPassStart_sound {pt : Part} (s : State) (hs : s.Sound pt) : OutSound pt (execScanPassStart s) := by
  unfold execScanPassStart
  try dsimp only
  repeat' first
    | with_reducible assumption | with_reducible apply outSound_next | split | with_reducible apply monNext_sound
    | ((with_reducible refine sound_mk ?_ ?_ ?_ ?_ ?_ ?_ ?_); rotate_left; all_goals first | rfl | exact Or.inl rfl | exact Or.inr rfl | skip)

theorem monDrive_sound {pt : Part} (s : State) (l : List Nat) (hs : s.Sound pt) : (State.monDrive s l).Sound pt := by
  unfold State.monDrive
  repeat' first
    | with_reducible assumption | with_reducible apply alertN_sound
    | ((with_reducible refine sound_mk ?_ ?_ ?_ ?_ ?_ ?_ ?_); rotate_left; all_goals first | rfl | exact Or.inl rfl | exact Or.inr rfl | skip)

theorem monAlert_sound {pt : Part} (s : State) (n : Nat) (hs : s.Sound pt) : (State.monAlert s n).Sound pt := by
  unfold State.monAlert
  try dsimp only
  repeat' first
    | with_reducible assumption | split | with_reducible apply monDrive_sound

theorem monRelease_sound {pt : Part} (s : State) (hs : s.Sound pt) : (State.monRelease s).Sound pt := by
  unfold State.monRelease
  repeat' first
    | with_reducible assumption | with_reducible apply monDrive_sound

theorem limitTest_sound {pt : Part} (s : State) (n : Nat) (v : Int) (hs : s.Sound pt) : (State.limitTest s n v).Sound pt := by
  unfold State.limitTest
  try dsimp only
  repeat' first
    | with_reducible assumption | split | with_reducible apply alarm_sound | with_reducible apply count_sound | with_reducible apply monAlert_sound
    | with_reducible apply putFlag_sound | with_reducible apply setBit_sound | with_reducible apply tally_sound
    | ((with_reducible refine sound_mk ?_ ?_ ?_ ?_ ?_ ?_ ?_); rotate_left; all_goals first | rfl | exact Or.inl rfl | exact Or.inr rfl | skip)

theorem tempEvents_sound {pt : Part} (s : State) (n : Nat) (hs : s.Sound pt) : (State.tempEvents s n).Sound pt := by
  unfold State.tempEvents
  try dsimp only
  repeat' first
    | with_reducible assumption | split | with_reducible apply dramRetrain_sound | with_reducible apply put_sound
    | with_reducible apply tempTrigger_sound
    | ((with_reducible refine sound_mk ?_ ?_ ?_ ?_ ?_ ?_ ?_); rotate_left; all_goals first | rfl | exact Or.inl rfl | exact Or.inr rfl | skip)
    | intro _

theorem monResult_sound {pt : Part} (s : State) (n src code : Nat) (v : Int) (hs : s.Sound pt) : (State.monResult s n src code v).Sound pt := by
  unfold State.monResult
  try dsimp only
  repeat' first
    | with_reducible assumption | with_reducible apply put_sound | with_reducible apply putInt_sound | with_reducible apply limitTest_sound
    | with_reducible apply monAlert_sound | with_reducible apply tempEvents_sound

theorem monCoef_sound {pt : Part} (s : State) (codes : List Nat) (hs : s.Sound pt) : (State.monCoef s codes).Sound pt := by
  unfold State.monCoef
  try dsimp only
  repeat' first
    | with_reducible assumption | split | with_reducible apply fresh_sound | with_reducible apply put_sound

theorem monCalDone_sound {pt : Part} (s : State) (codes : List Nat) (hs : s.Sound pt) : (State.monCalDone s codes).Sound pt := by
  unfold State.monCalDone
  try dsimp only
  repeat' first
    | with_reducible assumption | with_reducible apply count_sound | with_reducible apply monCoef_sound | with_reducible apply put_sound
    | ((with_reducible refine sound_mk ?_ ?_ ?_ ?_ ?_ ?_ ?_); rotate_left; all_goals first | rfl | exact Or.inl rfl | exact Or.inr rfl | skip)

theorem execConversionDone_sound {pt : Part} (raw : BitVec 12) (s : State) (hs : s.Sound pt) : OutSound pt (execConversionDone raw s) := by
  unfold execConversionDone
  try dsimp only
  repeat' first
    | with_reducible assumption | with_reducible apply outSound_next | split | with_reducible apply fresh_sound
    | with_reducible apply monCalDone_sound | with_reducible apply monNext_sound | with_reducible apply monResult_sound
    | with_reducible apply monShow_sound | with_reducible apply putInt_sound | with_reducible apply put_sound
    | ((with_reducible refine sound_mk ?_ ?_ ?_ ?_ ?_ ?_ ?_); rotate_left; all_goals first | rfl | exact Or.inl rfl | exact Or.inr rfl | skip)

theorem slotRead_sound {pt : Part} (s : State) (k : Nat) (hs : s.Sound pt) : (State.slotRead s k).Sound pt := by
  unfold State.slotRead
  repeat' first
    | with_reducible assumption | with_reducible apply setWord_sound

theorem execSlotResultRead_sound {pt : Part} (slot : BitVec 5) (s : State) (hs : s.Sound pt) : OutSound pt (execSlotResultRead slot s) := by
  unfold execSlotResultRead
  repeat' first
    | with_reducible assumption | with_reducible apply outSound_next | with_reducible apply slotRead_sound

-- Machine/Boot.lean

theorem resetLogic_sound {pt : Part} (s : State) (hs : s.Sound pt) : s.resetLogic.Sound pt :=
  setWord_sound _ _ _ (setWord_sound _ _ _
    ⟨hs.part, ⟨rfl, hs.canonical.2.1, rfl, rfl, hs.canonical.2.2.2.2⟩, Nat.zero_le _, Nat.zero_le _, Nat.zero_le _, Nat.zero_le _⟩)

theorem cause_sound {pt : Part} (s : State) (f : Fld) (hs : s.Sound pt) : (State.cause s f).Sound pt := by
  unfold State.cause
  repeat' first
    | with_reducible assumption | with_reducible apply put_sound

theorem warmReset_sound {pt : Part} (s : State) (f : Fld) (hs : s.Sound pt) : (State.warmReset s f).Sound pt := by
  unfold State.warmReset
  try dsimp only
  repeat' first
    | with_reducible assumption | with_reducible apply cause_sound | with_reducible apply resetLogic_sound
    | ((with_reducible refine sound_mk ?_ ?_ ?_ ?_ ?_ ?_ ?_); rotate_left; all_goals first | rfl | exact Or.inl rfl | exact Or.inr rfl | skip)

theorem railsOff_sound {pt : Part} (s : State) (hs : s.Sound pt) : (State.railsOff s).Sound pt := by
  unfold State.railsOff
  try dsimp only
  repeat' first
    | with_reducible assumption | split | with_reducible apply put_sound
    | ((with_reducible refine sound_mk ?_ ?_ ?_ ?_ ?_ ?_ ?_); rotate_left; all_goals first | rfl | exact Or.inl rfl | exact Or.inr rfl | skip)

theorem scanMap_sound {pt : Part} (s : State) (hs : s.Sound pt) : (State.scanMap s).Sound pt := by
  unfold State.scanMap
  try dsimp only
  repeat' first
    | with_reducible assumption | split
    | ((with_reducible refine sound_mk ?_ ?_ ?_ ?_ ?_ ?_ ?_); rotate_left; all_goals first | rfl | exact Or.inl rfl | exact Or.inr rfl | skip)
    | intro _

theorem writeLast_sound {pt : Part} (s : State) (e : TalEvent) (fails : List (Option Nat)) (hs : s.Sound pt) : (State.writeLast s e fails).Sound pt := by
  unfold State.writeLast
  try dsimp only
  repeat' first
    | with_reducible assumption | split | with_reducible apply each_sound | with_reducible apply loftOp_sound
    | intro _

theorem tallyResume_sound {pt : Part} (s : State) (cold : Bool) (hs : s.Sound pt) : (State.tallyResume s cold).Sound pt := by
  unfold State.tallyResume
  try dsimp only
  repeat' first
    | with_reducible assumption | split | with_reducible apply put_sound
    | ((with_reducible refine sound_mk ?_ ?_ ?_ ?_ ?_ ?_ ?_); rotate_left; all_goals first | rfl | exact Or.inl rfl | exact Or.inr rfl | skip)

theorem scanPlace_sound {pt : Part} (s : State) (hs : s.Sound pt) : (State.scanPlace s).Sound pt := by
  unfold State.scanPlace
  try dsimp only
  repeat' first
    | with_reducible assumption | split | with_reducible apply scanMap_sound
    | ((with_reducible refine sound_mk ?_ ?_ ?_ ?_ ?_ ?_ ?_); rotate_left; all_goals first | rfl | exact Or.inl rfl | exact Or.inr rfl | skip)

theorem failRecord_sound {pt : Part} (s : State) (f : Fld) (report : MediaReport) (hs : s.Sound pt) : (State.failRecord s f report).Sound pt := by
  unfold State.failRecord
  try dsimp only
  repeat' first
    | with_reducible assumption | split | exact Nat.zero_le _ | with_reducible apply tallyResume_sound | with_reducible apply countBy_sound
    | with_reducible apply setQueue_sound | with_reducible apply scanPlace_sound | with_reducible apply writeLast_sound
    | ((with_reducible refine sound_mk ?_ ?_ ?_ ?_ ?_ ?_ ?_); rotate_left; all_goals first | rfl | exact Or.inl rfl | exact Or.inr rfl | skip)

theorem powerFail_sound {pt : Part} (s : State) (f : Fld) (report : MediaReport) (hs : s.Sound pt) : (State.powerFail s f report).Sound pt := by
  unfold State.powerFail
  try dsimp only
  repeat' first
    | with_reducible assumption | with_reducible apply cause_sound | with_reducible apply failRecord_sound | with_reducible apply railsOff_sound
    | with_reducible apply resetLogic_sound
    | ((with_reducible refine sound_mk ?_ ?_ ?_ ?_ ?_ ?_ ?_); rotate_left; all_goals first | rfl | exact Or.inl rfl | exact Or.inr rfl | skip)
    | ((with_reducible show (_ : Nat) ≤ _); exact Nat.zero_le _)

theorem execVinQualified_sound {pt : Part} (s : State) (hs : s.Sound pt) : OutSound pt (execVinQualified s) := by
  unfold execVinQualified
  try dsimp only
  repeat' first
    | with_reducible assumption | with_reducible apply outSound_next | split | with_reducible apply put_sound
    | ((with_reducible refine sound_mk ?_ ?_ ?_ ?_ ?_ ?_ ?_); rotate_left; all_goals first | rfl | exact Or.inl rfl | exact Or.inr rfl | skip)

theorem execRailGroupGood_sound {pt : Part} (s : State) (hs : s.Sound pt) : OutSound pt (execRailGroupGood s) := by
  unfold execRailGroupGood
  try dsimp only
  repeat' first
    | with_reducible assumption | with_reducible apply outSound_next | split | with_reducible apply each_sound | with_reducible apply put_sound
    | with_reducible apply setBit_sound | with_reducible apply each_sound
    | ((with_reducible refine sound_mk ?_ ?_ ?_ ?_ ?_ ?_ ?_); rotate_left; all_goals first | rfl | exact Or.inl rfl | exact Or.inr rfl | skip)
    | intro _

theorem execRailFault_sound {pt : Part} (rail : Nat) (s : State) (hs : s.Sound pt) : OutSound pt (execRailFault rail s) := by
  unfold execRailFault
  try dsimp only
  repeat' first
    | with_reducible assumption | with_reducible apply outSound_next | split | with_reducible apply alertN_sound | with_reducible apply put_sound
    | with_reducible apply setBit_sound
    | ((with_reducible refine sound_mk ?_ ?_ ?_ ?_ ?_ ?_ ?_); rotate_left; all_goals first | rfl | exact Or.inl rfl | exact Or.inr rfl | skip)

theorem execRailRetry_sound {pt : Part} (s : State) (hs : s.Sound pt) : OutSound pt (execRailRetry s) := by
  unfold execRailRetry
  try dsimp only
  repeat' first
    | with_reducible assumption | with_reducible apply outSound_next | split
    | ((with_reducible refine sound_mk ?_ ?_ ?_ ?_ ?_ ?_ ?_); rotate_left; all_goals first | rfl | exact Or.inl rfl | exact Or.inr rfl | skip)

theorem execRailPowerLoss_sound {pt : Part} (report : MediaReport) (s : State) (hs : s.Sound pt) : OutSound pt (execRailPowerLoss report s) := by
  unfold execRailPowerLoss
  repeat' first
    | with_reducible assumption | with_reducible apply outSound_next | split | with_reducible apply powerFail_sound

theorem supplyFail_sound {pt : Part} (s : State) (f : Fld) (report : MediaReport) (hs : s.Sound pt) : (State.supplyFail s f report).Sound pt := by
  unfold State.supplyFail
  try dsimp only
  repeat' first
    | with_reducible assumption | with_reducible apply powerFail_sound
    | ((with_reducible refine sound_mk ?_ ?_ ?_ ?_ ?_ ?_ ?_); rotate_left; all_goals first | rfl | exact Or.inl rfl | exact Or.inr rfl | skip)

theorem execUvAccepted_sound {pt : Part} (report : MediaReport) (s : State) (hs : s.Sound pt) : OutSound pt (execUvAccepted report s) := by
  unfold execUvAccepted
  repeat' first
    | with_reducible assumption | with_reducible apply outSound_next | with_reducible apply supplyFail_sound
    | with_reducible apply put_sound

theorem execOvAccepted_sound {pt : Part} (report : MediaReport) (s : State) (hs : s.Sound pt) : OutSound pt (execOvAccepted report s) := by
  unfold execOvAccepted
  repeat' first
    | with_reducible assumption | with_reducible apply outSound_next | with_reducible apply supplyFail_sound

theorem execPowerOnReset_sound {pt : Part} (vaonLost : Bool) (s : State) (hs : s.Sound pt) : OutSound pt (execPowerOnReset vaonLost s) := by
  unfold execPowerOnReset
  try dsimp only
  repeat' first
    | with_reducible assumption | with_reducible apply outSound_next | split | with_reducible apply cause_sound | with_reducible apply put_sound
    | with_reducible apply resetLogic_sound | with_reducible apply setWord_sound
    | ((with_reducible refine sound_mk ?_ ?_ ?_ ?_ ?_ ?_ ?_); rotate_left; all_goals first | rfl | exact Or.inl rfl | exact Or.inr rfl | skip)

theorem execThermalTrip_sound {pt : Part} (within : Bool) (report : MediaReport) (s : State) (hs : s.Sound pt) : OutSound pt (execThermalTrip within report s) := by
  unfold execThermalTrip
  try dsimp only
  repeat' first
    | with_reducible assumption | with_reducible apply outSound_next | split | with_reducible apply powerFail_sound
    | ((with_reducible refine sound_mk ?_ ?_ ?_ ?_ ?_ ?_ ?_); rotate_left; all_goals first | rfl | exact Or.inl rfl | exact Or.inr rfl | skip)

theorem execThermalRestart_sound {pt : Part} (s : State) (hs : s.Sound pt) : OutSound pt (execThermalRestart s) := by
  unfold execThermalRestart
  try dsimp only
  repeat' first
    | with_reducible assumption | with_reducible apply outSound_next | split
    | ((with_reducible refine sound_mk ?_ ?_ ?_ ?_ ?_ ?_ ?_); rotate_left; all_goals first | rfl | exact Or.inl rfl | exact Or.inr rfl | skip)

theorem execResetNAssert_sound {pt : Part} (held : Nat) (s : State) (hs : s.Sound pt) : OutSound pt (execResetNAssert s held) := by
  unfold execResetNAssert
  try dsimp only
  repeat' first
    | with_reducible assumption | with_reducible apply outSound_next | split | with_reducible apply fresh_sound
    | with_reducible apply warmReset_sound
    | ((with_reducible refine sound_mk ?_ ?_ ?_ ?_ ?_ ?_ ?_); rotate_left; all_goals first | rfl | exact Or.inl rfl | exact Or.inr rfl | skip)

theorem softWrite_sound {pt : Part} (s : State) (key : Nat) (hs : s.Sound pt) : (State.softWrite s key).Sound pt := by
  unfold State.softWrite
  repeat' first
    | with_reducible assumption | split | with_reducible apply put_sound | with_reducible apply warmReset_sound

theorem execSoftReset_sound {pt : Part} (key : Byte) (s : State) (hs : s.Sound pt) : OutSound pt (execSoftReset key s) := by
  unfold execSoftReset
  repeat' first
    | with_reducible assumption | with_reducible apply outSound_next | split | with_reducible apply softWrite_sound

theorem execResetRelease_sound {pt : Part} (sbLow : Bool) (s : State) (held : Nat) (hs : s.Sound pt) : OutSound pt (execResetRelease sbLow s held) := by
  unfold execResetRelease
  try dsimp only
  repeat' first
    | with_reducible assumption | with_reducible apply outSound_next | split | with_reducible apply fresh_sound
    | with_reducible apply tallyResume_sound | with_reducible apply put_sound | with_reducible apply tally_sound
    | with_reducible apply security_sound
    | ((with_reducible refine sound_mk ?_ ?_ ?_ ?_ ?_ ?_ ?_); rotate_left; all_goals first | rfl | exact Or.inl rfl | exact Or.inr rfl | skip)

theorem execWatchdog_sound {pt : Part} (s : State) (hs : s.Sound pt) : OutSound pt (execWatchdog s) := by
  unfold execWatchdog
  try dsimp only
  repeat' first
    | with_reducible assumption | with_reducible apply outSound_next | split | with_reducible apply cause_sound | with_reducible apply tally_sound
    | ((with_reducible refine sound_mk ?_ ?_ ?_ ?_ ?_ ?_ ?_); rotate_left; all_goals first | rfl | exact Or.inl rfl | exact Or.inr rfl | skip)

theorem runImage_sound {pt : Part} (s : State) (b : List Byte) (slot : Nat) (trial : Bool) (hs : s.Sound pt) : (State.runImage s b slot trial).Sound pt := by
  unfold State.runImage
  try dsimp only
  repeat' first
    | with_reducible assumption | with_reducible apply putFlag_sound | with_reducible apply put_sound
    | ((with_reducible refine sound_mk ?_ ?_ ?_ ?_ ?_ ?_ ?_); rotate_left; all_goals first | rfl | exact Or.inl rfl | exact Or.inr rfl | skip)

theorem runSlot_sound {pt : Part} (s : State) (b : List Byte) (slot : Nat) (trial : Bool) (hs : s.Sound pt) : (State.runSlot s b slot trial).Sound pt := by
  unfold State.runSlot
  repeat' first
    | with_reducible assumption | with_reducible apply setGran_sound | with_reducible apply runImage_sound

theorem execFirmwareRestartDone_sound {pt : Part} (s : State) (hs : s.Sound pt) : OutSound pt (execFirmwareRestartDone s) := by
  unfold execFirmwareRestartDone
  try dsimp only
  repeat' first
    | with_reducible assumption | with_reducible apply outSound_next | split | with_reducible apply runSlot_sound
    | ((with_reducible refine sound_mk ?_ ?_ ?_ ?_ ?_ ?_ ?_); rotate_left; all_goals first | rfl | exact Or.inl rfl | exact Or.inr rfl | skip)

theorem recoveryWait_sound {pt : Part} (s : State) (hs : s.Sound pt) : (State.recoveryWait s).Sound pt := by
  unfold State.recoveryWait
  try dsimp only
  repeat' first
    | with_reducible assumption | with_reducible apply alertN_sound | with_reducible apply put_sound
    | ((with_reducible refine sound_mk ?_ ?_ ?_ ?_ ?_ ?_ ?_); rotate_left; all_goals first | rfl | exact Or.inl rfl | exact Or.inr rfl | skip)

theorem execRefclkPresent_sound {pt : Part} (s : State) (ms : Nat) (badA : Bool) (hs : s.Sound pt) : OutSound pt (execRefclkPresent s ms badA) := by
  unfold execRefclkPresent
  try dsimp only
  repeat' first
    | with_reducible assumption | with_reducible apply outSound_next | split | with_reducible apply alertN_sound
    | with_reducible apply monPower_sound | with_reducible apply recoveryWait_sound | with_reducible apply put_sound
    | ((with_reducible refine sound_mk ?_ ?_ ?_ ?_ ?_ ?_ ?_); rotate_left; all_goals first | rfl | exact Or.inl rfl | exact Or.inr rfl | skip)

theorem execRefclkLate_sound {pt : Part} (s : State) (hs : s.Sound pt) : OutSound pt (execRefclkLate s) := by
  unfold execRefclkLate
  repeat' first
    | with_reducible assumption | with_reducible apply outSound_next | split | with_reducible apply alertN_sound | with_reducible apply put_sound

theorem execSlotVerifyDone_sound {pt : Part} (s : State) (corrected : Nat) (bad : Bool) (hs : s.Sound pt) : OutSound pt (execSlotVerifyDone s corrected bad) := by
  unfold execSlotVerifyDone
  try dsimp only
  repeat' first
    | with_reducible assumption | with_reducible apply outSound_next | split | with_reducible apply loftFixed_sound
    | with_reducible apply runSlot_sound | with_reducible apply put_sound | with_reducible apply tally_sound
    | ((with_reducible refine sound_mk ?_ ?_ ?_ ?_ ?_ ?_ ?_); rotate_left; all_goals first | rfl | exact Or.inl rfl | exact Or.inr rfl | skip)

theorem recoveryRun_sound {pt : Part} (s : State) (b : List Byte) (slot : Nat) (hs : s.Sound pt) : (State.recoveryRun s b slot).Sound pt := by
  unfold State.recoveryRun
  try dsimp only
  repeat' first
    | with_reducible assumption | with_reducible apply alertN_sound | with_reducible apply put_sound | with_reducible apply runImage_sound
    | ((with_reducible refine sound_mk ?_ ?_ ?_ ?_ ?_ ?_ ?_); rotate_left; all_goals first | rfl | exact Or.inl rfl | exact Or.inr rfl | skip)

theorem execRecoveryImageLoaded_sound {pt : Part} (image : List Byte) (s : State) (hs : s.Sound pt) : OutSound pt (execRecoveryImageLoaded image s) := by
  unfold execRecoveryImageLoaded
  try dsimp only
  repeat' first
    | with_reducible assumption | with_reducible apply outSound_next | split | with_reducible apply recoveryRun_sound
    | with_reducible apply recoveryWait_sound | with_reducible apply setGran_sound

theorem checkCopies_sound {pt : Part} (s : State) (badA badB : Bool) (badCopies : List Nat) (hs : s.Sound pt) : (State.checkCopies s badA badB badCopies).Sound pt := by
  unfold State.checkCopies
  try dsimp only
  repeat' first
    | with_reducible assumption | split
    | ((with_reducible refine sound_mk ?_ ?_ ?_ ?_ ?_ ?_ ?_); rotate_left; all_goals first | rfl | exact Or.inl rfl | exact Or.inr rfl | skip)

theorem execLoftChecksDone_sound {pt : Part} (badA badB : Bool) (s : State) (corrected : Nat) (badCopies : List Nat) (hs : s.Sound pt) : OutSound pt (execLoftChecksDone badA badB s corrected badCopies) := by
  unfold execLoftChecksDone
  try dsimp only
  repeat' first
    | with_reducible assumption | with_reducible apply outSound_next | split | with_reducible apply loftFixed_sound
    | with_reducible apply checkCopies_sound | with_reducible apply secShow_sound | with_reducible apply put_sound
    | with_reducible apply tally_sound | with_reducible apply security_sound | with_reducible apply alertN_sound
    | with_reducible apply allBiasSafe_sound
    | ((with_reducible refine sound_mk ?_ ?_ ?_ ?_ ?_ ?_ ?_); rotate_left; all_goals first | rfl | exact Or.inl rfl | exact Or.inr rfl | skip)

theorem execSbStatus_sound {pt : Part} (s : State) (hs : s.Sound pt) : OutSound pt (execSbStatus s) := by
  unfold execSbStatus
  repeat' first
    | with_reducible assumption | with_reducible apply outSound_next | with_reducible apply sbReturn_sound

theorem execSbLoad_sound {pt : Part} (offset : BitVec 24) (data : List Byte) (s : State) (hs : s.Sound pt) : OutSound pt (execSbLoad offset data s) := by
  unfold execSbLoad
  repeat' first
    | with_reducible assumption | with_reducible apply outSound_next | split | with_reducible apply setGran_sound

theorem execSbBoot_sound {pt : Part} (length : BitVec 32) (s : State) (hs : s.Sound pt) : OutSound pt (execSbBoot length s) := by
  unfold execSbBoot
  try dsimp only
  repeat' first
    | with_reducible assumption | with_reducible apply outSound_next | split | with_reducible apply recoveryRun_sound

theorem execSbReset_sound {pt : Part} (first second : Byte) (s : State) (hs : s.Sound pt) : OutSound pt (execSbReset first second s) := by
  unfold execSbReset
  repeat' first
    | with_reducible assumption | with_reducible apply outSound_next | split | with_reducible apply warmReset_sound

theorem execJtagBypass_sound {pt : Part} (tdi : List Bool) (s : State) (hs : s.Sound pt) : OutSound pt (execJtagBypass tdi s) := by
  unfold execJtagBypass
  try dsimp only
  repeat' first
    | with_reducible assumption | with_reducible apply outSound_next
    | ((with_reducible refine sound_mk ?_ ?_ ?_ ?_ ?_ ?_ ?_); rotate_left; all_goals first | rfl | exact Or.inl rfl | exact Or.inr rfl | skip)

theorem execJtagSamplePreload_sound {pt : Part} (pins tdi : List Bool) (s : State) (hs : s.Sound pt) : OutSound pt (execJtagSamplePreload pins tdi s) := by
  unfold execJtagSamplePreload
  try dsimp only
  repeat' first
    | with_reducible assumption | with_reducible apply outSound_next
    | ((with_reducible refine sound_mk ?_ ?_ ?_ ?_ ?_ ?_ ?_); rotate_left; all_goals first | rfl | exact Or.inl rfl | exact Or.inr rfl | skip)

theorem execJtagExtest_sound {pt : Part} (pins tdi : List Bool) (s : State) (hs : s.Sound pt) : OutSound pt (execJtagExtest pins tdi s) := by
  unfold execJtagExtest
  try dsimp only
  repeat' first
    | with_reducible assumption | with_reducible apply outSound_next | split
    | ((with_reducible refine sound_mk ?_ ?_ ?_ ?_ ?_ ?_ ?_); rotate_left; all_goals first | rfl | exact Or.inl rfl | exact Or.inr rfl | skip)

-- Machine/Cnv.lean

theorem cnvApply_sound {pt : Part} (s : State) (hs : s.Sound pt) : (State.cnvApply s).Sound pt := by
  unfold State.cnvApply
  try dsimp only
  repeat' first
    | with_reducible assumption | split | with_reducible apply each_sound | with_reducible apply putFlag_sound | with_reducible apply put_sound
    | with_reducible apply each_sound | with_reducible apply foldl_sound
    | ((with_reducible refine sound_mk ?_ ?_ ?_ ?_ ?_ ?_ ?_); rotate_left; all_goals first | rfl | exact Or.inl rfl | exact Or.inr rfl | skip)
    | intro _

theorem ncoHome_sound {pt : Part} (s : State) (hs : s.Sound pt) : (State.ncoHome s).Sound pt := by
  unfold State.ncoHome
  try dsimp only
  repeat' first
    | with_reducible assumption | with_reducible apply each_sound | with_reducible apply put_sound | with_reducible apply each_sound | intro _

theorem toneSet_sound {pt : Part} (s : State) (n : Nat) (w0 w1 : Nat) (hs : s.Sound pt) : (State.toneSet s n w0 w1).Sound pt := by
  unfold State.toneSet
  repeat' first
    | with_reducible assumption | with_reducible apply put_sound

theorem cnvStart_sound {pt : Part} (s : State) (hs : s.Sound pt) : (State.cnvStart s).Sound pt := by
  unfold State.cnvStart
  try dsimp only
  repeat' first
    | with_reducible assumption | with_reducible apply each_sound | with_reducible apply ncoHome_sound | with_reducible apply put_sound
    | with_reducible apply renewQuiet_sound | with_reducible apply each_sound
    | ((with_reducible refine sound_mk ?_ ?_ ?_ ?_ ?_ ?_ ?_); rotate_left; all_goals first | rfl | exact Or.inl rfl | exact Or.inr rfl | skip)
    | intro _

theorem cnvIdle_sound {pt : Part} (s : State) (hs : s.Sound pt) : (State.cnvIdle s).Sound pt := by
  unfold State.cnvIdle
  try dsimp only
  repeat' first
    | with_reducible assumption | with_reducible apply ncoHome_sound | with_reducible apply renewQuiet_sound
    | ((with_reducible refine sound_mk ?_ ?_ ?_ ?_ ?_ ?_ ?_); rotate_left; all_goals first | rfl | exact Or.inl rfl | exact Or.inr rfl | skip)

theorem cnvPend_sound {pt : Part} (s : State) (a : Act) (op : Nat) (x y : Nat) (hs : s.Sound pt) : (State.cnvPend s a op x y).Sound pt := by
  unfold State.cnvPend
  try dsimp only
  repeat' first
    | with_reducible assumption | with_reducible apply each_sound | with_reducible apply each_sound
    | ((with_reducible refine sound_mk ?_ ?_ ?_ ?_ ?_ ?_ ?_); rotate_left; all_goals first | rfl | exact Or.inl rfl | exact Or.inr rfl | skip)
    | intro _

theorem execSetNcoTx_sound {pt : Part} (a : Act) (s : State) (hs : s.Sound pt) : OutSound pt (execSetNcoTx a s) := by
  unfold execSetNcoTx
  try dsimp only
  repeat' first
    | with_reducible assumption | with_reducible apply outSound_next | with_reducible apply cnvPend_sound | with_reducible apply onFire_sound
    | intro _

theorem execSetNcoRx_sound {pt : Part} (a : Act) (s : State) (hs : s.Sound pt) : OutSound pt (execSetNcoRx a s) := by
  unfold execSetNcoRx
  try dsimp only
  repeat' first
    | with_reducible assumption | with_reducible apply outSound_next | with_reducible apply cnvPend_sound | with_reducible apply onFire_sound
    | intro _

theorem execDacQuiet_sound {pt : Part} (a : Act) (s : State) (hs : s.Sound pt) : OutSound pt (execDacQuiet a s) := by
  unfold execDacQuiet
  try dsimp only
  repeat' first
    | with_reducible assumption | with_reducible apply outSound_next | with_reducible apply cnvPend_sound | with_reducible apply onFire_sound
    | intro _

theorem execDacActive_sound {pt : Part} (a : Act) (s : State) (hs : s.Sound pt) : OutSound pt (execDacActive a s) := by
  unfold execDacActive
  try dsimp only
  repeat' first
    | with_reducible assumption | with_reducible apply outSound_next | with_reducible apply cnvPend_sound | with_reducible apply onFire_sound
    | intro _

theorem execTone_sound {pt : Part} (a : Act) (s : State) (hs : s.Sound pt) : OutSound pt (execTone a s) := by
  unfold execTone
  try dsimp only
  repeat' first
    | with_reducible assumption | with_reducible apply outSound_next | with_reducible apply cnvPend_sound | with_reducible apply onFire_sound
    | intro _

theorem cnvTake_sound {pt : Part} (s : State) (p : CnvPend) (hs : s.Sound pt) : (State.cnvTake s p).Sound pt := by
  unfold State.cnvTake
  try dsimp only
  repeat' first
    | with_reducible assumption | split | with_reducible apply requestRetune_sound | with_reducible apply put_sound
    | with_reducible apply invalidateAll_sound | with_reducible apply renewComp_sound | with_reducible apply renewQuiet_sound
    | with_reducible apply toneSet_sound
    | ((with_reducible refine sound_mk ?_ ?_ ?_ ?_ ?_ ?_ ?_); rotate_left; all_goals first | rfl | exact Or.inl rfl | exact Or.inr rfl | skip)

theorem execConverterBoundary_sound {pt : Part} (bound : Nat) (s : State) (hs : s.Sound pt) : OutSound pt (execConverterBoundary bound s) := by
  unfold execConverterBoundary
  try dsimp only
  repeat' first
    | with_reducible assumption | with_reducible apply outSound_next | with_reducible apply cnvTake_sound | with_reducible apply each_sound
    | with_reducible apply each_sound
    | ((with_reducible refine sound_mk ?_ ?_ ?_ ?_ ?_ ?_ ?_); rotate_left; all_goals first | rfl | exact Or.inl rfl | exact Or.inr rfl | skip)
    | intro _

theorem execBiasStage_sound {pt : Part} (a : Act) (s : State) (hs : s.Sound pt) : OutSound pt (execBiasStage a s) := by
  unfold execBiasStage
  try dsimp only
  repeat' first
    | with_reducible assumption | with_reducible apply outSound_next | split | with_reducible apply each_sound | with_reducible apply onFire_sound
    | with_reducible apply put_sound | with_reducible apply each_sound | intro _

theorem strobe_sound {pt : Part} (s : State) (at_ o : Nat) (hs : s.Sound pt) : (State.strobe s at_ o).Sound pt := by
  unfold State.strobe
  try dsimp only
  repeat' first
    | with_reducible assumption | split | with_reducible apply count_sound | with_reducible apply put_sound
    | ((with_reducible refine sound_mk ?_ ?_ ?_ ?_ ?_ ?_ ?_); rotate_left; all_goals first | rfl | exact Or.inl rfl | exact Or.inr rfl | skip)

theorem execBiasStrobe_sound {pt : Part} (a : Act) (s : State) (hs : s.Sound pt) : OutSound pt (execBiasStrobe a s) := by
  unfold execBiasStrobe
  try dsimp only
  repeat' first
    | with_reducible assumption | with_reducible apply outSound_next | with_reducible apply each_sound | with_reducible apply onFire_sound
    | with_reducible apply strobe_sound | with_reducible apply each_sound | intro _

theorem biasTake_sound {pt : Part} (s : State) (b : BiasLatch) (hs : s.Sound pt) : (State.biasTake s b).Sound pt := by
  unfold State.biasTake
  try dsimp only
  repeat' first
    | with_reducible assumption | split | with_reducible apply put_sound
    | ((with_reducible refine sound_mk ?_ ?_ ?_ ?_ ?_ ?_ ?_); rotate_left; all_goals first | rfl | exact Or.inl rfl | exact Or.inr rfl | skip)
    | intro _

theorem execBiasBoundary_sound {pt : Part} (bound : Nat) (s : State) (hs : s.Sound pt) : OutSound pt (execBiasBoundary bound s) := by
  unfold execBiasBoundary
  try dsimp only
  repeat' first
    | with_reducible assumption | with_reducible apply outSound_next | with_reducible apply biasTake_sound | with_reducible apply each_sound
    | with_reducible apply each_sound
    | ((with_reducible refine sound_mk ?_ ?_ ?_ ?_ ?_ ?_ ?_); rotate_left; all_goals first | rfl | exact Or.inl rfl | exact Or.inr rfl | skip)
    | intro _

theorem execBiasRangeSwitchDone_sound {pt : Part} (out : Nat) (s : State) (hs : s.Sound pt) : OutSound pt (execBiasRangeSwitchDone out s) := by
  unfold execBiasRangeSwitchDone
  repeat' first
    | with_reducible assumption | with_reducible apply outSound_next | split | with_reducible apply put_sound
    | ((with_reducible refine sound_mk ?_ ?_ ?_ ?_ ?_ ?_ ?_); rotate_left; all_goals first | rfl | exact Or.inl rfl | exact Or.inr rfl | skip)

-- Machine/Command.lean

theorem loft_withLast_bytes (l : Loft) (n : Nat) : (l.withLast n).bytes = l.bytes := by unfold Loft.withLast; split <;> rfl

theorem loft_tornLast_bytes (l : Loft) : l.tornLast.bytes = l.bytes := by unfold Loft.tornLast; split <;> rfl

theorem setLast_sound {pt : Part} (s : State) (n : Nat) (hs : s.Sound pt) : (State.setLast s n).Sound pt := by
  unfold State.setLast
  exact putFlag_sound _ _ _ (put_sound _ _ _ (sound_mk hs rfl rfl (loft_withLast_bytes _ _) rfl rfl (.inl rfl)))

theorem runRefused_sound {pt : Part} (s : State) (cmd reason : Nat) (hs : s.Sound pt) : (State.runRefused s cmd reason).Sound pt := by
  unfold State.runRefused
  repeat' first
    | with_reducible assumption | split | with_reducible apply put_sound

theorem loftFailed_sound {pt : Part} (s : State) (base words : Nat) (hs : s.Sound pt) : (State.loftFailed s base words).Sound pt := by
  unfold State.loftFailed
  repeat' first
    | with_reducible assumption | with_reducible apply fresh_sound | with_reducible apply count_sound | with_reducible apply put_sound

theorem secFail_sound {pt : Part} (s : State) (a : Asker) (cmd base words : Nat) (hs : s.Sound pt) : (State.secFail s a cmd base words).Sound pt := by
  unfold State.secFail
  repeat' first
    | with_reducible assumption | with_reducible apply loftFailed_sound | with_reducible apply secShow_sound
    | with_reducible apply security_sound | with_reducible apply critNack_sound

theorem authenticate_sound {pt : Part} (s : State) (a : Asker) (body : List Byte) (cmd plen ctr : Nat) (lastFails : Bool) (act : State → State)
    (hs : s.Sound pt) (hact : ∀ x, x.Sound pt → (act x).Sound pt) : (State.authenticate s a body cmd plen ctr lastFails act).Sound pt := by
  unfold State.authenticate
  dsimp only
  have ht : ((({ s with sec := { s.sec with last := some a } } : State).put R.SEC_LASTCMD.CMD cmd).put R.SEC_LASTCMD.REASON 0).Sound pt :=
    put_sound _ _ _ (put_sound _ _ _ (sound_mk hs rfl rfl rfl rfl rfl (.inl rfl)))
  generalize (({ s with sec := { s.sec with last := some a } } : State).put R.SEC_LASTCMD.CMD cmd).put R.SEC_LASTCMD.REASON 0 = t at ht
  split
  · exact critNackAt_sound _ _ _ _ (runRefused_sound _ _ _ (security_sound _ _ _ _ (count_sound _ _ _ _ ht)))
  · split
    · exact critNackAt_sound _ _ _ _ (runRefused_sound _ _ _ (security_sound _ _ _ _ (count_sound _ _ _ _ ht)))
    · split
      · exact secFail_sound _ _ _ _ _ (runRefused_sound _ _ _ (sound_mk ht rfl rfl (loft_tornLast_bytes _) rfl rfl (.inl rfl)))
      · have hu : ((t.setLast ctr).count R.SEC_CNT_ACCEPT.ACCEPT R.SEC_CNTOVF.OVF 0).Sound pt := count_sound _ _ _ _ (setLast_sound _ _ ht)
        generalize (t.setLast ctr).count R.SEC_CNT_ACCEPT.ACCEPT R.SEC_CNTOVF.OVF 0 = u at hu
        apply hact
        split
        · exact security_sound _ _ _ _ hu
        · exact hu

theorem critical_sound {pt : Part} (s : State) (m : Crit) (cmd : Nat) (disc : List Byte) (plen : Nat) (bad : List Byte → Option Nat)
    (act : Asker → List Byte → State → State) (hs : s.Sound pt) (hact : ∀ a p t, t.Sound pt → (act a p t).Sound pt) :
    (State.critical s m cmd disc plen bad act).Sound pt := by
  unfold State.critical
  extract_lets w
  have hr : RxSound pt (s.rxVia 1 6 w false (fun p s => s.forwardMsg p 1 6 w)) :=
    rxVia_sound _ _ _ _ _ _ hs (fun _ _ h => forwardMsg_sound _ _ _ _ _ h)
  clear_value w
  split <;> rename_i t ht <;> rw [ht] at hr
  · exact hr
  · have h : t.Sound pt := hr
    split
    · exact nackAt_sound _ _ _ _ (runRefused_sound _ _ _ h)
    · extract_lets v
      have hv : v.Sound pt := by
        refine authenticate_sound _ _ _ _ _ _ _ _ ?_ (fun x hx => hact _ _ x hx)
        split
        · exact keepaliveSeen_sound _ h
        · exact h
      clear_value v
      split
      · exact learnPos_sound _ _ hv
      · exact hv

theorem refuseRun_sound {pt : Part} (s : State) (a : Asker) (reason : Nat) (hs : s.Sound pt) : (State.refuseRun s a reason).Sound pt := by
  unfold State.refuseRun
  repeat' first
    | with_reducible assumption | split | with_reducible apply critNackAt_sound | with_reducible apply put_sound

end Sys2Proof.Machine
end

