-- ==== Sys2Proof/Laws/SoundSignal.lean ====
section
/-! SUPPORT. Sound states: the receive and transmit chains, linearisation, the tiles and the content messages keep `State.Sound`. -/

set_option linter.unusedTactic false
set_option linter.unreachableTactic false
set_option linter.unusedVariables false

namespace Sys2Proof.Machine

-- Machine/Receive.lean

theorem attnHome_sound {pt : Part} (s : State) (hs : s.Sound pt) : (State.attnHome s).Sound pt := by
  unfold State.attnHome
  try dsimp only
  repeat' first
    | with_reducible assumption | with_reducible apply each_sound | with_reducible apply put_sound | with_reducible apply each_sound | intro _

theorem rxApply_sound {pt : Part} (s : State) (hs : s.Sound pt) : (State.rxApply s).Sound pt := by
  unfold State.rxApply
  try dsimp only
  repeat' first
    | with_reducible assumption | with_reducible apply attnHome_sound | with_reducible apply each_sound | with_reducible apply put_sound
    | with_reducible apply each_sound | with_reducible apply foldl_sound | intro _

theorem rxStart_sound {pt : Part} (s : State) (hs : s.Sound pt) : (State.rxStart s).Sound pt := by
  unfold State.rxStart
  try dsimp only
  repeat' first
    | with_reducible assumption | with_reducible apply each_sound | with_reducible apply invalidateAll_sound | with_reducible apply invalidate_sound
    | with_reducible apply rxApply_sound | with_reducible apply each_sound | with_reducible apply foldl_sound
    | ((with_reducible refine sound_mk ?_ ?_ ?_ ?_ ?_ ?_ ?_); rotate_left; all_goals first | rfl | exact Or.inl rfl | exact Or.inr rfl | skip)
    | intro _

theorem rxIdle_sound {pt : Part} (s : State) (hs : s.Sound pt) : (State.rxIdle s).Sound pt := by
  unfold State.rxIdle
  try dsimp only
  repeat' first
    | with_reducible assumption | with_reducible apply attnHome_sound
    | ((with_reducible refine sound_mk ?_ ?_ ?_ ?_ ?_ ?_ ?_); rotate_left; all_goals first | rfl | exact Or.inl rfl | exact Or.inr rfl | skip)

theorem rxWait_sound {pt : Part} (s : State) (p : RxPend) (hs : s.Sound pt) : (State.rxWait s p).Sound pt := by
  unfold State.rxWait
  try dsimp only
  repeat' first
    | with_reducible assumption
    | ((with_reducible refine sound_mk ?_ ?_ ?_ ?_ ?_ ?_ ?_); rotate_left; all_goals first | rfl | exact Or.inl rfl | exact Or.inr rfl | skip)

theorem execSetAttn_sound {pt : Part} (a : Act) (s : State) (hs : s.Sound pt) : OutSound pt (execSetAttn a s) := by
  unfold execSetAttn
  try dsimp only
  repeat' first
    | with_reducible assumption | with_reducible apply outSound_next | with_reducible apply each_sound | with_reducible apply onFire_sound
    | with_reducible apply rxWait_sound | with_reducible apply each_sound | intro _

theorem execSetFilter_sound {pt : Part} (a : Act) (s : State) (hs : s.Sound pt) : OutSound pt (execSetFilter a s) := by
  unfold execSetFilter
  try dsimp only
  repeat' first
    | with_reducible assumption | with_reducible apply outSound_next | with_reducible apply each_sound | with_reducible apply onFire_sound
    | with_reducible apply rxWait_sound | with_reducible apply each_sound | intro _

theorem agcPath_sound {pt : Part} (s : State) (n at_ : Nat) (all : List Int) (hs : s.Sound pt) : (State.agcPath s n at_ all).Sound pt := by
  unfold State.agcPath
  try dsimp only
  repeat' first
    | with_reducible assumption | split | with_reducible apply countBy_sound | with_reducible apply rxWait_sound
    | with_reducible apply foldl_sound | with_reducible apply put_sound | with_reducible apply fresh_sound
    | with_reducible apply count_sound | with_reducible apply foldl_sound
    | ((with_reducible refine sound_mk ?_ ?_ ?_ ?_ ?_ ?_ ?_); rotate_left; all_goals first | rfl | exact Or.inl rfl | exact Or.inr rfl | skip)
    | intro _

theorem execAgcStep_sound {pt : Part} (a : Act) (codes : List (List Int)) (s : State) (hs : s.Sound pt) : OutSound pt (execAgcStep a codes s) := by
  unfold execAgcStep
  try dsimp only
  repeat' first
    | with_reducible assumption | with_reducible apply outSound_next | with_reducible apply agcPath_sound | with_reducible apply each_sound
    | with_reducible apply onFire_sound | with_reducible apply each_sound | intro _

theorem rxTake_sound {pt : Part} (s : State) (p : RxPend) (hs : s.Sound pt) : (State.rxTake s p).Sound pt := by
  unfold State.rxTake
  try dsimp only
  repeat' first
    | with_reducible assumption | split | with_reducible apply invalidateAll_sound | with_reducible apply invalidate_sound
    | with_reducible apply put_sound
    | ((with_reducible refine sound_mk ?_ ?_ ?_ ?_ ?_ ?_ ?_); rotate_left; all_goals first | rfl | exact Or.inl rfl | exact Or.inr rfl | skip)

theorem execRxSettingBoundary_sound {pt : Part} (bound : Nat) (s : State) (hs : s.Sound pt) : OutSound pt (execRxSettingBoundary bound s) := by
  unfold execRxSettingBoundary
  try dsimp only
  repeat' first
    | with_reducible assumption | with_reducible apply outSound_next | with_reducible apply each_sound | with_reducible apply rxTake_sound
    | with_reducible apply each_sound
    | ((with_reducible refine sound_mk ?_ ?_ ?_ ?_ ?_ ?_ ?_); rotate_left; all_goals first | rfl | exact Or.inl rfl | exact Or.inr rfl | skip)
    | intro _

theorem setBeam_sound {pt : Part} (s : State) (id : Nat) (w : List Byte) (hs : s.Sound pt) : (State.setBeam s id w).Sound pt := by
  unfold State.setBeam
  try dsimp only
  repeat' first
    | with_reducible assumption | with_reducible apply setGran_sound
    | ((with_reducible refine sound_mk ?_ ?_ ?_ ?_ ?_ ?_ ?_); rotate_left; all_goals first | rfl | exact Or.inl rfl | exact Or.inr rfl | skip)

theorem sendSum_sound {pt : Part} (s : State) (x : Sect) (adc : List (List Int)) (hs : s.Sound pt) : (State.sendSum s x adc).Sound pt := by
  unfold State.sendSum
  try dsimp only
  repeat' first
    | with_reducible assumption | split | with_reducible apply count_sound | with_reducible apply transmit_sound
    | ((with_reducible refine sound_mk ?_ ?_ ?_ ?_ ?_ ?_ ?_); rotate_left; all_goals first | rfl | exact Or.inl rfl | exact Or.inr rfl | skip)
    | intro _

theorem execPartialSumClose_sound {pt : Part} (a : Act) (s : State) (hs : s.Sound pt) : OutSound pt (execPartialSumClose a s) := by
  unfold execPartialSumClose
  try dsimp only
  repeat' first
    | with_reducible assumption | with_reducible apply outSound_next | split | with_reducible apply count_sound | with_reducible apply each_sound
    | with_reducible apply onFire_sound | with_reducible apply each_sound
    | ((with_reducible refine sound_mk ?_ ?_ ?_ ?_ ?_ ?_ ?_); rotate_left; all_goals first | rfl | exact Or.inl rfl | exact Or.inr rfl | skip)
    | intro _

theorem execExtract_sound {pt : Part} (a : Act) (adc : List Int) (s : State) (hs : s.Sound pt) : OutSound pt (execExtract a adc s) := by
  unfold execExtract
  try dsimp only
  repeat' first
    | with_reducible assumption | with_reducible apply outSound_next | with_reducible apply onFire_sound
    | ((with_reducible refine sound_mk ?_ ?_ ?_ ?_ ?_ ?_ ?_); rotate_left; all_goals first | rfl | exact Or.inl rfl | exact Or.inr rfl | skip)
    | intro _

theorem extractPut_sound {pt : Part} (s : State) (e : Extraction) (hs : s.Sound pt) : (State.extractPut s e).Sound pt := by
  unfold State.extractPut
  repeat' first
    | with_reducible assumption | with_reducible apply setGran_sound
    | intro _

theorem extractsLand_sound {pt : Part} (s : State) (hs : s.Sound pt) : (State.extractsLand s).Sound pt := by
  unfold State.extractsLand
  try dsimp only
  repeat' first
    | with_reducible assumption | split | with_reducible apply each_sound | with_reducible apply extractPut_sound
    | ((with_reducible refine sound_mk ?_ ?_ ?_ ?_ ?_ ?_ ?_); rotate_left; all_goals first | rfl | exact Or.inl rfl | exact Or.inr rfl | skip)
    | intro _

theorem sendTime_sound {pt : Part} (s : State) (k num : Nat) (hs : s.Sound pt) : (State.sendTime s k num).Sound pt := by
  unfold State.sendTime
  try dsimp only
  repeat' first
    | with_reducible assumption | split | with_reducible apply transmit_sound
    | ((with_reducible refine sound_mk ?_ ?_ ?_ ?_ ?_ ?_ ?_); rotate_left; all_goals first | rfl | exact Or.inl rfl | exact Or.inr rfl | skip)
    | intro _

theorem setSounds_sound {pt : Part} (s : State) (f : Sounding → Option Sounding) (hs : s.Sound pt) : (State.setSounds s f).Sound pt := by
  unfold State.setSounds
  try dsimp only
  repeat' first
    | with_reducible assumption
    | ((with_reducible refine sound_mk ?_ ?_ ?_ ?_ ?_ ?_ ?_); rotate_left; all_goals first | rfl | exact Or.inl rfl | exact Or.inr rfl | skip)

theorem placeBeams_sound {pt : Part} (s : State) (x : Sounding) (hs : s.Sound pt) : (State.placeBeams s x).Sound pt := by
  unfold State.placeBeams
  try dsimp only
  repeat' first
    | with_reducible assumption | split | with_reducible apply count_sound | with_reducible apply each_sound | with_reducible apply put_sound
    | with_reducible apply setBeam_sound | with_reducible apply setSounds_sound | with_reducible apply each_sound
    | ((with_reducible refine sound_mk ?_ ?_ ?_ ?_ ?_ ?_ ?_); rotate_left; all_goals first | rfl | exact Or.inl rfl | exact Or.inr rfl | skip)
    | intro _

theorem sendSound_sound {pt : Part} (s : State) (car symT : Nat) (hs : s.Sound pt) : (State.sendSound s car symT).Sound pt := by
  unfold State.sendSound
  try dsimp only
  repeat' first
    | with_reducible assumption | split | with_reducible apply put_sound | with_reducible apply setSounds_sound | with_reducible apply transmit_sound
    | ((with_reducible refine sound_mk ?_ ?_ ?_ ?_ ?_ ?_ ?_); rotate_left; all_goals first | rfl | exact Or.inl rfl | exact Or.inr rfl | skip)
    | intro _

theorem prepared_sound {pt : Part} (s : State) (a : Nat) (hs : s.Sound pt) : (State.prepared s a).Sound pt := by
  unfold State.prepared
  try dsimp only
  repeat' first
    | with_reducible assumption | split
    | ((with_reducible refine sound_mk ?_ ?_ ?_ ?_ ?_ ?_ ?_); rotate_left; all_goals first | rfl | exact Or.inl rfl | exact Or.inr rfl | skip)

theorem beginPrep_sound {pt : Part} (s : State) (car : Nat) (l : List Nat) (hs : s.Sound pt) : (State.beginPrep s car l).Sound pt := by
  unfold State.beginPrep
  try dsimp only
  repeat' first
    | with_reducible assumption | with_reducible apply each_sound | with_reducible apply prepared_sound | with_reducible apply setSym_sound
    | with_reducible apply each_sound
    | ((with_reducible refine sound_mk ?_ ?_ ?_ ?_ ?_ ?_ ?_); rotate_left; all_goals first | rfl | exact Or.inl rfl | exact Or.inr rfl | skip)
    | intro _

theorem prepDone_sound {pt : Part} (s : State) (car : Nat) (l : List Nat) (hs : s.Sound pt) : (State.prepDone s car l).Sound pt := by
  unfold State.prepDone
  try dsimp only
  repeat' first
    | with_reducible assumption | with_reducible apply each_sound | with_reducible apply setSym_sound | with_reducible apply each_sound
    | ((with_reducible refine sound_mk ?_ ?_ ?_ ?_ ?_ ?_ ?_); rotate_left; all_goals first | rfl | exact Or.inl rfl | exact Or.inr rfl | skip)
    | intro _

theorem sendReport_sound {pt : Part} (s : State) (car slotT : Nat) (hs : s.Sound pt) : (State.sendReport s car slotT).Sound pt := by
  unfold State.sendReport
  try dsimp only
  repeat' first
    | with_reducible assumption | with_reducible apply transmit_sound
    | ((with_reducible refine sound_mk ?_ ?_ ?_ ?_ ?_ ?_ ?_); rotate_left; all_goals first | rfl | exact Or.inl rfl | exact Or.inr rfl | skip)
    | intro _

theorem execUCPlaneTransmission_sound {pt : Part} (serve : BitVec 2) (job : UlJob) (s : State) (hs : s.Sound pt) : OutSound pt (execUCPlaneTransmission serve job s) := by
  unfold execUCPlaneTransmission
  try dsimp only
  repeat' first
    | with_reducible assumption | with_reducible apply outSound_next | split | with_reducible apply onFire_sound
    | with_reducible apply sendReport_sound | with_reducible apply sendSound_sound | with_reducible apply sendSum_sound
    | with_reducible apply sendTime_sound
    | ((with_reducible refine sound_mk ?_ ?_ ?_ ?_ ?_ ?_ ?_); rotate_left; all_goals first | rfl | exact Or.inl rfl | exact Or.inr rfl | skip)
    | intro _

-- Machine/Dpd.lean

theorem setBank_sound {pt : Part} (s : State) (p o : Nat) (b : BankSet) (hs : s.Sound pt) : (State.setBank s p o b).Sound pt := by
  unfold State.setBank
  try dsimp only
  repeat' first
    | with_reducible assumption
    | ((with_reducible refine sound_mk ?_ ?_ ?_ ?_ ?_ ?_ ?_); rotate_left; all_goals first | rfl | exact Or.inl rfl | exact Or.inr rfl | skip)

theorem showBank_sound {pt : Part} (s : State) (p o : Nat) (hs : s.Sound pt) : (State.showBank s p o).Sound pt := by
  unfold State.showBank
  repeat' first
    | with_reducible assumption | with_reducible apply put_sound

theorem dpdApply_sound {pt : Part} (s : State) (hs : s.Sound pt) : (State.dpdApply s).Sound pt := by
  unfold State.dpdApply
  try dsimp only
  repeat' first
    | with_reducible assumption | split | with_reducible apply each_sound | with_reducible apply putFlag_sound | with_reducible apply put_sound
    | with_reducible apply setBank_sound | with_reducible apply showBank_sound | with_reducible apply each_sound
    | ((with_reducible refine sound_mk ?_ ?_ ?_ ?_ ?_ ?_ ?_); rotate_left; all_goals first | rfl | exact Or.inl rfl | exact Or.inr rfl | skip)
    | intro _

theorem dpdStart_sound {pt : Part} (s : State) (hs : s.Sound pt) : (State.dpdStart s).Sound pt := by
  unfold State.dpdStart
  try dsimp only
  repeat' first
    | with_reducible assumption | with_reducible apply each_sound | with_reducible apply showBank_sound | with_reducible apply each_sound
    | ((with_reducible refine sound_mk ?_ ?_ ?_ ?_ ?_ ?_ ?_); rotate_left; all_goals first | rfl | exact Or.inl rfl | exact Or.inr rfl | skip)
    | intro _

theorem dpdSettle_sound {pt : Part} (s : State) (a : Nat) (hs : s.Sound pt) : (State.dpdSettle s a).Sound pt := by
  unfold State.dpdSettle
  try dsimp only
  repeat' first
    | with_reducible assumption
    | ((with_reducible refine sound_mk ?_ ?_ ?_ ?_ ?_ ?_ ?_); rotate_left; all_goals first | rfl | exact Or.inl rfl | exact Or.inr rfl | skip)
    | intro _

theorem execDpdSelect_sound {pt : Part} (a : Act) (s : State) (hs : s.Sound pt) : OutSound pt (execDpdSelect a s) := by
  unfold execDpdSelect
  try dsimp only
  repeat' first
    | with_reducible assumption | with_reducible apply outSound_next | with_reducible apply onFire_sound
    | ((with_reducible refine sound_mk ?_ ?_ ?_ ?_ ?_ ?_ ?_); rotate_left; all_goals first | rfl | exact Or.inl rfl | exact Or.inr rfl | skip)
    | intro _

theorem execCommit_sound {pt : Part} (a : Act) (s : State) (hs : s.Sound pt) : OutSound pt (execCommit a s) := by
  unfold execCommit
  try dsimp only
  repeat' first
    | with_reducible assumption | with_reducible apply outSound_next | split | with_reducible apply count_sound | with_reducible apply each_sound
    | with_reducible apply onFire_sound | with_reducible apply put_sound | with_reducible apply setBank_sound | with_reducible apply showBank_sound
    | with_reducible apply each_sound
    | ((with_reducible refine sound_mk ?_ ?_ ?_ ?_ ?_ ?_ ?_); rotate_left; all_goals first | rfl | exact Or.inl rfl | exact Or.inr rfl | skip)
    | intro _

theorem execCapture_sound {pt : Part} (a : Act) (s : State) (hs : s.Sound pt) : OutSound pt (execCapture a s) := by
  unfold execCapture
  try dsimp only
  repeat' first
    | with_reducible assumption | with_reducible apply outSound_next | split | with_reducible apply onFire_sound | with_reducible apply put_sound
    | ((with_reducible refine sound_mk ?_ ?_ ?_ ?_ ?_ ?_ ?_); rotate_left; all_goals first | rfl | exact Or.inl rfl | exact Or.inr rfl | skip)
    | intro _

theorem execCaptureEnd_sound {pt : Part} (gleaner : Nat) (codes : List Int) (lead : Nat) (s : State) (hs : s.Sound pt) : OutSound pt (execCaptureEnd gleaner codes lead s) := by
  unfold execCaptureEnd
  try dsimp only
  repeat' first
    | with_reducible assumption | with_reducible apply outSound_next | split | with_reducible apply foldl_sound
    | with_reducible apply setGran_sound | with_reducible apply put_sound | with_reducible apply countBy_sound
    | with_reducible apply foldl_sound
    | ((with_reducible refine sound_mk ?_ ?_ ?_ ?_ ?_ ?_ ?_); rotate_left; all_goals first | rfl | exact Or.inl rfl | exact Or.inr rfl | skip)
    | intro _

theorem execBankReadI_sound {pt : Part} (s : State) (hs : s.Sound pt) : OutSound pt (execBankReadI s) := by
  unfold execBankReadI
  repeat' first
    | with_reducible assumption | with_reducible apply outSound_next | with_reducible apply putInt_sound

theorem execBankReadQ_sound {pt : Part} (s : State) (hs : s.Sound pt) : OutSound pt (execBankReadQ s) := by
  unfold execBankReadQ
  repeat' first
    | with_reducible assumption | with_reducible apply outSound_next | with_reducible apply put_sound

-- Machine/Adapt.lean

theorem execAdapt_sound {pt : Part} (a : Act) (s : State) (hs : s.Sound pt) : OutSound pt (execAdapt a s) := by
  unfold execAdapt
  try dsimp only
  repeat' first
    | with_reducible assumption | with_reducible apply outSound_next | split | with_reducible apply onFire_sound
    | ((with_reducible refine sound_mk ?_ ?_ ?_ ?_ ?_ ?_ ?_); rotate_left; all_goals first | rfl | exact Or.inl rfl | exact Or.inr rfl | skip)
    | intro _

theorem loopGain_sound {pt : Part} (s : State) (p : Nat) (v : Int × Int) (delay : Int) (hs : s.Sound pt) : (State.loopGain s p v delay).Sound pt := by
  unfold State.loopGain
  try dsimp only
  repeat' first
    | with_reducible assumption | split | with_reducible apply putInt_sound | with_reducible apply fresh_sound

theorem reverseGain_sound {pt : Part} (s : State) (p at_ : Nat) (v : Int × Int) (hs : s.Sound pt) : (State.reverseGain s p at_ v).Sound pt := by
  unfold State.reverseGain
  try dsimp only
  repeat' first
    | with_reducible assumption | split | with_reducible apply put_sound | with_reducible apply putInt_sound
    | with_reducible apply fresh_sound | with_reducible apply reflection_sound
    | ((with_reducible refine sound_mk ?_ ?_ ?_ ?_ ?_ ?_ ?_); rotate_left; all_goals first | rfl | exact Or.inl rfl | exact Or.inr rfl | skip)

theorem execAdaptDone_sound {pt : Part} (gleaner buf : Nat) (r : AdaptResult) (s : State) (hs : s.Sound pt) : OutSound pt (execAdaptDone gleaner buf r s) := by
  unfold execAdaptDone
  try dsimp only
  repeat' first
    | with_reducible assumption | with_reducible apply outSound_next | split | with_reducible apply count_sound | with_reducible apply fresh_sound
    | with_reducible apply loopGain_sound | with_reducible apply putFlag_sound | with_reducible apply put_sound
    | with_reducible apply reverseGain_sound | with_reducible apply setBank_sound
    | ((with_reducible refine sound_mk ?_ ?_ ?_ ?_ ?_ ?_ ?_); rotate_left; all_goals first | rfl | exact Or.inl rfl | exact Or.inr rfl | skip)
    | intro _

-- Machine/Tiles.lean

theorem setTile_sound {pt : Part} (s : State) (t : Nat) (x : Tile) (hs : s.Sound pt) : (State.setTile s t x).Sound pt := by
  unfold State.setTile
  try dsimp only
  repeat' first
    | with_reducible assumption
    | ((with_reducible refine sound_mk ?_ ?_ ?_ ?_ ?_ ?_ ?_); rotate_left; all_goals first | rfl | exact Or.inl rfl | exact Or.inr rfl | skip)

theorem clearGran_sound {pt : Part} (s : State) (lo hi : Nat) (hs : s.Sound pt) : (s.clearGran lo hi).Sound pt :=
  ⟨hs.part, ⟨hs.canonical.1, sparseWf_filter _ _ hs.canonical.2.1, hs.canonical.2.2⟩, hs.bounded⟩

theorem zeroWorking_sound {pt : Part} (s : State) (t : Nat) (hs : s.Sound pt) : (State.zeroWorking s t).Sound pt := by
  unfold State.zeroWorking
  repeat' first
    | with_reducible assumption | with_reducible apply clearGran_sound

theorem loadImage_sound {pt : Part} (s : State) (t : Nat) (hs : s.Sound pt) : (State.loadImage s t).Sound pt := by
  unfold State.loadImage
  try dsimp only
  repeat' first
    | with_reducible assumption | split | with_reducible apply clearGran_sound | with_reducible apply setGran_sound
    | ((with_reducible refine sound_mk ?_ ?_ ?_ ?_ ?_ ?_ ?_); rotate_left; all_goals first | rfl | exact Or.inl rfl | exact Or.inr rfl | skip)

theorem tilApply_sound {pt : Part} (s : State) (hs : s.Sound pt) : (State.tilApply s).Sound pt := by
  unfold State.tilApply
  try dsimp only
  repeat' first
    | with_reducible assumption | split | with_reducible apply each_sound | with_reducible apply fresh_sound | with_reducible apply loadImage_sound
    | with_reducible apply put_sound | with_reducible apply setTile_sound | with_reducible apply setWord_sound | with_reducible apply each_sound
    | with_reducible apply foldl_sound
    | ((with_reducible refine sound_mk ?_ ?_ ?_ ?_ ?_ ?_ ?_); rotate_left; all_goals first | rfl | exact Or.inl rfl | exact Or.inr rfl | skip)
    | intro _

theorem tilStart_sound {pt : Part} (s : State) (hs : s.Sound pt) : (State.tilStart s).Sound pt := by
  unfold State.tilStart
  try dsimp only
  repeat' first
    | with_reducible assumption | with_reducible apply each_sound | with_reducible apply loadImage_sound | with_reducible apply each_sound | intro _

theorem localWrite_sound {pt : Part} (s : State) (t a : Nat) (b : List Byte) (hs : s.Sound pt) : (State.localWrite s t a b).Sound pt := by
  unfold State.localWrite
  try dsimp only
  repeat' first
    | with_reducible assumption | split | with_reducible apply setGran_sound | with_reducible apply foldl_sound | intro _

theorem tileHalt_sound {pt : Part} (s : State) (t : Nat) (f : Tile → Tile) (ecc : Bool) (hs : s.Sound pt) : (State.tileHalt s t f ecc).Sound pt := by
  unfold State.tileHalt
  try dsimp only
  repeat' first
    | with_reducible assumption | split | with_reducible apply count_sound | with_reducible apply setTile_sound
    | ((with_reducible refine sound_mk ?_ ?_ ?_ ?_ ?_ ?_ ?_); rotate_left; all_goals first | rfl | exact Or.inl rfl | exact Or.inr rfl | skip)

theorem streamIssue_sound {pt : Part} (s : State) (t : Nat) (pre : Tile) (ad off w n : Nat) (inbound : Bool) (hs : s.Sound pt) : (State.streamIssue s t pre ad off w n inbound).Sound pt := by
  unfold State.streamIssue
  try dsimp only
  repeat' first
    | with_reducible assumption | split | with_reducible apply tileHalt_sound | with_reducible apply setTile_sound
    | ((with_reducible refine sound_mk ?_ ?_ ?_ ?_ ?_ ?_ ?_); rotate_left; all_goals first | rfl | exact Or.inl rfl | exact Or.inr rfl | skip)
    | intro _

theorem wrapWrite_sound {pt : Part} (s : State) (t a : Nat) (b : List Byte) (hs : s.Sound pt) : (State.wrapWrite s t a b).Sound pt := by
  unfold State.wrapWrite
  try dsimp only
  repeat' first
    | with_reducible assumption | split | with_reducible apply setGran_sound

theorem sharedWrite_sound {pt : Part} (s : State) (g : Nat) (b : List Byte) (hs : s.Sound pt) : (State.sharedWrite s g b).Sound pt := by
  unfold State.sharedWrite
  repeat' first
    | with_reducible assumption | split | with_reducible apply setGran_sound
    | ((with_reducible refine sound_mk ?_ ?_ ?_ ?_ ?_ ?_ ?_); rotate_left; all_goals first | rfl | exact Or.inl rfl | exact Or.inr rfl | skip)

theorem moveWords_sound {pt : Part} (s : State) (t i : Nat) (q : StreamXfer) (n : Nat) (hs : s.Sound pt) : (State.moveWords s t i q n).Sound pt := by
  unfold State.moveWords
  try dsimp only
  repeat' first
    | with_reducible assumption | split | with_reducible apply tileHalt_sound | with_reducible apply wrapWrite_sound
    | with_reducible apply sharedWrite_sound | with_reducible apply setTile_sound
    | ((with_reducible refine sound_mk ?_ ?_ ?_ ?_ ?_ ?_ ?_); rotate_left; all_goals first | rfl | exact Or.inl rfl | exact Or.inr rfl | skip)
    | intro _

theorem streamsTo_sound {pt : Part} (s : State) (t c : Nat) (dirs : List Bool) (hs : s.Sound pt) : (State.streamsTo s t c dirs).Sound pt := by
  unfold State.streamsTo
  repeat' first
    | with_reducible assumption | split | with_reducible apply each_sound | with_reducible apply moveWords_sound
    | ((with_reducible refine sound_mk ?_ ?_ ?_ ?_ ?_ ?_ ?_); rotate_left; all_goals first | rfl | exact Or.inl rfl | exact Or.inr rfl | skip)
    | intro _

theorem bundleRun_sound {pt : Part} (s : State) (t : Nat) (b : List TOp) (hs : s.Sound pt) : (State.bundleRun s t b).Sound pt := by
  unfold State.bundleRun
  try dsimp only
  repeat' first
    | with_reducible assumption | split | with_reducible apply streamsTo_sound | with_reducible apply tileHalt_sound
    | with_reducible apply foldl_sound | with_reducible apply localWrite_sound | with_reducible apply setTile_sound
    | with_reducible apply streamIssue_sound | with_reducible apply foldl_sound
    | ((with_reducible refine sound_mk ?_ ?_ ?_ ?_ ?_ ?_ ?_); rotate_left; all_goals first | rfl | exact Or.inl rfl | exact Or.inr rfl | skip)
    | intro _

theorem runBundles_sound {pt : Part} (t : Nat) : ∀ (l : List (List TOp)) (s : State), s.Sound pt → (State.runBundles t l s).Sound pt
  | [], s, hs => setTile_sound _ _ _ hs
  | b :: r, s, hs => by
    unfold State.runBundles
    split
    · exact hs
    · split
      · exact setTile_sound _ _ _ hs
      · exact runBundles_sound t r _ (bundleRun_sound _ _ _ hs)

theorem bundleDone_sound {pt : Part} (s : State) (t : Nat) (hs : s.Sound pt) : (s.bundleDone t).Sound pt := by
  unfold State.bundleDone
  dsimp only
  repeat' split
  all_goals first
    | exact runBundles_sound _ _ _ (setTile_sound _ _ _ hs)
    | exact setTile_sound _ _ _ hs

theorem tileOp_sound {pt : Part} (s : State) (t : Byte) (last : Bool) (op : TOp) (hs : s.Sound pt) : (State.tileOp s t last op).Sound pt := by
  unfold State.tileOp
  try dsimp only
  repeat' first
    | with_reducible assumption | split | with_reducible apply bundleDone_sound | with_reducible apply fresh_sound
    | with_reducible apply setTile_sound
    | ((with_reducible refine sound_mk ?_ ?_ ?_ ?_ ?_ ?_ ?_); rotate_left; all_goals first | rfl | exact Or.inl rfl | exact Or.inr rfl | skip)

theorem execTileLdv_sound {pt : Part} (tile : Byte) (last : Bool) (dst : Option (BitVec 5)) (a : TAddr) (s : State) (hs : s.Sound pt) : OutSound pt (execTileLdv tile last dst a s) := by
  unfold execTileLdv
  repeat' first
    | with_reducible assumption | with_reducible apply outSound_next | with_reducible apply tileOp_sound

theorem execTileLdb_sound {pt : Part} (tile : Byte) (last : Bool) (dst : Option (BitVec 5)) (a : TAddr) (s : State) (hs : s.Sound pt) : OutSound pt (execTileLdb tile last dst a s) := by
  unfold execTileLdb
  repeat' first
    | with_reducible assumption | with_reducible apply outSound_next | with_reducible apply tileOp_sound

theorem execTileSld_sound {pt : Part} (tile : Byte) (last : Bool) (dst : BitVec 4) (a : TAddr) (s : State) (hs : s.Sound pt) : OutSound pt (execTileSld tile last dst a s) := by
  unfold execTileSld
  repeat' first
    | with_reducible assumption | with_reducible apply outSound_next | with_reducible apply tileOp_sound

theorem execTileStv_sound {pt : Part} (tile : Byte) (last : Bool) (src : BitVec 5) (a : TAddr) (s : State) (hs : s.Sound pt) : OutSound pt (execTileStv tile last src a s) := by
  unfold execTileStv
  repeat' first
    | with_reducible assumption | with_reducible apply outSound_next | with_reducible apply tileOp_sound

theorem execTileSst_sound {pt : Part} (tile : Byte) (last : Bool) (src : BitVec 4) (a : TAddr) (s : State) (hs : s.Sound pt) : OutSound pt (execTileSst tile last src a s) := by
  unfold execTileSst
  repeat' first
    | with_reducible assumption | with_reducible apply outSound_next | with_reducible apply tileOp_sound

theorem execTileCmac_sound {pt : Part} (tile : Byte) (last : Bool) (acc : BitVec 3) (x y : VSrc) (clr neg conj wrap : Bool) (s : State) (hs : s.Sound pt) : OutSound pt (execTileCmac tile last acc x y clr neg conj wrap s) := by
  unfold execTileCmac
  repeat' first
    | with_reducible assumption | with_reducible apply outSound_next | with_reducible apply tileOp_sound

theorem execTileAccrd_sound {pt : Part} (tile : Byte) (last : Bool) (dst : BitVec 5) (acc : BitVec 3) (sh : SSrc) (w16 : Bool) (s : State) (hs : s.Sound pt) : OutSound pt (execTileAccrd tile last dst acc sh w16 s) := by
  unfold execTileAccrd
  repeat' first
    | with_reducible assumption | with_reducible apply outSound_next | with_reducible apply tileOp_sound

theorem execTileAccadd_sound {pt : Part} (tile : Byte) (last : Bool) (acc other : BitVec 3) (neg wrap : Bool) (s : State) (hs : s.Sound pt) : OutSound pt (execTileAccadd tile last acc other neg wrap s) := by
  unfold execTileAccadd
  repeat' first
    | with_reducible assumption | with_reducible apply outSound_next | with_reducible apply tileOp_sound

theorem execTileAccst_sound {pt : Part} (tile : Byte) (last : Bool) (acc : BitVec 3) (a : TAddr) (s : State) (hs : s.Sound pt) : OutSound pt (execTileAccst tile last acc a s) := by
  unfold execTileAccst
  repeat' first
    | with_reducible assumption | with_reducible apply outSound_next | with_reducible apply tileOp_sound

theorem execTileAccld_sound {pt : Part} (tile : Byte) (last : Bool) (acc : BitVec 3) (a : TAddr) (sh : BitVec 5) (wrap : Bool) (s : State) (hs : s.Sound pt) : OutSound pt (execTileAccld tile last acc a sh wrap s) := by
  unfold execTileAccld
  repeat' first
    | with_reducible assumption | with_reducible apply outSound_next | with_reducible apply tileOp_sound

theorem execTileVadd_sound {pt : Part} (tile : Byte) (last : Bool) (dst : BitVec 5) (x y : VSrc) (s : State) (hs : s.Sound pt) : OutSound pt (execTileVadd tile last dst x y s) := by
  unfold execTileVadd
  repeat' first
    | with_reducible assumption | with_reducible apply outSound_next | with_reducible apply tileOp_sound

theorem execTileVsub_sound {pt : Part} (tile : Byte) (last : Bool) (dst : BitVec 5) (x y : VSrc) (s : State) (hs : s.Sound pt) : OutSound pt (execTileVsub tile last dst x y s) := by
  unfold execTileVsub
  repeat' first
    | with_reducible assumption | with_reducible apply outSound_next | with_reducible apply tileOp_sound

theorem execTileVneg_sound {pt : Part} (tile : Byte) (last : Bool) (dst : BitVec 5) (x : VSrc) (s : State) (hs : s.Sound pt) : OutSound pt (execTileVneg tile last dst x s) := by
  unfold execTileVneg
  repeat' first
    | with_reducible assumption | with_reducible apply outSound_next | with_reducible apply tileOp_sound

theorem execTileVconj_sound {pt : Part} (tile : Byte) (last : Bool) (dst : BitVec 5) (x : VSrc) (s : State) (hs : s.Sound pt) : OutSound pt (execTileVconj tile last dst x s) := by
  unfold execTileVconj
  repeat' first
    | with_reducible assumption | with_reducible apply outSound_next | with_reducible apply tileOp_sound

theorem execTileVshr_sound {pt : Part} (tile : Byte) (last : Bool) (dst : BitVec 5) (x : VSrc) (sh : SSrc) (s : State) (hs : s.Sound pt) : OutSound pt (execTileVshr tile last dst x sh s) := by
  unfold execTileVshr
  repeat' first
    | with_reducible assumption | with_reducible apply outSound_next | with_reducible apply tileOp_sound

theorem execTileVshl_sound {pt : Part} (tile : Byte) (last : Bool) (dst : BitVec 5) (x : VSrc) (sh : SSrc) (s : State) (hs : s.Sound pt) : OutSound pt (execTileVshl tile last dst x sh s) := by
  unfold execTileVshl
  repeat' first
    | with_reducible assumption | with_reducible apply outSound_next | with_reducible apply tileOp_sound

theorem execTileVsel_sound {pt : Part} (tile : Byte) (last : Bool) (dst : BitVec 5) (x y : VSrc) (mask : BitVec 4) (s : State) (hs : s.Sound pt) : OutSound pt (execTileVsel tile last dst x y mask s) := by
  unfold execTileVsel
  repeat' first
    | with_reducible assumption | with_reducible apply outSound_next | with_reducible apply tileOp_sound

theorem execTileVshuf_sound {pt : Part} (tile : Byte) (last : Bool) (dst : BitVec 5) (x idx : VSrc) (s : State) (hs : s.Sound pt) : OutSound pt (execTileVshuf tile last dst x idx s) := by
  unfold execTileVshuf
  repeat' first
    | with_reducible assumption | with_reducible apply outSound_next | with_reducible apply tileOp_sound

theorem execTileVmov_sound {pt : Part} (tile : Byte) (last : Bool) (dst : BitVec 5) (x : VSrc) (s : State) (hs : s.Sound pt) : OutSound pt (execTileVmov tile last dst x s) := by
  unfold execTileVmov
  repeat' first
    | with_reducible assumption | with_reducible apply outSound_next | with_reducible apply tileOp_sound

theorem execTileBfly_sound {pt : Part} (tile : Byte) (last : Bool) (dst1 dst2 : BitVec 5) (x y w : VSrc) (sc : Bool) (s : State) (hs : s.Sound pt) : OutSound pt (execTileBfly tile last dst1 dst2 x y w sc s) := by
  unfold execTileBfly
  repeat' first
    | with_reducible assumption | with_reducible apply outSound_next | with_reducible apply tileOp_sound

theorem execTileSclr_sound {pt : Part} (tile : Byte) (last : Bool) (max : Bool) (s : State) (hs : s.Sound pt) : OutSound pt (execTileSclr tile last max s) := by
  unfold execTileSclr
  repeat' first
    | with_reducible assumption | with_reducible apply outSound_next | with_reducible apply tileOp_sound

theorem execTileSmax_sound {pt : Part} (tile : Byte) (last : Bool) (x : VSrc) (key : BitVec 2) (s : State) (hs : s.Sound pt) : OutSound pt (execTileSmax tile last x key s) := by
  unfold execTileSmax
  repeat' first
    | with_reducible assumption | with_reducible apply outSound_next | with_reducible apply tileOp_sound

theorem execTileSmin_sound {pt : Part} (tile : Byte) (last : Bool) (x : VSrc) (key : BitVec 2) (s : State) (hs : s.Sound pt) : OutSound pt (execTileSmin tile last x key s) := by
  unfold execTileSmin
  repeat' first
    | with_reducible assumption | with_reducible apply outSound_next | with_reducible apply tileOp_sound

theorem execTileSred_sound {pt : Part} (tile : Byte) (last : Bool) (key idx : BitVec 4) (s : State) (hs : s.Sound pt) : OutSound pt (execTileSred tile last key idx s) := by
  unfold execTileSred
  repeat' first
    | with_reducible assumption | with_reducible apply outSound_next | with_reducible apply tileOp_sound

theorem execTileSmov_sound {pt : Part} (tile : Byte) (last : Bool) (dst : BitVec 4) (x : SSrc) (s : State) (hs : s.Sound pt) : OutSound pt (execTileSmov tile last dst x s) := by
  unfold execTileSmov
  repeat' first
    | with_reducible assumption | with_reducible apply outSound_next | with_reducible apply tileOp_sound

theorem execTileSadd_sound {pt : Part} (tile : Byte) (last : Bool) (dst : BitVec 4) (x y : SSrc) (s : State) (hs : s.Sound pt) : OutSound pt (execTileSadd tile last dst x y s) := by
  unfold execTileSadd
  repeat' first
    | with_reducible assumption | with_reducible apply outSound_next | with_reducible apply tileOp_sound

theorem execTileSsub_sound {pt : Part} (tile : Byte) (last : Bool) (dst : BitVec 4) (x y : SSrc) (s : State) (hs : s.Sound pt) : OutSound pt (execTileSsub tile last dst x y s) := by
  unfold execTileSsub
  repeat' first
    | with_reducible assumption | with_reducible apply outSound_next | with_reducible apply tileOp_sound

theorem execTileSand_sound {pt : Part} (tile : Byte) (last : Bool) (dst : BitVec 4) (x y : SSrc) (s : State) (hs : s.Sound pt) : OutSound pt (execTileSand tile last dst x y s) := by
  unfold execTileSand
  repeat' first
    | with_reducible assumption | with_reducible apply outSound_next | with_reducible apply tileOp_sound

theorem execTileSor_sound {pt : Part} (tile : Byte) (last : Bool) (dst : BitVec 4) (x y : SSrc) (s : State) (hs : s.Sound pt) : OutSound pt (execTileSor tile last dst x y s) := by
  unfold execTileSor
  repeat' first
    | with_reducible assumption | with_reducible apply outSound_next | with_reducible apply tileOp_sound

theorem execTileSxor_sound {pt : Part} (tile : Byte) (last : Bool) (dst : BitVec 4) (x y : SSrc) (s : State) (hs : s.Sound pt) : OutSound pt (execTileSxor tile last dst x y s) := by
  unfold execTileSxor
  repeat' first
    | with_reducible assumption | with_reducible apply outSound_next | with_reducible apply tileOp_sound

theorem execTileSshl_sound {pt : Part} (tile : Byte) (last : Bool) (dst : BitVec 4) (x y : SSrc) (s : State) (hs : s.Sound pt) : OutSound pt (execTileSshl tile last dst x y s) := by
  unfold execTileSshl
  repeat' first
    | with_reducible assumption | with_reducible apply outSound_next | with_reducible apply tileOp_sound

theorem execTileSshr_sound {pt : Part} (tile : Byte) (last : Bool) (dst : BitVec 4) (x y : SSrc) (s : State) (hs : s.Sound pt) : OutSound pt (execTileSshr tile last dst x y s) := by
  unfold execTileSshr
  repeat' first
    | with_reducible assumption | with_reducible apply outSound_next | with_reducible apply tileOp_sound

theorem execTileSclz_sound {pt : Part} (tile : Byte) (last : Bool) (dst : BitVec 4) (x : SSrc) (s : State) (hs : s.Sound pt) : OutSound pt (execTileSclz tile last dst x s) := by
  unfold execTileSclz
  repeat' first
    | with_reducible assumption | with_reducible apply outSound_next | with_reducible apply tileOp_sound

theorem execTileScsel_sound {pt : Part} (tile : Byte) (last : Bool) (dst : BitVec 4) (c : SCond) (l r x y : SSrc) (s : State) (hs : s.Sound pt) : OutSound pt (execTileScsel tile last dst c l r x y s) := by
  unfold execTileScsel
  repeat' first
    | with_reducible assumption | with_reducible apply outSound_next | with_reducible apply tileOp_sound

theorem execTileAmov_sound {pt : Part} (tile : Byte) (last : Bool) (r : AReg) (x : SSrc) (s : State) (hs : s.Sound pt) : OutSound pt (execTileAmov tile last r x s) := by
  unfold execTileAmov
  repeat' first
    | with_reducible assumption | with_reducible apply outSound_next | with_reducible apply tileOp_sound

theorem execTileAadd_sound {pt : Part} (tile : Byte) (last : Bool) (r : AReg) (x : SSrc) (s : State) (hs : s.Sound pt) : OutSound pt (execTileAadd tile last r x s) := by
  unfold execTileAadd
  repeat' first
    | with_reducible assumption | with_reducible apply outSound_next | with_reducible apply tileOp_sound

theorem execTileLoop_sound {pt : Part} (tile : Byte) (last : Bool) (c : TCount) (n : Nat) (s : State) (hs : s.Sound pt) : OutSound pt (execTileLoop tile last c n s) := by
  unfold execTileLoop
  repeat' first
    | with_reducible assumption | with_reducible apply outSound_next | with_reducible apply tileOp_sound

theorem execTileRepeat_sound {pt : Part} (tile : Byte) (last : Bool) (c : TCount) (s : State) (hs : s.Sound pt) : OutSound pt (execTileRepeat tile last c s) := by
  unfold execTileRepeat
  repeat' first
    | with_reducible assumption | with_reducible apply outSound_next | with_reducible apply tileOp_sound

theorem execTileEnd_sound {pt : Part} (tile : Byte) (last : Bool) (s : State) (hs : s.Sound pt) : OutSound pt (execTileEnd tile last s) := by
  unfold execTileEnd
  repeat' first
    | with_reducible assumption | with_reducible apply outSound_next | with_reducible apply tileOp_sound

theorem execTileNop_sound {pt : Part} (tile : Byte) (last : Bool) (s : State) (hs : s.Sound pt) : OutSound pt (execTileNop tile last s) := by
  unfold execTileNop
  repeat' first
    | with_reducible assumption | with_reducible apply outSound_next | with_reducible apply tileOp_sound

theorem execTileXin_sound {pt : Part} (tile : Byte) (last : Bool) (ad : BitVec 3) (off : BitVec 4) (w : BitVec 2) (n : Nat) (s : State) (hs : s.Sound pt) : OutSound pt (execTileXin tile last ad off w n s) := by
  unfold execTileXin
  repeat' first
    | with_reducible assumption | with_reducible apply outSound_next | with_reducible apply tileOp_sound

theorem execTileXout_sound {pt : Part} (tile : Byte) (last : Bool) (ad : BitVec 3) (off : BitVec 4) (w : BitVec 2) (n : Nat) (s : State) (hs : s.Sound pt) : OutSound pt (execTileXout tile last ad off w n s) := by
  unfold execTileXout
  repeat' first
    | with_reducible assumption | with_reducible apply outSound_next | with_reducible apply tileOp_sound

theorem execTileXwait_sound {pt : Part} (tile : Byte) (last : Bool) (s : State) (hs : s.Sound pt) : OutSound pt (execTileXwait tile last s) := by
  unfold execTileXwait
  repeat' first
    | with_reducible assumption | with_reducible apply outSound_next | with_reducible apply tileOp_sound

theorem execXferDone_sound {pt : Part} (tile : Byte) (s : State) (hs : s.Sound pt) : OutSound pt (execXferDone tile s) := by
  unfold execXferDone
  try dsimp only
  repeat' first
    | with_reducible assumption | with_reducible apply outSound_next | split | with_reducible apply moveWords_sound
    | with_reducible apply runBundles_sound | with_reducible apply setTile_sound
    | ((with_reducible refine sound_mk ?_ ?_ ?_ ?_ ?_ ?_ ?_); rotate_left; all_goals first | rfl | exact Or.inl rfl | exact Or.inr rfl | skip)

theorem kernelBegin_sound {pt : Part} (s : State) (t k base : Nat) (hs : s.Sound pt) : (State.kernelBegin s t k base).Sound pt := by
  unfold State.kernelBegin
  try dsimp only
  repeat' first
    | with_reducible assumption | split | with_reducible apply count_sound | with_reducible apply setTile_sound
    | with_reducible apply fresh_sound | with_reducible apply foldl_sound | with_reducible apply tileHalt_sound
    | with_reducible apply foldl_sound
    | ((with_reducible refine sound_mk ?_ ?_ ?_ ?_ ?_ ?_ ?_); rotate_left; all_goals first | rfl | exact Or.inl rfl | exact Or.inr rfl | skip)
    | intro _

theorem execKernelStart_sound {pt : Part} (a check : Act) (later : Bool) (s : State) (hs : s.Sound pt) : OutSound pt (execKernelStart a check later s) := by
  unfold execKernelStart
  try dsimp only
  repeat' first
    | with_reducible assumption | with_reducible apply outSound_next | split | with_reducible apply onFire_sound
    | with_reducible apply kernelBegin_sound | with_reducible apply beginPrep_sound
    | intro _

theorem replaceOut_sound {pt : Part} (s : State) (a : Act) (hs : s.Sound pt) : (State.replaceOut s a).Sound pt := by
  unfold State.replaceOut
  try dsimp only
  repeat' first
    | with_reducible assumption | split | with_reducible apply setSounds_sound
    | ((with_reducible refine sound_mk ?_ ?_ ?_ ?_ ?_ ?_ ?_); rotate_left; all_goals first | rfl | exact Or.inl rfl | exact Or.inr rfl | skip)
    | intro _

theorem addKovf_sound {pt : Part} (s : State) (k n : Nat) (hs : s.Sound pt) : (State.addKovf s k n).Sound pt := by
  unfold State.addKovf
  try dsimp only
  repeat' first
    | with_reducible assumption | split
    | ((with_reducible refine sound_mk ?_ ?_ ?_ ?_ ?_ ?_ ?_); rotate_left; all_goals first | rfl | exact Or.inl rfl | exact Or.inr rfl | skip)

theorem execKernelCheck_sound {pt : Part} (a : Act) (s : State) (hs : s.Sound pt) : OutSound pt (execKernelCheck a s) := by
  unfold execKernelCheck
  try dsimp only
  repeat' first
    | with_reducible assumption | with_reducible apply outSound_next | split | with_reducible apply addKovf_sound | with_reducible apply count_sound
    | with_reducible apply fresh_sound | with_reducible apply onFire_sound | with_reducible apply prepDone_sound
    | with_reducible apply replaceOut_sound | with_reducible apply setBit_sound | with_reducible apply setTile_sound
    | with_reducible apply tally_sound | with_reducible apply zeroWorking_sound
    | ((with_reducible refine sound_mk ?_ ?_ ?_ ?_ ?_ ?_ ?_); rotate_left; all_goals first | rfl | exact Or.inl rfl | exact Or.inr rfl | skip)
    | intro _

theorem execTileResume_sound {pt : Part} (tile : Byte) (s : State) (hs : s.Sound pt) : OutSound pt (execTileResume tile s) := by
  unfold execTileResume
  try dsimp only
  repeat' first
    | with_reducible assumption | with_reducible apply outSound_next | split | with_reducible apply setTile_sound
    | ((with_reducible refine sound_mk ?_ ?_ ?_ ?_ ?_ ?_ ?_); rotate_left; all_goals first | rfl | exact Or.inl rfl | exact Or.inr rfl | skip)

theorem execGranaryScrub_sound {pt : Part} (addr : Nat) (ecc : EccResult) (s : State) (hs : s.Sound pt) : OutSound pt (execGranaryScrub addr ecc s) := by
  unfold execGranaryScrub
  try dsimp only
  repeat' first
    | with_reducible assumption | with_reducible apply outSound_next | split | with_reducible apply count_sound | with_reducible apply granEcc_sound
    | with_reducible apply setTile_sound
    | ((with_reducible refine sound_mk ?_ ?_ ?_ ?_ ?_ ?_ ?_); rotate_left; all_goals first | rfl | exact Or.inl rfl | exact Or.inr rfl | skip)

theorem soundKernels_sound {pt : Part} (s : State) (op desc : Nat) (hs : s.Sound pt) : (State.soundKernels s op desc).Sound pt := by
  unfold State.soundKernels
  repeat' first
    | with_reducible assumption | split | with_reducible apply each_sound | with_reducible apply kernelBegin_sound
    | ((with_reducible refine sound_mk ?_ ?_ ?_ ?_ ?_ ?_ ?_); rotate_left; all_goals first | rfl | exact Or.inl rfl | exact Or.inr rfl | skip)
    | intro _

theorem execCovar_sound {pt : Part} (a : Act) (adc : List (List Int)) (s : State) (hs : s.Sound pt) : OutSound pt (execCovar a adc s) := by
  unfold execCovar
  try dsimp only
  repeat' first
    | with_reducible assumption | with_reducible apply outSound_next | split | with_reducible apply onFire_sound
    | with_reducible apply soundKernels_sound | with_reducible apply setSounds_sound
    | ((with_reducible refine sound_mk ?_ ?_ ?_ ?_ ?_ ?_ ?_); rotate_left; all_goals first | rfl | exact Or.inl rfl | exact Or.inr rfl | skip)
    | intro _

theorem execSolve_sound {pt : Part} (a : Act) (s : State) (hs : s.Sound pt) : OutSound pt (execSolve a s) := by
  unfold execSolve
  try dsimp only
  repeat' first
    | with_reducible assumption | with_reducible apply outSound_next | split | with_reducible apply onFire_sound
    | with_reducible apply soundKernels_sound | with_reducible apply setSounds_sound | with_reducible apply count_sound
    | ((with_reducible refine sound_mk ?_ ?_ ?_ ?_ ?_ ?_ ?_); rotate_left; all_goals first | rfl | exact Or.inl rfl | exact Or.inr rfl | skip)
    | intro _

theorem placeHeld_sound {pt : Part} (s : State) (hs : s.Sound pt) : (State.placeHeld s).Sound pt := by
  unfold State.placeHeld
  repeat' first
    | with_reducible assumption | with_reducible apply foldl_sound | with_reducible apply setGran_sound | with_reducible apply foldl_sound
    | ((with_reducible refine sound_mk ?_ ?_ ?_ ?_ ?_ ?_ ?_); rotate_left; all_goals first | rfl | exact Or.inl rfl | exact Or.inr rfl | skip)
    | intro _

theorem execPlace_sound {pt : Part} (a : Act) (s : State) (hs : s.Sound pt) : OutSound pt (execPlace a s) := by
  unfold execPlace
  try dsimp only
  repeat' first
    | with_reducible assumption | with_reducible apply outSound_next | split | with_reducible apply onFire_sound
    | with_reducible apply placeHeld_sound | with_reducible apply soundKernels_sound | with_reducible apply placeBeams_sound
    | with_reducible apply setSounds_sound
    | ((with_reducible refine sound_mk ?_ ?_ ?_ ?_ ?_ ?_ ?_); rotate_left; all_goals first | rfl | exact Or.inl rfl | exact Or.inr rfl | skip)
    | intro _

-- Machine/Transmit.lean

theorem fetchBeams_sound {pt : Part} (maxBeams : Nat) (lost : List (Nat × Nat)) : ∀ (l written : List Nat) (n : Nat) (s : State), s.Sound pt →
    (State.fetchBeams maxBeams lost l written n s).Sound pt
  | [], _, _, s, hs => hs
  | id :: r, w, n, s, hs => by
    unfold State.fetchBeams
    extract_lets e
    clear_value e
    split
    · exact fetchBeams_sound maxBeams lost r _ _ _ hs
    split
    · exact fetchBeams_sound maxBeams lost r _ _ _ hs
    split
    · exact fetchBeams_sound maxBeams lost r _ _ _ (count_sound _ _ _ _ hs)
    split
    · exact fetchBeams_sound maxBeams lost r _ _ _ hs
    split
    · exact fetchBeams_sound maxBeams lost r _ _ _ (dramUsed_sound _ (linkLost_sound _ _ hs))
    · exact fetchBeams_sound maxBeams lost r _ _ _ (dramUsed_sound _ (setBeam_sound _ _ _ hs))

theorem execFetch_sound {pt : Part} (a : Act) (lost : List (Nat × Nat)) (s : State) (fixed : List Nat) (hs : s.Sound pt) : OutSound pt (execFetch a lost s fixed) := by
  unfold execFetch
  refine onFire_sound _ _ _ hs (fun x hx => ?_)
  extract_lets car t held _ u v
  have hu : u.Sound pt := each_sound _ _ _ (sound_mk hx rfl rfl rfl rfl rfl (.inl rfl)) (fun _ _ h => setBeam_sound _ _ _ h)
  have hv : v.Sound pt := fetchBeams_sound _ _ _ _ _ _ hu
  exact each_sound _ _ _ (prepared_sound _ _ (setSym_sound _ _ _ _ hv)) (fun _ _ h => linkFixed_sound _ _ h)

theorem defBeamNote_sound {pt : Part} (s : State) (car t : Nat) (absent : List Nat) (hs : s.Sound pt) : (State.defBeamNote s car t absent).Sound pt := by
  unfold State.defBeamNote
  try dsimp only
  repeat' first
    | with_reducible assumption | split | with_reducible apply countBy_sound | with_reducible apply setSym_sound
    | ((with_reducible refine sound_mk ?_ ?_ ?_ ?_ ?_ ?_ ?_); rotate_left; all_goals first | rfl | exact Or.inl rfl | exact Or.inr rfl | skip)
    | intro _

theorem execRecomputeFetch_sound {pt : Part} (a : Act) (lost : List (Nat × Nat)) (s : State) (fixed : List Nat) (hs : s.Sound pt) :
    OutSound pt (execRecomputeFetch a lost s fixed) := by
  unfold execRecomputeFetch
  refine onFire_sound _ _ _ hs (fun x hx => ?_)
  extract_lets car t ids n fails load y _ u
  have hy : y.Sound pt := each_sound _ _ _ (each_sound _ _ _ hx (fun _ _ h => linkLost_sound _ _ h)) (fun _ _ h => linkFixed_sound _ _ h)
  have hu : u.Sound pt := setGran_sound _ _ _ (sound_mk hy rfl rfl rfl rfl rfl (.inl rfl))
  clear_value u y
  split
  · exact hx
  · exact defBeamNote_sound _ _ _ _ (countBy_sound _ _ _ _ _ hu)

theorem execCfrSelect_sound {pt : Part} (a : Act) (s : State) (hs : s.Sound pt) : OutSound pt (execCfrSelect a s) := by
  unfold execCfrSelect
  try dsimp only
  repeat' first
    | with_reducible assumption | with_reducible apply outSound_next | with_reducible apply onFire_sound
    | ((with_reducible refine sound_mk ?_ ?_ ?_ ?_ ?_ ?_ ?_); rotate_left; all_goals first | rfl | exact Or.inl rfl | exact Or.inr rfl | skip)
    | intro _

theorem setEng_sound {pt : Part} (s : State) (a : Nat) (e : EngSym) (hs : s.Sound pt) : (State.setEng s a e).Sound pt := by
  unfold State.setEng
  try dsimp only
  repeat' first
    | with_reducible assumption
    | ((with_reducible refine sound_mk ?_ ?_ ?_ ?_ ?_ ?_ ?_); rotate_left; all_goals first | rfl | exact Or.inl rfl | exact Or.inr rfl | skip)

theorem execEngineWindow_sound {pt : Part} (at_ win : Nat) (s : State) (hs : s.Sound pt) : OutSound pt (execEngineWindow at_ win s) := by
  unfold execEngineWindow
  try dsimp only
  repeat' first
    | with_reducible assumption | with_reducible apply outSound_next | split | with_reducible apply prepared_sound | with_reducible apply setEng_sound
    | ((with_reducible refine sound_mk ?_ ?_ ?_ ?_ ?_ ?_ ?_); rotate_left; all_goals first | rfl | exact Or.inl rfl | exact Or.inr rfl | skip)
    | intro _

theorem passDone_sound {pt : Part} (s : State) (a : Nat) (poison : List Nat) (hs : s.Sound pt) : (State.passDone s a poison).Sound pt := by
  unfold State.passDone
  try dsimp only
  repeat' first
    | with_reducible assumption | with_reducible apply countBy_sound | with_reducible apply each_sound | with_reducible apply setEng_sound
    | with_reducible apply each_sound | with_reducible apply foldl_sound
    | ((with_reducible refine sound_mk ?_ ?_ ?_ ?_ ?_ ?_ ?_); rotate_left; all_goals first | rfl | exact Or.inl rfl | exact Or.inr rfl | skip)
    | intro _

theorem execEnginePassDone_sound {pt : Part} (win : Nat) (poison : List Nat) (s : State) (hs : s.Sound pt) : OutSound pt (execEnginePassDone win poison s) := by
  unfold execEnginePassDone
  try dsimp only
  repeat' first
    | with_reducible assumption | with_reducible apply outSound_next | split | with_reducible apply passDone_sound | with_reducible apply setEng_sound
    | ((with_reducible refine sound_mk ?_ ?_ ?_ ?_ ?_ ?_ ?_); rotate_left; all_goals first | rfl | exact Or.inl rfl | exact Or.inr rfl | skip)
    | intro _

theorem closeSymbol_sound {pt : Part} (s : State) (car t : Nat) (hs : s.Sound pt) : (State.closeSymbol s car t).Sound pt := by
  unfold State.closeSymbol
  try dsimp only
  repeat' first
    | with_reducible assumption | split | with_reducible apply countBy_sound | with_reducible apply defBeamNote_sound
    | with_reducible apply setSym_sound | with_reducible apply winnowFrom_sound
    | ((with_reducible refine sound_mk ?_ ?_ ?_ ?_ ?_ ?_ ?_); rotate_left; all_goals first | rfl | exact Or.inl rfl | exact Or.inr rfl | skip)
    | intro _

theorem execHorizon_sound {pt : Part} (a : Act) (s : State) (hs : s.Sound pt) : OutSound pt (execHorizon a s) := by
  unfold execHorizon
  try dsimp only
  repeat' first
    | with_reducible assumption | with_reducible apply outSound_next | with_reducible apply closeSymbol_sound | with_reducible apply each_sound
    | with_reducible apply onFire_sound | with_reducible apply each_sound | intro _

theorem execRecomputeDone_sound {pt : Part} (car at_ : Nat) (s : State) (hs : s.Sound pt) : OutSound pt (execRecomputeDone car at_ s) := by
  unfold execRecomputeDone
  try dsimp only
  repeat' first
    | with_reducible assumption | with_reducible apply outSound_next | split | with_reducible apply count_sound | with_reducible apply setSym_sound
    | ((with_reducible refine sound_mk ?_ ?_ ?_ ?_ ?_ ?_ ?_); rotate_left; all_goals first | rfl | exact Or.inl rfl | exact Or.inr rfl | skip)
    | intro _

theorem putPower_sound {pt : Part} (s : State) (f : Fld) (energy : Nat) (x : Int) (hs : s.Sound pt) : (State.putPower s f energy x).Sound pt := by
  unfold State.putPower
  repeat' first
    | with_reducible assumption | split | with_reducible apply fresh_sound | with_reducible apply putInt_sound

theorem regulate_sound {pt : Part} (s : State) (p test : Nat) (hs : s.Sound pt) : (State.regulate s p test).Sound pt := by
  unfold State.regulate
  try dsimp only
  repeat' first
    | with_reducible assumption | split | with_reducible apply alarm_sound | with_reducible apply count_sound | with_reducible apply put_sound
    | with_reducible apply setBit_sound
    | ((with_reducible refine sound_mk ?_ ?_ ?_ ?_ ?_ ?_ ?_); rotate_left; all_goals first | rfl | exact Or.inl rfl | exact Or.inr rfl | skip)

theorem ringPrune_sound {pt : Part} (s : State) (a : Nat) (hs : s.Sound pt) : (State.ringPrune s a).Sound pt := by
  unfold State.ringPrune
  try dsimp only
  repeat' first
    | with_reducible assumption
    | ((with_reducible refine sound_mk ?_ ?_ ?_ ?_ ?_ ?_ ?_); rotate_left; all_goals first | rfl | exact Or.inl rfl | exact Or.inr rfl | skip)
    | intro _

theorem ringRead_sound {pt : Part} (s : State) (a : Nat) (hs : s.Sound pt) : (State.ringRead s a).Sound pt := by
  unfold State.ringRead
  try dsimp only
  repeat' first
    | with_reducible assumption | split | with_reducible apply alarm_sound | with_reducible apply each_sound | with_reducible apply fresh_sound
    | with_reducible apply putPower_sound | with_reducible apply put_sound | with_reducible apply regulate_sound
    | with_reducible apply ringPrune_sound | with_reducible apply setEng_sound | with_reducible apply setSym_sound
    | with_reducible apply showBank_sound | with_reducible apply each_sound | with_reducible apply foldl_sound
    | ((with_reducible refine sound_mk ?_ ?_ ?_ ?_ ?_ ?_ ?_); rotate_left; all_goals first | rfl | exact Or.inl rfl | exact Or.inr rfl | skip)
    | intro _

theorem execPlayout_sound {pt : Part} (a : Act) (osc : Nat) (s : State) (hs : s.Sound pt) : OutSound pt (execPlayout a osc s) := by
  unfold execPlayout
  try dsimp only
  repeat' first
    | with_reducible assumption | with_reducible apply outSound_next | with_reducible apply onFire_sound | with_reducible apply ringRead_sound
    | ((with_reducible refine sound_mk ?_ ?_ ?_ ?_ ?_ ?_ ?_); rotate_left; all_goals first | rfl | exact Or.inl rfl | exact Or.inr rfl | skip)
    | intro _

theorem txcApply_sound {pt : Part} (s : State) (hs : s.Sound pt) : (State.txcApply s).Sound pt := by
  unfold State.txcApply
  try dsimp only
  repeat' first
    | with_reducible assumption | split | with_reducible apply put_sound | intro _

theorem beamStart_sound {pt : Part} (s : State) (hs : s.Sound pt) : (State.beamStart s).Sound pt := by
  unfold State.beamStart
  try dsimp only
  repeat' first
    | with_reducible assumption | with_reducible apply setBeam_sound
    | ((with_reducible refine sound_mk ?_ ?_ ?_ ?_ ?_ ?_ ?_); rotate_left; all_goals first | rfl | exact Or.inl rfl | exact Or.inr rfl | skip)

theorem txcStart_sound {pt : Part} (s : State) (hs : s.Sound pt) : (State.txcStart s).Sound pt := by
  unfold State.txcStart
  try dsimp only
  repeat' first
    | with_reducible assumption
    | ((with_reducible refine sound_mk ?_ ?_ ?_ ?_ ?_ ?_ ?_); rotate_left; all_goals first | rfl | exact Or.inl rfl | exact Or.inr rfl | skip)
    | intro _

-- Machine/Content.lean

theorem cplane_sound {pt : Part} (s : State) (typ : Nat) (m : Msg) (body : List (Option (Nat × Nat))) (sheaf : State → List (Option (Nat × Nat))) (window : State → Option (Nat × Nat)) (act : State → State) (hs : s.Sound pt) (hact : ∀ (x0 : State), x0.Sound pt → (act x0).Sound pt) : (State.cplane s typ m body sheaf window act).Sound pt := by
  unfold State.cplane
  try dsimp only
  repeat' first
    | with_reducible assumption | split | with_reducible apply nackAt_sound | with_reducible apply refuseC_sound
    | refine ofRxDone_sound (by assumption) ?_ | refine ofRxTake_sound (by assumption) ?_ | with_reducible apply rx_sound
    | with_reducible apply rxVia_sound | with_reducible apply forwardMsg_sound | apply hact
    | ((with_reducible refine sound_mk ?_ ?_ ?_ ?_ ?_ ?_ ?_); rotate_left; all_goals first | rfl | exact Or.inl rfl | exact Or.inr rfl | skip)
    | intro _

theorem accept_sound {pt : Part} (s : State) (plane typ : Nat) (m : Msg) (sem : List (Option (Nat × Nat))) (eff : State → State) (hs : s.Sound pt) (heff : ∀ (x0 : State), x0.Sound pt → (eff x0).Sound pt) : (State.accept s plane typ m sem eff).Sound pt := by
  unfold State.accept
  try dsimp only
  repeat' first
    | with_reducible assumption | split | with_reducible apply ackIf_sound | with_reducible apply eff_sound | with_reducible apply passed_sound
    | with_reducible apply refuseC_sound | apply heff
    | ((with_reducible refine sound_mk ?_ ?_ ?_ ?_ ?_ ?_ ?_); rotate_left; all_goals first | rfl | exact Or.inl rfl | exact Or.inr rfl | skip)
    | intro _

theorem putSects_sound {pt : Part} (s : State) (l : List Sect) (hs : s.Sound pt) : (State.putSects s l).Sound pt := by
  unfold State.putSects
  try dsimp only
  repeat' first
    | with_reducible assumption
    | ((with_reducible refine sound_mk ?_ ?_ ?_ ?_ ?_ ?_ ?_); rotate_left; all_goals first | rfl | exact Or.inl rfl | exact Or.inr rfl | skip)
    | intro _

theorem placeData_sound {pt : Part} (s : State) (d : HeldData) (hs : s.Sound pt) : (State.placeData s d).Sound pt := by
  unfold State.placeData
  try dsimp only
  repeat' first
    | with_reducible assumption | split | with_reducible apply ack_sound | with_reducible apply count_sound | with_reducible apply nackAt_sound
    | ((with_reducible refine sound_mk ?_ ?_ ?_ ?_ ?_ ?_ ?_); rotate_left; all_goals first | rfl | exact Or.inl rfl | exact Or.inr rfl | skip)
    | intro _

theorem releaseData_sound {pt : Part} (s : State) (car slotT : Nat) (syms : List Nat) (hs : s.Sound pt) : (State.releaseData s car slotT syms).Sound pt := by
  unfold State.releaseData
  try dsimp only
  repeat' first
    | with_reducible assumption | with_reducible apply each_sound | with_reducible apply placeData_sound | with_reducible apply each_sound
    | ((with_reducible refine sound_mk ?_ ?_ ?_ ?_ ?_ ?_ ?_); rotate_left; all_goals first | rfl | exact Or.inl rfl | exact Or.inr rfl | skip)
    | intro _

theorem execDlData_sound {pt : Part} (m : Msg) (s : State) (hs : s.Sound pt) : OutSound pt (execDlData m s) := by
  unfold execDlData
  try dsimp only
  repeat' first
    | with_reducible assumption | with_reducible apply outSound_next | split | with_reducible apply nackAt_sound | with_reducible apply passed_sound
    | with_reducible apply placeData_sound | with_reducible apply refuseU_sound | refine ofRxDone_sound (by assumption) ?_
    | refine ofRxTake_sound (by assumption) ?_ | with_reducible apply rx_sound | with_reducible apply rxVia_sound
    | with_reducible apply forwardMsg_sound
    | ((with_reducible refine sound_mk ?_ ?_ ?_ ?_ ?_ ?_ ?_); rotate_left; all_goals first | rfl | exact Or.inl rfl | exact Or.inr rfl | skip)
    | intro _

theorem sections_sound {pt : Part} (s : State) (dl : Bool) (m : Msg) (hs : s.Sound pt) : (State.sections s dl m).Sound pt := by
  unfold State.sections
  try dsimp only
  repeat' first
    | with_reducible assumption | split | with_reducible apply accept_sound | with_reducible apply cplane_sound | with_reducible apply putSects_sound
    | with_reducible apply releaseData_sound
    | ((with_reducible refine sound_mk ?_ ?_ ?_ ?_ ?_ ?_ ?_); rotate_left; all_goals first | rfl | exact Or.inl rfl | exact Or.inr rfl | skip)
    | intro _

theorem execDlSections_sound {pt : Part} (m : Msg) (s : State) (hs : s.Sound pt) : OutSound pt (execDlSections m s) := by
  unfold execDlSections
  repeat' first
    | with_reducible assumption | with_reducible apply outSound_next | with_reducible apply sections_sound

theorem execUlSections_sound {pt : Part} (m : Msg) (s : State) (hs : s.Sound pt) : OutSound pt (execUlSections m s) := by
  unfold execUlSections
  repeat' first
    | with_reducible assumption | with_reducible apply outSound_next | with_reducible apply sections_sound

theorem amended_sound {pt : Part} (s : State) (m : Msg) (hs : s.Sound pt) : (State.amended s m).Sound pt := by
  unfold State.amended
  try dsimp only
  repeat' first
    | with_reducible assumption | with_reducible apply count_sound | with_reducible apply each_sound | with_reducible apply setSym_sound
    | with_reducible apply each_sound
    | ((with_reducible refine sound_mk ?_ ?_ ?_ ?_ ?_ ?_ ?_); rotate_left; all_goals first | rfl | exact Or.inl rfl | exact Or.inr rfl | skip)
    | intro _

theorem execAmend_sound {pt : Part} (m : Msg) (s : State) (hs : s.Sound pt) : OutSound pt (execAmend m s) := by
  unfold execAmend
  try dsimp only
  repeat' first
    | with_reducible assumption | with_reducible apply outSound_next | split | with_reducible apply ackIf_sound | with_reducible apply amended_sound
    | with_reducible apply cplane_sound | with_reducible apply passed_sound | with_reducible apply putSects_sound | with_reducible apply refuseC_sound
    | with_reducible apply releaseData_sound
    | ((with_reducible refine sound_mk ?_ ?_ ?_ ?_ ?_ ?_ ?_); rotate_left; all_goals first | rfl | exact Or.inl rfl | exact Or.inr rfl | skip)
    | intro _

theorem execRevoke_sound {pt : Part} (m : Msg) (s : State) (hs : s.Sound pt) : OutSound pt (execRevoke m s) := by
  unfold execRevoke
  try dsimp only
  repeat' first
    | with_reducible assumption | with_reducible apply outSound_next | split | with_reducible apply ackIf_sound | with_reducible apply amended_sound
    | with_reducible apply cplane_sound | with_reducible apply passed_sound | with_reducible apply refuseC_sound
    | ((with_reducible refine sound_mk ?_ ?_ ?_ ?_ ?_ ?_ ?_); rotate_left; all_goals first | rfl | exact Or.inl rfl | exact Or.inr rfl | skip)
    | intro _

theorem execBeamWrite_sound {pt : Part} (m : Msg) (s : State) (link : LinkErrs) (hs : s.Sound pt) : OutSound pt (execBeamWrite m s link) := by
  unfold execBeamWrite
  extract_lets n target id w idx body act
  have hact : ∀ t, t.Sound pt → (act t).Sound pt := by
    intro t ht
    unfold act
    extract_lets a cache u
    have hu : u.Sound pt := by
      unfold u
      split
      · exact linkMeets_sound _ _ (dramReq_sound _ ht)
      · exact ht
    clear_value u
    refine accept_sound _ _ _ _ _ _ hu (fun x hx => ?_)
    extract_lets y
    have hy : y.Sound pt := by
      unfold y
      split
      · exact each_sound _ _ _ (linkMeets_sound _ _ (dramReq_sound _ hx)) (fun _ _ h => setDram_sound _ _ _ h)
      · exact hx
    clear_value y
    split
    · exact sound_mk hy rfl rfl rfl rfl rfl (.inl rfl)
    · exact hy
  clear_value act
  split
  · exact outSound_next (cplane_sound _ _ _ _ _ _ _ hs hact)
  · split
    · rename_i t h; exact outSound_next (ofRxDone_sound h (rx_sound _ _ _ _ hs))
    · rename_i t h
      have ht := ofRxTake_sound h (rx_sound _ _ _ _ hs)
      split
      · exact outSound_next (nackAt_sound _ _ _ _ ht)
      · exact outSound_next (hact _ ht)

theorem frontMsg_sound {pt : Part} (s : State) (typ : Nat) (m : Msg) (fem : Bool) (top : Nat) (bad : State → Bool) (sem : State → List (Option (Nat × Nat))) (hs : s.Sound pt) : (State.frontMsg s typ m fem top bad sem).Sound pt := by
  unfold State.frontMsg
  try dsimp only
  repeat' first
    | with_reducible assumption | with_reducible apply accept_sound | with_reducible apply cplane_sound
    | ((with_reducible refine sound_mk ?_ ?_ ?_ ?_ ?_ ?_ ?_); rotate_left; all_goals first | rfl | exact Or.inl rfl | exact Or.inr rfl | skip)
    | intro _

theorem execPowerStep_sound {pt : Part} (m : Msg) (s : State) (hs : s.Sound pt) : OutSound pt (execPowerStep m s) := by
  unfold execPowerStep
  try dsimp only
  repeat' first
    | with_reducible assumption | with_reducible apply outSound_next | with_reducible apply frontMsg_sound | intro _

theorem execFemState_sound {pt : Part} (m : Msg) (s : State) (hs : s.Sound pt) : OutSound pt (execFemState m s) := by
  unfold execFemState
  try dsimp only
  repeat' first
    | with_reducible assumption | with_reducible apply outSound_next | with_reducible apply frontMsg_sound | intro _

theorem execTineWeights_sound {pt : Part} (m : Msg) (s : State) (hs : s.Sound pt) : OutSound pt (execTineWeights m s) := by
  unfold execTineWeights
  try dsimp only
  repeat' first
    | with_reducible assumption | with_reducible apply outSound_next | split | with_reducible apply accept_sound | with_reducible apply cplane_sound
    | ((with_reducible refine sound_mk ?_ ?_ ?_ ?_ ?_ ?_ ?_); rotate_left; all_goals first | rfl | exact Or.inl rfl | exact Or.inr rfl | skip)
    | intro _

theorem execSoundReq_sound {pt : Part} (m : Msg) (s : State) (hs : s.Sound pt) : OutSound pt (execSoundReq m s) := by
  unfold execSoundReq
  try dsimp only
  repeat' first
    | with_reducible assumption | with_reducible apply outSound_next | split | with_reducible apply accept_sound | with_reducible apply cplane_sound
    | with_reducible apply put_sound
    | ((with_reducible refine sound_mk ?_ ?_ ?_ ?_ ?_ ?_ ?_); rotate_left; all_goals first | rfl | exact Or.inl rfl | exact Or.inr rfl | skip)
    | intro _

theorem execPartialSum_sound {pt : Part} (m : Msg) (s : State) (hs : s.Sound pt) : OutSound pt (execPartialSum m s) := by
  unfold execPartialSum
  split
  · split
    · rename_i t h; exact outSound_next (rxHead_sound _ _ _ _ _ hs h)
    · extract_lets u
      have hu : u.Sound pt := synced_sound _ _ hs
      clear_value u
      split
      · exact outSound_next (count_sound _ _ _ _ hu)
      · split
        · exact outSound_next (nackAt_sound _ _ _ _ hu)
        · split
          · exact outSound_next hu
          · exact outSound_next (sendOn_sound _ _ _ _ _ _ _ hu)
  · split
    · rename_i t h; exact outSound_next (ofRxDone_sound h (rx_sound _ _ _ _ hs))
    · rename_i t h
      have ht := ofRxTake_sound h (rx_sound _ _ _ _ hs)
      clear h
      dsimp only
      split
      · exact outSound_next (nackAt_sound _ _ _ _ ht)
      · split
        · exact outSound_next (refuseU_sound _ _ _ ht)
        · split
          · exact outSound_next (count_sound _ _ _ _ ht)
          · split
            · exact outSound_next (nackAt_sound _ _ _ _ ht)
            · exact outSound_next (ackIf_sound _ _ _ _ _ _ (sound_mk (passed_sound _ _ _ ht) rfl rfl rfl rfl rfl (.inl rfl)))

-- Machine/Resume.lean

theorem chipSends_sound {pt : Part} (s : State) (k b : Nat) (hs : s.Sound pt) : (State.chipSends s k b).Sound pt := by
  unfold State.chipSends
  try dsimp only
  repeat' first
    | with_reducible assumption | split | with_reducible apply foldl_sound | with_reducible apply each_sound
    | with_reducible apply regulate_sound | with_reducible apply put_sound | with_reducible apply alarm_sound
    | with_reducible apply setSym_sound | with_reducible apply foldl_sound
    | ((with_reducible refine sound_mk ?_ ?_ ?_ ?_ ?_ ?_ ?_); rotate_left; all_goals first | rfl | exact Or.inl rfl | exact Or.inr rfl | skip)
    | intro _

theorem chipResume_sound {pt : Part} (s : State) (k : Nat) (hs : s.Sound pt) : (State.chipResume s k).Sound pt := by
  unfold State.chipResume
  try dsimp only
  repeat' first
    | with_reducible assumption | with_reducible apply validChip_sound | with_reducible apply renewHeld_sound
    | with_reducible apply chipSends_sound
    | ((with_reducible refine sound_mk ?_ ?_ ?_ ?_ ?_ ?_ ?_); rotate_left; all_goals first | rfl | exact Or.inl rfl | exact Or.inr rfl | skip)

theorem relocked_sound {pt : Part} (s : State) (k : Nat) (hs : s.Sound pt) : (State.relocked s k).Sound pt := by
  unfold State.relocked
  repeat' first
    | with_reducible assumption | with_reducible apply setCalChip_sound | with_reducible apply showLock_sound
    | with_reducible apply chipResume_sound
    | ((with_reducible refine sound_mk ?_ ?_ ?_ ?_ ?_ ?_ ?_); rotate_left; all_goals first | rfl | exact Or.inl rfl | exact Or.inr rfl | skip)

theorem execCalComplete_sound {pt : Part} (chiplet : Nat) (s : State) (hs : s.Sound pt) : OutSound pt (execCalComplete chiplet s) := by
  unfold execCalComplete
  try dsimp only
  repeat' first
    | with_reducible assumption | with_reducible apply outSound_next | split | with_reducible apply calIdle_sound
    | with_reducible apply calCounted_sound | with_reducible apply relocked_sound | with_reducible apply chipResume_sound
    | with_reducible apply setCalChip_sound | with_reducible apply renewComp_sound | with_reducible apply put_sound
    | ((with_reducible refine sound_mk ?_ ?_ ?_ ?_ ?_ ?_ ?_); rotate_left; all_goals first | rfl | exact Or.inl rfl | exact Or.inr rfl | skip)
    | intro _

theorem execCalAbort_sound {pt : Part} (chiplet : Nat) (s : State) (hs : s.Sound pt) : OutSound pt (execCalAbort chiplet s) := by
  unfold execCalAbort
  try dsimp only
  repeat' first
    | with_reducible assumption | with_reducible apply outSound_next | split | with_reducible apply calAlarm_sound
    | with_reducible apply calIdle_sound | with_reducible apply chipResume_sound
    | ((with_reducible refine sound_mk ?_ ?_ ?_ ?_ ?_ ?_ ?_); rotate_left; all_goals first | rfl | exact Or.inl rfl | exact Or.inr rfl | skip)

theorem execSynthesizerRelock_sound {pt : Part} (chiplet : Nat) (s : State) (hs : s.Sound pt) : OutSound pt (execSynthesizerRelock chiplet s) := by
  unfold execSynthesizerRelock
  try dsimp only
  repeat' first
    | with_reducible assumption | with_reducible apply outSound_next | split | with_reducible apply relocked_sound
    | with_reducible apply showLock_sound
    | ((with_reducible refine sound_mk ?_ ?_ ?_ ?_ ?_ ?_ ?_); rotate_left; all_goals first | rfl | exact Or.inl rfl | exact Or.inr rfl | skip)

end Sys2Proof.Machine
end

