-- ==== Sys2Proof/Laws/SoundMove.lean ====
section
/-! SUPPORT. Sound states: the mover, verification, the D-plane, time and the run keep `State.Sound`. -/

set_option linter.unusedTactic false
set_option linter.unreachableTactic false
set_option linter.unusedVariables false

namespace Sys2Proof.Machine

-- Machine/Dma.lean

theorem setChan_sound {pt : Part} (s : State) (n : Nat) (c : Chan) (hs : s.Sound pt) : (State.setChan s n c).Sound pt := by
  unfold State.setChan
  try dsimp only
  repeat' first
    | with_reducible assumption
    | ((with_reducible refine sound_mk ?_ ?_ ?_ ?_ ?_ ?_ ?_); rotate_left; all_goals first | rfl | exact Or.inl rfl | exact Or.inr rfl | skip)

theorem setChState_sound {pt : Part} (s : State) (n st : Nat) (hs : s.Sound pt) : (State.setChState s n st).Sound pt := by
  unfold State.setChState
  repeat' first
    | with_reducible assumption | with_reducible apply put_sound

theorem dmaHalt_sound {pt : Part} (s : State) (n code desc off : Nat) (hs : s.Sound pt) : (State.dmaHalt s n code desc off).Sound pt := by
  unfold State.dmaHalt
  try dsimp only
  repeat' first
    | with_reducible assumption | with_reducible apply count_sound | with_reducible apply put_sound | with_reducible apply setChState_sound
    | with_reducible apply setChan_sound | with_reducible apply tally_sound
    | ((with_reducible refine sound_mk ?_ ?_ ?_ ?_ ?_ ?_ ?_); rotate_left; all_goals first | rfl | exact Or.inl rfl | exact Or.inr rfl | skip)

theorem ringLength_sound {pt : Part} (s : State) (n : Nat) (hs : s.Sound pt) : (State.ringLength s n).Sound pt := by
  unfold State.ringLength
  try dsimp only
  repeat' first
    | with_reducible assumption | split | with_reducible apply put_sound

theorem ringAdvance_sound {pt : Part} (s : State) (n k : Nat) (hs : s.Sound pt) : (State.ringAdvance s n k).Sound pt := by
  unfold State.ringAdvance
  try dsimp only
  repeat' first
    | with_reducible assumption | split | with_reducible apply put_sound | with_reducible apply ringLength_sound

theorem execRingLengthWrite_sound {pt : Part} (n : Nat) (len : BitVec 30) (s : State) (hs : s.Sound pt) : OutSound pt (execRingLengthWrite n len s) := by
  unfold execRingLengthWrite
  try dsimp only
  repeat' first
    | with_reducible assumption | with_reducible apply outSound_next | split | with_reducible apply put_sound | with_reducible apply ringLength_sound

theorem execRingAck_sound {pt : Part} (n : Nat) (bytes : BitVec 30) (s : State) (hs : s.Sound pt) : OutSound pt (execRingAck n bytes s) := by
  unfold execRingAck
  try dsimp only
  repeat' first
    | with_reducible assumption | with_reducible apply outSound_next | split | with_reducible apply put_sound

theorem dmaStart_sound {pt : Part} (s : State) (n head : Nat) (hs : s.Sound pt) : (State.dmaStart s n head).Sound pt := by
  unfold State.dmaStart
  try dsimp only
  repeat' first
    | with_reducible assumption | with_reducible apply put_sound | with_reducible apply setChState_sound | with_reducible apply setChan_sound
    | ((with_reducible refine sound_mk ?_ ?_ ?_ ?_ ?_ ?_ ?_); rotate_left; all_goals first | rfl | exact Or.inl rfl | exact Or.inr rfl | skip)

theorem execDmaGo_sound {pt : Part} (n : Nat) (s : State) (hs : s.Sound pt) : OutSound pt (execDmaGo n s) := by
  unfold execDmaGo
  repeat' first
    | with_reducible assumption | with_reducible apply outSound_next | split | with_reducible apply dmaStart_sound | with_reducible apply put_sound

theorem execDmaClear_sound {pt : Part} (n : Nat) (s : State) (hs : s.Sound pt) : OutSound pt (execDmaClear n s) := by
  unfold execDmaClear
  repeat' first
    | with_reducible assumption | with_reducible apply outSound_next | split | with_reducible apply setChState_sound

theorem execDmaOpen_sound {pt : Part} (a : Act) (s : State) (hs : s.Sound pt) : OutSound pt (execDmaOpen a s) := by
  unfold execDmaOpen
  try dsimp only
  repeat' first
    | with_reducible assumption | with_reducible apply outSound_next | split | with_reducible apply count_sound | with_reducible apply dmaStart_sound
    | with_reducible apply setChan_sound
    | ((with_reducible refine sound_mk ?_ ?_ ?_ ?_ ?_ ?_ ?_); rotate_left; all_goals first | rfl | exact Or.inl rfl | exact Or.inr rfl | skip)

theorem execDmaClose_sound {pt : Part} (a : Act) (s : State) (hs : s.Sound pt) : OutSound pt (execDmaClose a s) := by
  unfold execDmaClose
  try dsimp only
  repeat' first
    | with_reducible assumption | with_reducible apply outSound_next | split | with_reducible apply count_sound | with_reducible apply put_sound
    | with_reducible apply setChState_sound | with_reducible apply setChan_sound
    | ((with_reducible refine sound_mk ?_ ?_ ?_ ?_ ?_ ?_ ?_); rotate_left; all_goals first | rfl | exact Or.inl rfl | exact Or.inr rfl | skip)

theorem execDescriptorStore_sound {pt : Part} (hi : BitVec 32) (s : State) (hs : s.Sound pt) : OutSound pt (execDescriptorStore hi s) := by
  unfold execDescriptorStore
  try dsimp only
  repeat' first
    | with_reducible assumption | with_reducible apply outSound_next | split | with_reducible apply put_sound | with_reducible apply setGran_sound

theorem execDescriptorRead_sound {pt : Part} (s : State) (hs : s.Sound pt) : OutSound pt (execDescriptorRead s) := by
  unfold execDescriptorRead
  try dsimp only
  repeat' first
    | with_reducible assumption | with_reducible apply outSound_next | split | with_reducible apply put_sound

theorem dmaLeave_sound {pt : Part} (s : State) (n i : Nat) (d : List Nat) (hs : s.Sound pt) : (State.dmaLeave s n i d).Sound pt := by
  unfold State.dmaLeave
  try dsimp only
  repeat' first
    | with_reducible assumption | split | with_reducible apply count_sound | with_reducible apply put_sound
    | with_reducible apply setChan_sound | with_reducible apply setChState_sound | with_reducible apply dmaHalt_sound
    | ((with_reducible refine sound_mk ?_ ?_ ?_ ?_ ?_ ?_ ?_); rotate_left; all_goals first | rfl | exact Or.inl rfl | exact Or.inr rfl | skip)

theorem dmaFetch_sound {pt : Part} (s : State) (n : Nat) (hs : s.Sound pt) : (State.dmaFetch s n).Sound pt := by
  unfold State.dmaFetch
  try dsimp only
  repeat' first
    | with_reducible assumption | split | with_reducible apply countBy_sound | with_reducible apply dmaHalt_sound
    | with_reducible apply dmaLeave_sound | with_reducible apply put_sound | with_reducible apply setChState_sound
    | with_reducible apply setChan_sound
    | ((with_reducible refine sound_mk ?_ ?_ ?_ ?_ ?_ ?_ ?_); rotate_left; all_goals first | rfl | exact Or.inl rfl | exact Or.inr rfl | skip)

theorem ringStops_sound {pt : Part} (s t : State) (n i : Nat) (d : List Nat) (hs : s.Sound pt) (h : s.ringStops n i d = some t) : t.Sound pt := by
  unfold State.ringStops at h
  dsimp only at h
  split at h
  · cases h
  · split at h
    · cases h; exact dmaHalt_sound _ _ _ _ _ hs
    · split at h
      · cases h; exact dmaLeave_sound _ _ _ _ (put_sound _ _ _ (countBy_sound _ _ _ _ _ hs))
      · cases h

theorem dmaMove_sound {pt : Part} (s : State) (n i : Nat) (d : List Nat) (ecc : EccResult) (lane : Nat) (hs : s.Sound pt) :
    (s.dmaMove n i d ecc lane).Sound pt := by
  unfold State.dmaMove
  extract_lets pos ps src dram off
  clear_value pos ps src dram off
  split
  · exact dmaHalt_sound _ _ _ _ _ hs
  · split
    · exact dmaHalt_sound _ _ _ _ _ hs
    · rename_i s1 s2 t c1 data dst t2 u c2 v _ _
      have h1 : s1.Sound pt := by
        unfold s1
        split
        · exact dramReq_sound _ hs
        · exact hs
      have h2 : s2.Sound pt := by
        unfold s2
        split
        · exact linkFixed_sound _ _ h1
        · exact h1
      have ht : t.Sound pt := linkLost_sound _ _ h2
      have ht2 : t2.Sound pt := by
        unfold t2
        split
        · exact setGran_sound _ _ _ h2
        · exact setDram_sound _ _ _ h2
      have hu : u.Sound pt := by
        unfold u
        split
        · exact ringAdvance_sound _ _ _ ht2
        · exact ht2
      have hv : v.Sound pt := setChan_sound _ _ _ hu
      clear_value c1 c2 v u t2 dst data t s2 s1
      split
      · exact dmaHalt_sound _ _ _ _ _ h1
      · split
        · split
          · exact count_sound _ _ _ _ (setChan_sound _ _ _ ht)
          · exact dmaHalt_sound _ _ _ _ _ ht
        · split
          · exact dmaLeave_sound _ _ _ _ hv
          · exact hv

theorem execDmaBurst_sound {pt : Part} (dramFree : Bool) (ecc : EccResult) (lane : Nat) (s : State) (hs : s.Sound pt) :
    OutSound pt (execDmaBurst dramFree ecc lane s) := by
  unfold execDmaBurst
  split
  · exact outSound_next hs
  · rename_i n _
    extract_lets dma t u
    have ht : t.Sound pt := by
      unfold t
      split
      · exact hs
      · exact sound_mk hs rfl rfl rfl rfl rfl (.inl rfl)
    have hu : u.Sound pt := by
      unfold u
      split
      · exact dmaFetch_sound _ _ ht
      · exact ht
    clear_value u
    split
    · split
      · exact outSound_next hu
      · split
        · rename_i v hv
          exact outSound_next (ringStops_sound _ _ _ _ _ hu hv)
        · exact outSound_next (dmaMove_sound _ _ _ _ _ _ hu)
    · exact outSound_next hu

theorem execBarrierRelease_sound {pt : Part} (s : State) (hs : s.Sound pt) : OutSound pt (execBarrierRelease s) := by
  unfold execBarrierRelease
  try dsimp only
  repeat' first
    | with_reducible assumption | with_reducible apply outSound_next | split | with_reducible apply dmaLeave_sound | with_reducible apply each_sound
    | with_reducible apply each_sound
    | ((with_reducible refine sound_mk ?_ ?_ ?_ ?_ ?_ ?_ ?_); rotate_left; all_goals first | rfl | exact Or.inl rfl | exact Or.inr rfl | skip)
    | intro _

theorem dmaApply_sound {pt : Part} (s : State) (hs : s.Sound pt) : (State.dmaApply s).Sound pt := by
  unfold State.dmaApply
  try dsimp only
  repeat' first
    | with_reducible assumption | split | with_reducible apply put_sound | with_reducible apply setGran_sound
    | with_reducible apply each_sound | with_reducible apply setChan_sound | with_reducible apply dmaHalt_sound
    | ((with_reducible refine sound_mk ?_ ?_ ?_ ?_ ?_ ?_ ?_); rotate_left; all_goals first | rfl | exact Or.inl rfl | exact Or.inr rfl | skip)
    | intro _

-- Machine/Verify.lean

theorem withSheaf_sound {pt : Part} (s : State) (sh : Sheaf) (hs : s.Sound pt) : (State.withSheaf s sh).Sound pt := by
  unfold State.withSheaf
  try dsimp only
  repeat' first
    | with_reducible assumption
    | ((with_reducible refine sound_mk ?_ ?_ ?_ ?_ ?_ ?_ ?_); rotate_left; all_goals first | rfl | exact Or.inl rfl | exact Or.inr rfl | skip)

-- Machine/DPlane.lean

theorem dAccess_sound {pt : Part} (s : State) (region : Nat) (link : LinkErrs) (hs : s.Sound pt) : (State.dAccess s region link).Sound pt := by
  unfold State.dAccess
  repeat' first
    | with_reducible assumption | split | with_reducible apply dramReq_sound | with_reducible apply linkMeets_sound

theorem execDWrite_sound {pt : Part} (m : Msg) (s : State) (link : LinkErrs) (hs : s.Sound pt) : OutSound pt (execDWrite m s link) := by
  unfold execDWrite
  split
  · rename_i t h; exact outSound_next (ofRxDone_sound h (rx_sound _ _ _ _ hs))
  · rename_i t h
    have ht := ofRxTake_sound h (rx_sound _ _ _ _ hs)
    clear h
    dsimp only
    split
    · exact outSound_next (nackAt_sound _ _ _ _ ht)
    · split
      · exact outSound_next (nack_sound _ _ _ (dAccess_sound _ _ _ ht))
      · have hu : ∀ a b r, (((t.passed 5 m).dAccess r link).setDram a b).Sound pt := fun _ _ _ =>
          setDram_sound _ _ _ (dAccess_sound _ _ _ (passed_sound _ _ _ ht))
        refine outSound_next (ackIf_sound _ _ _ _ _ _ ?_)
        split
        · exact hu _ _ _
        · exact sound_mk (hu _ _ _) rfl rfl rfl rfl rfl (.inl rfl)

theorem execDRead_sound {pt : Part} (m : Msg) (s : State) (link : LinkErrs) (corrected : Nat) (hs : s.Sound pt) :
    OutSound pt (execDRead m s link corrected) := by
  unfold execDRead
  split
  · rename_i t h; exact outSound_next (ofRxDone_sound h (rx_sound _ _ _ _ hs))
  · rename_i t h
    have ht := ofRxTake_sound h (rx_sound _ _ _ _ hs)
    clear h
    dsimp only
    split
    · exact outSound_next (nackAt_sound _ _ _ _ ht)
    · split
      · exact outSound_next (nack_sound _ _ _ (dAccess_sound _ _ _ ht))
      · have hu : ∀ r n, (((t.passed 5 m).dAccess r link).loftFixed n).Sound pt := fun _ _ =>
          loftFixed_sound _ _ (dAccess_sound _ _ _ (passed_sound _ _ _ ht))
        refine outSound_next (ackIf_sound _ _ _ _ _ _ ?_)
        split
        · exact freeze_sound _ (sound_mk (hu _ _) rfl rfl rfl rfl rfl (.inl rfl))
        · exact sound_mk (hu _ _) rfl rfl rfl rfl rfl (.inl rfl)

theorem execDEnd_sound {pt : Part} (m : Msg) (s : State) (link : LinkErrs) (corrected : Nat) (hs : s.Sound pt) :
    OutSound pt (execDEnd m s link corrected) := by
  unfold execDEnd
  split
  · rename_i t h; exact outSound_next (ofRxDone_sound h (rx_sound _ _ _ _ hs))
  · rename_i t h
    have ht := ofRxTake_sound h (rx_sound _ _ _ _ hs)
    clear h
    extract_lets b region id a ours con u shf
    split
    · exact outSound_next (nackAt_sound _ _ _ _ ht)
    · have hu : u.Sound pt := loftFixed_sound _ _ (dAccess_sound _ _ _ (sound_mk ht rfl rfl rfl rfl rfl (.inl rfl)))
      clear_value u
      split
      · exact outSound_next (nack_sound _ _ _ hu)
      · split
        · exact outSound_next (ack_sound _ _ (passed_sound _ _ _ (sound_mk hu rfl rfl rfl rfl rfl (.inl rfl))))
        · exact outSound_next (nackAt_sound _ _ _ _ hu)

theorem serveRead_sound {pt : Part} (s : State) (hs : s.Sound pt) : (State.serveRead s).Sound pt := by
  unfold State.serveRead
  try dsimp only
  repeat' first
    | with_reducible assumption | split | with_reducible apply dramReq_sound | with_reducible apply transmitMasked_sound
    | with_reducible apply fresh_sound | with_reducible apply transmit_sound | with_reducible apply put_sound
    | ((with_reducible refine sound_mk ?_ ?_ ?_ ?_ ?_ ?_ ?_); rotate_left; all_goals first | rfl | exact Or.inl rfl | exact Or.inr rfl | skip)
    | intro _

-- Machine/Time.lean

theorem discard_sound {pt : Part} (s : State) (n : Nat) (hs : s.Sound pt) : (State.discard s n).Sound pt := by
  unfold State.discard
  repeat' first
    | with_reducible assumption | with_reducible apply countBy_sound

theorem timClear_sound {pt : Part} (s : State) (addr : Nat) (bits : Word) (hs : s.Sound pt) : (State.timClear s addr bits).Sound pt := by
  unfold State.timClear
  repeat' first
    | with_reducible assumption
    | ((with_reducible refine sound_mk ?_ ?_ ?_ ?_ ?_ ?_ ?_); rotate_left; all_goals first | rfl | exact Or.inl rfl | exact Or.inr rfl | skip)

theorem latchCfg_sound {pt : Part} (s : State) (hs : s.Sound pt) : (State.latchCfg s).Sound pt := by
  unfold State.latchCfg
  try dsimp only
  repeat' first
    | with_reducible assumption | split | with_reducible apply each_sound | with_reducible apply setWord_sound
    | with_reducible apply discard_sound
    | ((with_reducible refine sound_mk ?_ ?_ ?_ ?_ ?_ ?_ ?_); rotate_left; all_goals first | rfl | exact Or.inl rfl | exact Or.inr rfl | skip)
    | intro _

theorem fctlStart_sound {pt : Part} (s : State) (y : Int) (hs : s.Sound pt) : (State.fctlStart s y).Sound pt := by
  unfold State.fctlStart
  try dsimp only
  repeat' first
    | with_reducible assumption | split
    | ((with_reducible refine sound_mk ?_ ?_ ?_ ?_ ?_ ?_ ?_); rotate_left; all_goals first | rfl | exact Or.inl rfl | exact Or.inr rfl | skip)

theorem setY_sound {pt : Part} (s : State) (y : Int) (hs : s.Sound pt) : (State.setY s y).Sound pt := by
  unfold State.setY
  try dsimp only
  repeat' first
    | with_reducible assumption | split | with_reducible apply fctlStart_sound | with_reducible apply putInt_sound
    | ((with_reducible refine sound_mk ?_ ?_ ?_ ?_ ?_ ?_ ?_); rotate_left; all_goals first | rfl | exact Or.inl rfl | exact Or.inr rfl | skip)

theorem slewBy_sound {pt : Part} (s : State) (off : Int) (hs : s.Sound pt) : (State.slewBy s off).Sound pt := by
  unfold State.slewBy
  try dsimp only
  repeat' first
    | with_reducible assumption | split | with_reducible apply fresh_sound | with_reducible apply setY_sound
    | ((with_reducible refine sound_mk ?_ ?_ ?_ ?_ ?_ ?_ ?_); rotate_left; all_goals first | rfl | exact Or.inl rfl | exact Or.inr rfl | skip)
    | intro _

theorem servoTo_sound {pt : Part} (s : State) (st : Nat) (hs : s.Sound pt) : (State.servoTo s st).Sound pt := by
  unfold State.servoTo
  try dsimp only
  repeat' first
    | with_reducible assumption | split | with_reducible apply putFlag_sound | with_reducible apply put_sound
    | ((with_reducible refine sound_mk ?_ ?_ ?_ ?_ ?_ ?_ ?_); rotate_left; all_goals first | rfl | exact Or.inl rfl | exact Or.inr rfl | skip)

theorem holdover_sound {pt : Part} (s : State) (hs : s.Sound pt) : (State.holdover s).Sound pt := by
  unfold State.holdover
  try dsimp only
  repeat' first
    | with_reducible assumption | split | with_reducible apply fresh_sound | with_reducible apply servoTo_sound | with_reducible apply setY_sound

theorem servoOff_sound {pt : Part} (s : State) (hs : s.Sound pt) : (State.servoOff s).Sound pt := by
  unfold State.servoOff
  try dsimp only
  repeat' first
    | with_reducible assumption | with_reducible apply put_sound | with_reducible apply servoTo_sound
    | ((with_reducible refine sound_mk ?_ ?_ ?_ ?_ ?_ ?_ ?_); rotate_left; all_goals first | rfl | exact Or.inl rfl | exact Or.inr rfl | skip)

theorem stepBreaks_sound {pt : Part} (s : State) (oldT : Nat) (hs : s.Sound pt) : (State.stepBreaks s oldT).Sound pt := by
  unfold State.stepBreaks
  try dsimp only
  repeat' first
    | with_reducible assumption | split | with_reducible apply discard_sound | with_reducible apply dpdSettle_sound
    | ((with_reducible refine sound_mk ?_ ?_ ?_ ?_ ?_ ?_ ?_); rotate_left; all_goals first | rfl | exact Or.inl rfl | exact Or.inr rfl | skip)
    | intro _

theorem stepCancels_sound {pt : Part} (s : State) (hs : s.Sound pt) : (State.stepCancels s).Sound pt := by
  unfold State.stepCancels
  try dsimp only
  repeat' first
    | with_reducible assumption | split | with_reducible apply winnowFrom_sound | with_reducible apply slotsEnd_sound
    | with_reducible apply put_sound | with_reducible apply critNack_sound
    | ((with_reducible refine sound_mk ?_ ?_ ?_ ?_ ?_ ?_ ?_); rotate_left; all_goals first | rfl | exact Or.inl rfl | exact Or.inr rfl | skip)

theorem stopReady_sound {pt : Part} (s : State) (bound : Nat) (hs : s.Sound pt) : (State.stopReady s bound).Sound pt := by
  unfold State.stopReady
  try dsimp only
  repeat' first
    | with_reducible assumption | with_reducible apply slotsEnd_sound | with_reducible apply put_sound
    | ((with_reducible refine sound_mk ?_ ?_ ?_ ?_ ?_ ?_ ?_); rotate_left; all_goals first | rfl | exact Or.inl rfl | exact Or.inr rfl | skip)

theorem stepStops_sound {pt : Part} (s : State) (hs : s.Sound pt) : (State.stepStops s).Sound pt := by
  unfold State.stepStops
  try dsimp only
  repeat' first
    | with_reducible assumption | with_reducible apply muteStopFrom_sound | with_reducible apply stopReady_sound
    | with_reducible apply winnowFrom_sound
    | ((with_reducible refine sound_mk ?_ ?_ ?_ ?_ ?_ ?_ ?_); rotate_left; all_goals first | rfl | exact Or.inl rfl | exact Or.inr rfl | skip)

theorem invalidSpan_sound {pt : Part} (s : State) (from_ to_ : Nat) (step : Bool) (hs : s.Sound pt) : (State.invalidSpan s from_ to_ step).Sound pt := by
  unfold State.invalidSpan
  try dsimp only
  repeat' first
    | with_reducible assumption
    | ((with_reducible refine sound_mk ?_ ?_ ?_ ?_ ?_ ?_ ?_); rotate_left; all_goals first | rfl | exact Or.inl rfl | exact Or.inr rfl | skip)
    | intro _

theorem stepRuns_sound {pt : Part} (s : State) (oldT : Nat) (hs : s.Sound pt) : (State.stepRuns s oldT).Sound pt := by
  unfold State.stepRuns
  try dsimp only
  repeat' first
    | with_reducible assumption | split | with_reducible apply invalidSpan_sound | with_reducible apply put_sound
    | with_reducible apply winnowFrom_sound
    | ((with_reducible refine sound_mk ?_ ?_ ?_ ?_ ?_ ?_ ?_); rotate_left; all_goals first | rfl | exact Or.inl rfl | exact Or.inr rfl | skip)

theorem timeStep_sound {pt : Part} (s : State) (off : Int) (hs : s.Sound pt) : (State.timeStep s off).Sound pt := by
  unfold State.timeStep
  try dsimp only
  repeat' first
    | with_reducible assumption | split | with_reducible apply fresh_sound | with_reducible apply put_sound | with_reducible apply stepBreaks_sound
    | with_reducible apply stepCancels_sound | with_reducible apply stepRuns_sound | with_reducible apply stepStops_sound
    | with_reducible apply tally_sound
    | ((with_reducible refine sound_mk ?_ ?_ ?_ ?_ ?_ ?_ ?_); rotate_left; all_goals first | rfl | exact Or.inl rfl | exact Or.inr rfl | skip)

theorem measure_sound {pt : Part} (s : State) (t2 m : Int) (hs : s.Sound pt) : (State.measure s t2 m).Sound pt := by
  unfold State.measure
  try dsimp only
  repeat' first
    | with_reducible assumption | split | with_reducible apply fresh_sound | with_reducible apply setY_sound
    | ((with_reducible refine sound_mk ?_ ?_ ?_ ?_ ?_ ?_ ?_); rotate_left; all_goals first | rfl | exact Or.inl rfl | exact Or.inr rfl | skip)

theorem correct_sound {pt : Part} (s : State) (off : Int) (hs : s.Sound pt) : (State.correct s off).Sound pt := by
  unfold State.correct
  try dsimp only
  repeat' first
    | with_reducible assumption | split | with_reducible apply slewBy_sound | with_reducible apply timeStep_sound
    | ((with_reducible refine sound_mk ?_ ?_ ?_ ?_ ?_ ?_ ?_); rotate_left; all_goals first | rfl | exact Or.inl rfl | exact Or.inr rfl | skip)

theorem lockCount_sound {pt : Part} (s : State) (off : Int) (hs : s.Sound pt) : (State.lockCount s off).Sound pt := by
  unfold State.lockCount
  try dsimp only
  repeat' first
    | with_reducible assumption | split | with_reducible apply servoTo_sound
    | ((with_reducible refine sound_mk ?_ ?_ ?_ ?_ ?_ ?_ ?_); rotate_left; all_goals first | rfl | exact Or.inl rfl | exact Or.inr rfl | skip)

theorem servo_sound {pt : Part} (s : State) (t2 m off : Int) (hs : s.Sound pt) : (State.servo s t2 m off).Sound pt := by
  unfold State.servo
  try dsimp only
  repeat' first
    | with_reducible assumption | split | with_reducible apply correct_sound | with_reducible apply lockCount_sound
    | with_reducible apply measure_sound | with_reducible apply servoTo_sound

theorem putSixteenth_sound {pt : Part} (s : State) (f : Fld) (x : Int) (hs : s.Sound pt) : (State.putSixteenth s f x).Sound pt := by
  unfold State.putSixteenth
  repeat' first
    | with_reducible assumption | with_reducible apply fresh_sound | with_reducible apply putInt_sound

theorem complete_sound {pt : Part} (s : State) (e : Exchange) (t1 t4 cr : Int) (hs : s.Sound pt) : (State.complete s e t1 t4 cr).Sound pt := by
  unfold State.complete
  try dsimp only
  repeat' first
    | with_reducible assumption | split | with_reducible apply putSixteenth_sound | with_reducible apply servoTo_sound
    | with_reducible apply servo_sound
    | ((with_reducible refine sound_mk ?_ ?_ ?_ ?_ ?_ ?_ ?_); rotate_left; all_goals first | rfl | exact Or.inl rfl | exact Or.inr rfl | skip)

theorem forwardPtp_sound {pt : Part} (s : State) (p : Port) (m : Msg) (res : Nat) (hs : s.Sound pt) : (State.forwardPtp s p m res).Sound pt := by
  unfold State.forwardPtp
  try dsimp only
  repeat' first
    | with_reducible assumption | split | with_reducible apply replay_sound | with_reducible apply sendChanged_sound
    | with_reducible apply forwardMsg_sound | with_reducible apply fresh_sound | with_reducible apply discard_sound
    | ((with_reducible refine sound_mk ?_ ?_ ?_ ?_ ?_ ?_ ?_); rotate_left; all_goals first | rfl | exact Or.inl rfl | exact Or.inr rfl | skip)
    | intro _

theorem ptpTake_sound {pt : Part} (s : State) (m : Msg) (res : Nat) (act : State → State) (hs : s.Sound pt) (hact : ∀ (x0 : State), x0.Sound pt → (act x0).Sound pt) : (State.ptpTake s m res act).Sound pt := by
  unfold State.ptpTake
  try dsimp only
  repeat' first
    | with_reducible assumption | split | with_reducible apply ackIf_sound | with_reducible apply discard_sound
    | with_reducible apply forwardPtp_sound | with_reducible apply latchCfg_sound | with_reducible apply nackAt_sound
    | with_reducible apply passed_sound | refine ofRxDone_sound (by assumption) ?_ | refine ofRxTake_sound (by assumption) ?_
    | with_reducible apply rx_sound | with_reducible apply rxVia_sound | with_reducible apply forwardMsg_sound | apply hact
    | ((with_reducible refine sound_mk ?_ ?_ ?_ ?_ ?_ ?_ ?_); rotate_left; all_goals first | rfl | exact Or.inl rfl | exact Or.inr rfl | skip)
    | intro _

theorem execSync_sound {pt : Part} (m : Msg) (ago later res : Nat) (s : State) (hs : s.Sound pt) : OutSound pt (execSync m ago later res s) := by
  unfold execSync
  try dsimp only
  repeat' first
    | with_reducible assumption | with_reducible apply outSound_next | split | with_reducible apply count_sound | with_reducible apply discard_sound
    | with_reducible apply ptpTake_sound | with_reducible apply replay_sound | with_reducible apply transmit_sound
    | ((with_reducible refine sound_mk ?_ ?_ ?_ ?_ ?_ ?_ ?_); rotate_left; all_goals first | rfl | exact Or.inl rfl | exact Or.inr rfl | skip)
    | intro _

theorem exchangeNow_sound {pt : Part} (s : State) (old new : Exchange) (hs : s.Sound pt) : (State.exchangeNow s old new).Sound pt := by
  unfold State.exchangeNow
  try dsimp only
  repeat' first
    | with_reducible assumption | split | with_reducible apply complete_sound
    | ((with_reducible refine sound_mk ?_ ?_ ?_ ?_ ?_ ?_ ?_); rotate_left; all_goals first | rfl | exact Or.inl rfl | exact Or.inr rfl | skip)
    | intro _

theorem execFollowUp_sound {pt : Part} (m : Msg) (s : State) (hs : s.Sound pt) : OutSound pt (execFollowUp m s) := by
  unfold execFollowUp
  try dsimp only
  repeat' first
    | with_reducible assumption | with_reducible apply outSound_next | split | with_reducible apply discard_sound
    | with_reducible apply exchangeNow_sound | with_reducible apply ptpTake_sound
    | ((with_reducible refine sound_mk ?_ ?_ ?_ ?_ ?_ ?_ ?_); rotate_left; all_goals first | rfl | exact Or.inl rfl | exact Or.inr rfl | skip)
    | intro _

theorem execDelayResp_sound {pt : Part} (m : Msg) (s : State) (hs : s.Sound pt) : OutSound pt (execDelayResp m s) := by
  unfold execDelayResp
  try dsimp only
  repeat' first
    | with_reducible assumption | with_reducible apply outSound_next | split | with_reducible apply discard_sound
    | with_reducible apply exchangeNow_sound | with_reducible apply ptpTake_sound
    | ((with_reducible refine sound_mk ?_ ?_ ?_ ?_ ?_ ?_ ?_); rotate_left; all_goals first | rfl | exact Or.inl rfl | exact Or.inr rfl | skip)
    | intro _

theorem execAnnounce_sound {pt : Part} (m : Msg) (s : State) (hs : s.Sound pt) : OutSound pt (execAnnounce m s) := by
  unfold execAnnounce
  try dsimp only
  repeat' first
    | with_reducible assumption | with_reducible apply outSound_next | split | with_reducible apply holdover_sound
    | with_reducible apply ptpTake_sound
    | ((with_reducible refine sound_mk ?_ ?_ ?_ ?_ ?_ ?_ ?_); rotate_left; all_goals first | rfl | exact Or.inl rfl | exact Or.inr rfl | skip)
    | intro _

theorem execPtpMessageDiscarded_sound {pt : Part} (m : Msg) (s : State) (hs : s.Sound pt) : OutSound pt (execPtpMessageDiscarded m s) := by
  unfold execPtpMessageDiscarded
  try dsimp only
  repeat' first
    | with_reducible assumption | with_reducible apply outSound_next | split | with_reducible apply discard_sound | with_reducible apply ptpTake_sound
    | intro _

theorem execExchangeTimeout_sound {pt : Part} (s : State) (hs : s.Sound pt) : OutSound pt (execExchangeTimeout s) := by
  unfold execExchangeTimeout
  try dsimp only
  repeat' first
    | with_reducible assumption | with_reducible apply outSound_next | split | with_reducible apply discard_sound
    | ((with_reducible refine sound_mk ?_ ?_ ?_ ?_ ?_ ?_ ?_); rotate_left; all_goals first | rfl | exact Or.inl rfl | exact Or.inr rfl | skip)

theorem execSyncTimeout_sound {pt : Part} (s : State) (hs : s.Sound pt) : OutSound pt (execSyncTimeout s) := by
  unfold execSyncTimeout
  repeat' first
    | with_reducible assumption | with_reducible apply outSound_next | split | with_reducible apply holdover_sound

theorem execAnnounceTimeout_sound {pt : Part} (s : State) (hs : s.Sound pt) : OutSound pt (execAnnounceTimeout s) := by
  unfold execAnnounceTimeout
  repeat' first
    | with_reducible assumption | with_reducible apply outSound_next | split | with_reducible apply holdover_sound

theorem execHoldoverLimit_sound {pt : Part} (s : State) (hs : s.Sound pt) : OutSound pt (execHoldoverLimit s) := by
  unfold execHoldoverLimit
  repeat' first
    | with_reducible assumption | with_reducible apply outSound_next | split | with_reducible apply alarm_sound | with_reducible apply put_sound
    | with_reducible apply tally_sound

theorem execServoDisable_sound {pt : Part} (s : State) (hs : s.Sound pt) : OutSound pt (execServoDisable s) := by
  unfold execServoDisable
  repeat' first
    | with_reducible assumption | with_reducible apply outSound_next | with_reducible apply servoOff_sound

theorem execFctlFrameDone_sound {pt : Part} (nak : Bool) (s : State) (hs : s.Sound pt) : OutSound pt (execFctlFrameDone nak s) := by
  unfold execFctlFrameDone
  try dsimp only
  repeat' first
    | with_reducible assumption | with_reducible apply outSound_next | split | with_reducible apply alarm_sound | with_reducible apply count_sound
    | with_reducible apply fctlStart_sound | with_reducible apply put_sound
    | ((with_reducible refine sound_mk ?_ ?_ ?_ ?_ ?_ ?_ ?_); rotate_left; all_goals first | rfl | exact Or.inl rfl | exact Or.inr rfl | skip)

theorem putDistance_sound {pt : Part} (s : State) (f : Fld) (x : Int) (hs : s.Sound pt) : (State.putDistance s f x).Sound pt := by
  unfold State.putDistance
  repeat' first
    | with_reducible assumption | split | with_reducible apply fresh_sound | with_reducible apply putInt_sound | with_reducible apply put_sound

theorem execPpsInEdge_sound {pt : Part} (ago : Nat) (s : State) (hs : s.Sound pt) : OutSound pt (execPpsInEdge ago s) := by
  unfold execPpsInEdge
  try dsimp only
  repeat' first
    | with_reducible assumption | with_reducible apply outSound_next | split | with_reducible apply alarm_sound | with_reducible apply fresh_sound
    | with_reducible apply putDistance_sound | with_reducible apply put_sound | with_reducible apply slewBy_sound

theorem execFsyncEdge_sound {pt : Part} (ago : Nat) (s : State) (hs : s.Sound pt) : OutSound pt (execFsyncEdge ago s) := by
  unfold execFsyncEdge
  try dsimp only
  repeat' first
    | with_reducible assumption | with_reducible apply outSound_next | split | with_reducible apply alarm_sound
    | with_reducible apply putDistance_sound | with_reducible apply put_sound

theorem execTimingInputGlitch_sound {pt : Part} (pps : Bool) (s : State) (hs : s.Sound pt) : OutSound pt (execTimingInputGlitch pps s) := by
  unfold execTimingInputGlitch
  repeat' first
    | with_reducible assumption | with_reducible apply outSound_next | split | with_reducible apply count_sound

theorem execPpsOutRise_sound {pt : Part} (s : State) (hs : s.Sound pt) : OutSound pt (execPpsOutRise s) := by
  unfold execPpsOutRise
  try dsimp only
  repeat' first
    | with_reducible assumption | with_reducible apply outSound_next | split
    | ((with_reducible refine sound_mk ?_ ?_ ?_ ?_ ?_ ?_ ?_); rotate_left; all_goals first | rfl | exact Or.inl rfl | exact Or.inr rfl | skip)
    | intro _

theorem execPpsOutFall_sound {pt : Part} (s : State) (hs : s.Sound pt) : OutSound pt (execPpsOutFall s) := by
  unfold execPpsOutFall
  try dsimp only
  repeat' first
    | with_reducible assumption | with_reducible apply outSound_next | split
    | ((with_reducible refine sound_mk ?_ ?_ ?_ ?_ ?_ ?_ ?_); rotate_left; all_goals first | rfl | exact Or.inl rfl | exact Or.inr rfl | skip)

theorem readNow_sound {pt : Part} (s : State) (hs : s.Sound pt) : (State.readNow s).Sound pt := by
  unfold State.readNow
  repeat' first
    | with_reducible assumption | with_reducible apply put_sound

theorem execTimeRead_sound {pt : Part} (s : State) (hs : s.Sound pt) : OutSound pt (execTimeRead s) := by
  unfold execTimeRead
  repeat' first
    | with_reducible assumption | with_reducible apply outSound_next | with_reducible apply readNow_sound

theorem timeCycle_sound {pt : Part} (s : State) (hs : s.Sound pt) : (State.timeCycle s).Sound pt := by
  unfold State.timeCycle
  try dsimp only
  repeat' first
    | with_reducible assumption | split
    | ((with_reducible refine sound_mk ?_ ?_ ?_ ?_ ?_ ?_ ?_); rotate_left; all_goals first | rfl | exact Or.inl rfl | exact Or.inr rfl | skip)

-- Machine/Run.lean

theorem beginApply_sound {pt : Part} (s : State) (a : Asker) (hs : s.Sound pt) : (State.beginApply s a).Sound pt := by
  unfold State.beginApply
  try dsimp only
  repeat' first
    | with_reducible assumption | with_reducible apply put_sound
    | ((with_reducible refine sound_mk ?_ ?_ ?_ ?_ ?_ ?_ ?_); rotate_left; all_goals first | rfl | exact Or.inl rfl | exact Or.inr rfl | skip)

theorem loadGo_sound {pt : Part} (s : State) (mode : Nat) (a : Asker) (hs : s.Sound pt) : (State.loadGo s mode a).Sound pt := by
  unfold State.loadGo
  repeat' first
    | with_reducible assumption | split | with_reducible apply beginApply_sound | with_reducible apply put_sound
    | with_reducible apply critAck_sound | with_reducible apply dramReq_sound
    | ((with_reducible refine sound_mk ?_ ?_ ?_ ?_ ?_ ?_ ?_); rotate_left; all_goals first | rfl | exact Or.inl rfl | exact Or.inr rfl | skip)

theorem sheafLoad_sound {pt : Part} (s : State) (i : Instr) (m : Crit) (mode : Nat) (hs : s.Sound pt) : OutSound pt (State.sheafLoad s i m mode) := by
  unfold State.sheafLoad
  try dsimp only
  repeat' first
    | with_reducible assumption | with_reducible apply outSound_next | split | with_reducible apply critical_sound | with_reducible apply loadGo_sound
    | with_reducible apply mplane_sound | with_reducible apply refuseRun_sound
    | ((with_reducible refine sound_mk ?_ ?_ ?_ ?_ ?_ ?_ ?_); rotate_left; all_goals first | rfl | exact Or.inl rfl | exact Or.inr rfl | skip)
    | intro _

theorem execSheafLoadVerify_sound {pt : Part} (m : Crit) (s : State) (hs : s.Sound pt) : OutSound pt (execSheafLoadVerify m s) := by
  unfold execSheafLoadVerify
  repeat' first
    | with_reducible assumption | with_reducible apply outSound_next | with_reducible apply sheafLoad_sound

theorem execSheafLoadVerifyApply_sound {pt : Part} (m : Crit) (s : State) (hs : s.Sound pt) : OutSound pt (execSheafLoadVerifyApply m s) := by
  unfold execSheafLoadVerifyApply
  repeat' first
    | with_reducible assumption | with_reducible apply outSound_next | with_reducible apply sheafLoad_sound

theorem execSheafLoadApply_sound {pt : Part} (m : Crit) (s : State) (hs : s.Sound pt) : OutSound pt (execSheafLoadApply m s) := by
  unfold execSheafLoadApply
  repeat' first
    | with_reducible assumption | with_reducible apply outSound_next | with_reducible apply sheafLoad_sound

theorem execSheafLoadDiscard_sound {pt : Part} (m : Crit) (s : State) (hs : s.Sound pt) : OutSound pt (execSheafLoadDiscard m s) := by
  unfold execSheafLoadDiscard
  repeat' first
    | with_reducible assumption | with_reducible apply outSound_next | with_reducible apply sheafLoad_sound

theorem putDigest_sound {pt : Part} (s : State) (addr : Nat) (d : List Byte) (hs : s.Sound pt) : (State.putDigest s addr d).Sound pt := by
  unfold State.putDigest
  try dsimp only
  repeat' first
    | with_reducible assumption | with_reducible apply each_sound | with_reducible apply setWord_sound | with_reducible apply each_sound | intro _

theorem verified_sound {pt : Part} (s : State) (l : Load) (sh : Sheaf) (fail : Option Nat) (hs : s.Sound pt) : (State.verified s l sh fail).Sound pt := by
  unfold State.verified
  try dsimp only
  repeat' first
    | with_reducible assumption | split | with_reducible apply beginApply_sound | with_reducible apply critAck_sound
    | with_reducible apply critNack_sound | with_reducible apply putDigest_sound | with_reducible apply put_sound
    | ((with_reducible refine sound_mk ?_ ?_ ?_ ?_ ?_ ?_ ?_); rotate_left; all_goals first | rfl | exact Or.inl rfl | exact Or.inr rfl | skip)

theorem execVerifyDone_sound {pt : Part} (rest : Option Nat) (s : State) (link : LinkErrs) (hs : s.Sound pt) : OutSound pt (execVerifyDone rest s link) := by
  unfold execVerifyDone
  repeat' first
    | with_reducible assumption | with_reducible apply outSound_next | split | with_reducible apply dramReq_sound
    | with_reducible apply linkMeets_sound | with_reducible apply cutVerify_sound | with_reducible apply verified_sound
    | ((with_reducible refine sound_mk ?_ ?_ ?_ ?_ ?_ ?_ ?_); rotate_left; all_goals first | rfl | exact Or.inl rfl | exact Or.inr rfl | skip)

theorem beginFullCal_sound {pt : Part} (s : State) (k : Nat) (hs : s.Sound pt) : (State.beginFullCal s k).Sound pt := by
  unfold State.beginFullCal
  try dsimp only
  repeat' first
    | with_reducible assumption | with_reducible apply put_sound | with_reducible apply renewHeld_sound | with_reducible apply setCalChip_sound
    | ((with_reducible refine sound_mk ?_ ?_ ?_ ?_ ?_ ?_ ?_); rotate_left; all_goals first | rfl | exact Or.inl rfl | exact Or.inr rfl | skip)

theorem restChip_sound {pt : Part} (s : State) (k : Nat) (hs : s.Sound pt) : (State.restChip s k).Sound pt := by
  unfold State.restChip
  repeat' first
    | with_reducible assumption | with_reducible apply setCalChip_sound | with_reducible apply put_sound
    | with_reducible apply renewHeld_sound
    | ((with_reducible refine sound_mk ?_ ?_ ?_ ?_ ?_ ?_ ?_); rotate_left; all_goals first | rfl | exact Or.inl rfl | exact Or.inr rfl | skip)

theorem applyCal_sound {pt : Part} (s : State) (hs : s.Sound pt) : (State.applyCal s).Sound pt := by
  unfold State.applyCal
  try dsimp only
  repeat' first
    | with_reducible assumption | split | with_reducible apply beginFullCal_sound | with_reducible apply each_sound
    | with_reducible apply putFlag_sound | with_reducible apply restChip_sound | with_reducible apply each_sound
    | ((with_reducible refine sound_mk ?_ ?_ ?_ ?_ ?_ ?_ ?_); rotate_left; all_goals first | rfl | exact Or.inl rfl | exact Or.inr rfl | skip)
    | intro _

theorem showSheaf_sound {pt : Part} (s : State) (sh : Sheaf) (hs : s.Sound pt) : (State.showSheaf s sh).Sound pt := by
  unfold State.showSheaf
  try dsimp only
  repeat' first
    | with_reducible assumption | split | with_reducible apply each_sound | with_reducible apply putDigest_sound | with_reducible apply putFlag_sound
    | with_reducible apply put_sound | with_reducible apply each_sound | with_reducible apply foldl_sound | intro _

theorem loadBeams_sound {pt : Part} (s : State) (hs : s.Sound pt) : (State.loadBeams s).Sound pt := by
  unfold State.loadBeams
  try dsimp only
  repeat' first
    | with_reducible assumption | split | with_reducible apply each_sound | with_reducible apply setDram_sound | with_reducible apply each_sound
    | intro _

theorem slotsClear_sound {pt : Part} (s : State) (hs : s.Sound pt) : (State.slotsClear s).Sound pt := by
  unfold State.slotsClear
  try dsimp only
  repeat' first
    | with_reducible assumption | with_reducible apply each_sound | with_reducible apply setWord_sound | with_reducible apply each_sound
    | ((with_reducible refine sound_mk ?_ ?_ ?_ ?_ ?_ ?_ ?_); rotate_left; all_goals first | rfl | exact Or.inl rfl | exact Or.inr rfl | skip)
    | intro _

theorem loadFurrows_sound {pt : Part} (s : State) (hs : s.Sound pt) : (State.loadFurrows s).Sound pt := by
  unfold State.loadFurrows
  repeat' first
    | with_reducible assumption | with_reducible apply setGran_sound

theorem applyTake_sound {pt : Part} (s : State) (sh : Sheaf) (hs : s.Sound pt) : (State.applyTake s sh).Sound pt := by
  unfold State.applyTake
  try dsimp only
  repeat' first
    | with_reducible assumption | split | with_reducible apply put_sound | with_reducible apply showSheaf_sound
    | with_reducible apply txcApply_sound | with_reducible apply rxApply_sound | with_reducible apply cnvApply_sound
    | with_reducible apply tilApply_sound | with_reducible apply dpdApply_sound | with_reducible apply dmaApply_sound
    | with_reducible apply loadFurrows_sound | with_reducible apply loadBeams_sound | with_reducible apply beamStart_sound
    | with_reducible apply femIdleAll_sound | with_reducible apply tineIdleAll_sound | with_reducible apply applyCal_sound
    | with_reducible apply slotsClear_sound | with_reducible apply putDeg_sound | with_reducible apply putFlag_sound
    | with_reducible apply renewProt_sound
    | ((with_reducible refine sound_mk ?_ ?_ ?_ ?_ ?_ ?_ ?_); rotate_left; all_goals first | rfl | exact Or.inl rfl | exact Or.inr rfl | skip)

theorem execApplyDone_sound {pt : Part} (fault : Bool) (s : State) (link : LinkErrs) (hs : s.Sound pt) : OutSound pt (execApplyDone fault s link) := by
  unfold execApplyDone
  repeat' first
    | with_reducible assumption | with_reducible apply outSound_next | split | with_reducible apply failApply_sound
    | with_reducible apply dramReq_sound | with_reducible apply linkMeets_sound | with_reducible apply applyTake_sound
    | with_reducible apply critAck_sound
    | ((with_reducible refine sound_mk ?_ ?_ ?_ ?_ ?_ ?_ ?_); rotate_left; all_goals first | rfl | exact Or.inl rfl | exact Or.inr rfl | skip)

theorem endFullCal_sound {pt : Part} (s : State) (k : Nat) (hs : s.Sound pt) : (State.endFullCal s k).Sound pt := by
  unfold State.endFullCal
  try dsimp only
  repeat' first
    | with_reducible assumption | with_reducible apply setCalChip_sound | with_reducible apply put_sound | with_reducible apply each_sound
    | with_reducible apply calCounted_sound | with_reducible apply renewComp_sound | with_reducible apply renewHeld_sound
    | ((with_reducible refine sound_mk ?_ ?_ ?_ ?_ ?_ ?_ ?_); rotate_left; all_goals first | rfl | exact Or.inl rfl | exact Or.inr rfl | skip)
    | intro _

theorem execFullCalDone_sound {pt : Part} (s : State) (hs : s.Sound pt) : OutSound pt (execFullCalDone s) := by
  unfold execFullCalDone
  try dsimp only
  repeat' first
    | with_reducible assumption | with_reducible apply outSound_next | split | with_reducible apply each_sound | with_reducible apply endFullCal_sound
    | with_reducible apply put_sound | with_reducible apply each_sound
    | ((with_reducible refine sound_mk ?_ ?_ ?_ ?_ ?_ ?_ ?_); rotate_left; all_goals first | rfl | exact Or.inl rfl | exact Or.inr rfl | skip)
    | intro _

theorem dutyOpen_sound {pt : Part} (s : State) (hs : s.Sound pt) : (State.dutyOpen s).Sound pt := by
  unfold State.dutyOpen
  try dsimp only
  repeat' first
    | with_reducible assumption | split
    | ((with_reducible refine sound_mk ?_ ?_ ?_ ?_ ?_ ?_ ?_); rotate_left; all_goals first | rfl | exact Or.inl rfl | exact Or.inr rfl | skip)
    | intro _

theorem execStart_sound {pt : Part} (m : Crit) (s : State) (hs : s.Sound pt) : OutSound pt (execStart m s) := by
  unfold execStart
  try dsimp only
  repeat' first
    | with_reducible assumption | with_reducible apply outSound_next | split | with_reducible apply mplane_sound
    | with_reducible apply critical_sound | with_reducible apply refuseRun_sound | with_reducible apply dutyOpen_sound
    | with_reducible apply srExit_sound | with_reducible apply put_sound | with_reducible apply critAck_sound
    | ((with_reducible refine sound_mk ?_ ?_ ?_ ?_ ?_ ?_ ?_); rotate_left; all_goals first | rfl | exact Or.inl rfl | exact Or.inr rfl | skip)
    | intro _

theorem stopRun_sound {pt : Part} (s : State) (a : Asker) (f : Nat) (hs : s.Sound pt) : (State.stopRun s a f).Sound pt := by
  unfold State.stopRun
  try dsimp only
  repeat' first
    | with_reducible assumption | split | with_reducible apply critAck_sound | with_reducible apply put_sound | with_reducible apply refuseRun_sound
    | ((with_reducible refine sound_mk ?_ ?_ ?_ ?_ ?_ ?_ ?_); rotate_left; all_goals first | rfl | exact Or.inl rfl | exact Or.inr rfl | skip)

theorem stopStarting_sound {pt : Part} (s : State) (a : Asker) (f : Nat) (hs : s.Sound pt) : (State.stopStarting s a f).Sound pt := by
  unfold State.stopStarting
  try dsimp only
  repeat' first
    | with_reducible assumption | split | with_reducible apply critAck_sound | with_reducible apply critNack_sound | with_reducible apply put_sound
    | with_reducible apply stopReady_sound | with_reducible apply winnowFrom_sound
    | ((with_reducible refine sound_mk ?_ ?_ ?_ ?_ ?_ ?_ ?_); rotate_left; all_goals first | rfl | exact Or.inl rfl | exact Or.inr rfl | skip)

theorem execStop_sound {pt : Part} (m : Crit) (s : State) (hs : s.Sound pt) : OutSound pt (execStop m s) := by
  unfold execStop
  try dsimp only
  repeat' first
    | with_reducible assumption | with_reducible apply outSound_next | split | with_reducible apply critAck_sound
    | with_reducible apply critical_sound | with_reducible apply mplane_sound | with_reducible apply put_sound | with_reducible apply refuseRun_sound
    | with_reducible apply stopReady_sound | with_reducible apply stopRun_sound | with_reducible apply stopStarting_sound | intro _

theorem kovfClear_sound {pt : Part} (s : State) (hs : s.Sound pt) : (State.kovfClear s).Sound pt := by
  unfold State.kovfClear
  try dsimp only
  repeat' first
    | with_reducible assumption
    | ((with_reducible refine sound_mk ?_ ?_ ?_ ?_ ?_ ?_ ?_); rotate_left; all_goals first | rfl | exact Or.inl rfl | exact Or.inr rfl | skip)

theorem execRunPrepare_sound {pt : Part} (s : State) (hs : s.Sound pt) : OutSound pt (execRunPrepare s) := by
  unfold execRunPrepare
  repeat' first
    | with_reducible assumption | with_reducible apply outSound_next | split | with_reducible apply beamStart_sound
    | with_reducible apply dpdStart_sound | with_reducible apply kovfClear_sound | with_reducible apply tilStart_sound
    | with_reducible apply txcStart_sound

theorem outputsIdle_sound {pt : Part} (s : State) (hs : s.Sound pt) : (State.outputsIdle s).Sound pt := by
  unfold State.outputsIdle
  try dsimp only
  repeat' first
    | with_reducible assumption | with_reducible apply cnvIdle_sound | with_reducible apply rxIdle_sound
    | with_reducible apply femIdleAll_sound | with_reducible apply tineIdleAll_sound | with_reducible apply allBiasSafe_sound
    | ((with_reducible refine sound_mk ?_ ?_ ?_ ?_ ?_ ?_ ?_); rotate_left; all_goals first | rfl | exact Or.inl rfl | exact Or.inr rfl | skip)

theorem faultDue_sound {pt : Part} (s : State) (hs : s.Sound pt) : (State.faultDue s).Sound pt := by
  unfold State.faultDue
  try dsimp only
  repeat' first
    | with_reducible assumption | split | with_reducible apply outputsIdle_sound | with_reducible apply put_sound
    | with_reducible apply toFaulted_sound
    | ((with_reducible refine sound_mk ?_ ?_ ?_ ?_ ?_ ?_ ?_); rotate_left; all_goals first | rfl | exact Or.inl rfl | exact Or.inr rfl | skip)

theorem execRunStart_sound {pt : Part} (s : State) (hs : s.Sound pt) : OutSound pt (execRunStart s) := by
  unfold execRunStart
  extract_lets t
  have ht : t.Sound pt := frontStart_sound _ (rxStart_sound _ (cnvStart_sound _ hs))
  clear_value t
  split
  · exact outSound_next (faultDue_sound _ (startSegment_sound _ (put_sound _ _ _ (sound_mk ht rfl rfl rfl rfl rfl (.inl rfl)))))
  · exact outSound_next hs

theorem execStopBoundary_sound {pt : Part} (s : State) (hs : s.Sound pt) : OutSound pt (execStopBoundary s) := by
  unfold execStopBoundary
  try dsimp only
  repeat' first
    | with_reducible assumption | with_reducible apply outSound_next | split | with_reducible apply dpdSettle_sound
    | with_reducible apply dropContent_sound | with_reducible apply muteStopFrom_sound | with_reducible apply winnowFrom_sound
    | ((with_reducible refine sound_mk ?_ ?_ ?_ ?_ ?_ ?_ ?_); rotate_left; all_goals first | rfl | exact Or.inl rfl | exact Or.inr rfl | skip)

theorem execStopComplete_sound {pt : Part} (s : State) (hs : s.Sound pt) : OutSound pt (execStopComplete s) := by
  unfold execStopComplete
  try dsimp only
  repeat' first
    | with_reducible assumption | with_reducible apply outSound_next | split | with_reducible apply faultDue_sound
    | with_reducible apply outputsIdle_sound | with_reducible apply stopReady_sound

theorem stopAtStep_sound {pt : Part} (s : State) (hs : s.Sound pt) : (State.stopAtStep s).Sound pt := by
  unfold State.stopAtStep
  try dsimp only
  repeat' first
    | with_reducible assumption | split | with_reducible apply outputsIdle_sound
    | ((with_reducible refine sound_mk ?_ ?_ ?_ ?_ ?_ ?_ ?_); rotate_left; all_goals first | rfl | exact Or.inl rfl | exact Or.inr rfl | skip)

theorem furrowFault_sound {pt : Part} (s : State) (n : Nat) (hs : s.Sound pt) : (State.furrowFault s n).Sound pt := by
  unfold State.furrowFault
  try dsimp only
  repeat' first
    | with_reducible assumption | split | with_reducible apply alarm_sound | with_reducible apply muteStopFrom_sound
    | with_reducible apply runFault_sound
    | ((with_reducible refine sound_mk ?_ ?_ ?_ ?_ ?_ ?_ ?_); rotate_left; all_goals first | rfl | exact Or.inl rfl | exact Or.inr rfl | skip)

theorem overranges_sound {pt : Part} (s : State) (ovl : List Nat) (hs : s.Sound pt) : (State.overranges s ovl).Sound pt := by
  unfold State.overranges
  repeat' first
    | with_reducible assumption | with_reducible apply each_sound | with_reducible apply countBy_sound
    | intro _

theorem execSubframeBoundary_sound {pt : Part} (corrected : Nat) (bad : Bool) (s : State) (ovl : List Nat) (word : Nat) (hs : s.Sound pt) : OutSound pt (execSubframeBoundary corrected bad s ovl word) := by
  unfold execSubframeBoundary
  try dsimp only
  repeat' first
    | with_reducible assumption | with_reducible apply outSound_next | split | with_reducible apply overranges_sound
    | with_reducible apply stopAtStep_sound | with_reducible apply faultDue_sound | with_reducible apply put_sound
    | with_reducible apply countBy_sound | with_reducible apply granEcc_sound | with_reducible apply furrowFault_sound

theorem execKeepaliveExpiry_sound {pt : Part} (s : State) (hs : s.Sound pt) : OutSound pt (execKeepaliveExpiry s) := by
  unfold execKeepaliveExpiry
  try dsimp only
  repeat' first
    | with_reducible assumption | with_reducible apply outSound_next | split | with_reducible apply alarm_sound | with_reducible apply tally_sound
    | ((with_reducible refine sound_mk ?_ ?_ ?_ ?_ ?_ ?_ ?_); rotate_left; all_goals first | rfl | exact Or.inl rfl | exact Or.inr rfl | skip)

theorem execKeepaliveMuteLift_sound {pt : Part} (s : State) (hs : s.Sound pt) : OutSound pt (execKeepaliveMuteLift s) := by
  unfold execKeepaliveMuteLift
  try dsimp only
  repeat' first
    | with_reducible assumption | with_reducible apply outSound_next | split
    | ((with_reducible refine sound_mk ?_ ?_ ?_ ?_ ?_ ?_ ?_); rotate_left; all_goals first | rfl | exact Or.inl rfl | exact Or.inr rfl | skip)

theorem execStepMuteRelease_sound {pt : Part} (s : State) (hs : s.Sound pt) : OutSound pt (execStepMuteRelease s) := by
  unfold execStepMuteRelease
  try dsimp only
  repeat' first
    | with_reducible assumption | with_reducible apply outSound_next | with_reducible apply put_sound
    | ((with_reducible refine sound_mk ?_ ?_ ?_ ?_ ?_ ?_ ?_); rotate_left; all_goals first | rfl | exact Or.inl rfl | exact Or.inr rfl | skip)

theorem execNoOperation_sound {pt : Part} (a : Act) (s : State) (hs : s.Sound pt) : OutSound pt (execNoOperation a s) := by
  unfold execNoOperation
  try dsimp only
  repeat' first
    | with_reducible assumption | with_reducible apply outSound_next | with_reducible apply onFire_sound | intro _

theorem execLinkPlacementOpen_sound {pt : Part} (serve : BitVec 2) (car slotT sym : Nat) (kind : BitVec 3) (s : State) (hs : s.Sound pt) : OutSound pt (execLinkPlacementOpen serve car slotT sym kind s) := by
  unfold execLinkPlacementOpen
  try dsimp only
  repeat' first
    | with_reducible assumption | with_reducible apply outSound_next | with_reducible apply onFire_sound
    | ((with_reducible refine sound_mk ?_ ?_ ?_ ?_ ?_ ?_ ?_); rotate_left; all_goals first | rfl | exact Or.inl rfl | exact Or.inr rfl | skip)
    | intro _

theorem dropOrphans_sound {pt : Part} (s : State) (car slotT sym : Nat) (hs : s.Sound pt) : (State.dropOrphans s car slotT sym).Sound pt := by
  unfold State.dropOrphans
  try dsimp only
  repeat' first
    | with_reducible assumption | with_reducible apply countBy_sound
    | ((with_reducible refine sound_mk ?_ ?_ ?_ ?_ ?_ ?_ ?_); rotate_left; all_goals first | rfl | exact Or.inl rfl | exact Or.inr rfl | skip)
    | intro _

theorem fillShort_sound {pt : Part} (s : State) (car slotT sym : Nat) (hs : s.Sound pt) : (State.fillShort s car slotT sym).Sound pt := by
  unfold State.fillShort
  try dsimp only
  repeat' first
    | with_reducible assumption | split | with_reducible apply countBy_sound | with_reducible apply setSym_sound
    | ((with_reducible refine sound_mk ?_ ?_ ?_ ?_ ?_ ?_ ?_); rotate_left; all_goals first | rfl | exact Or.inl rfl | exact Or.inr rfl | skip)
    | intro _

theorem execLinkPlacementClose_sound {pt : Part} (serve : BitVec 2) (car slotT sym : Nat) (kind : BitVec 3) (s : State) (hs : s.Sound pt) : OutSound pt (execLinkPlacementClose serve car slotT sym kind s) := by
  unfold execLinkPlacementClose
  try dsimp only
  repeat' first
    | with_reducible assumption | with_reducible apply outSound_next | split | with_reducible apply dropOrphans_sound
    | with_reducible apply fillShort_sound | with_reducible apply onFire_sound
    | ((with_reducible refine sound_mk ?_ ?_ ?_ ?_ ?_ ?_ ?_); rotate_left; all_goals first | rfl | exact Or.inl rfl | exact Or.inr rfl | skip)
    | intro _

end Sys2Proof.Machine
end

