-- ==== Sys2Proof/Laws/SoundHost.lean ====
section
/-! SUPPORT. Sound states: register access, the remaining planes, security and the idle cycle keep `State.Sound`. -/

set_option linter.unusedTactic false
set_option linter.unreachableTactic false
set_option linter.unusedVariables false

namespace Sys2Proof.Machine

-- Machine/HostRegs.lean

theorem eff_sound {pt : Part} (s : State) (f : State → Out) (hs : s.Sound pt) (hf : ∀ (x0 : State), x0.Sound pt → OutSound pt (f x0)) : (State.eff s f).Sound pt := by
  unfold State.eff
  try dsimp only
  repeat' first
    | with_reducible assumption | with_reducible apply outSound_next | split | apply hf
    | ((with_reducible refine sound_mk ?_ ?_ ?_ ?_ ?_ ?_ ?_); rotate_left; all_goals first | rfl | exact Or.inl rfl | exact Or.inr rfl | skip)
    | intro _

theorem execCounterRead_sound {pt : Part} (s : State) (hs : s.Sound pt) : OutSound pt (execCounterRead s) := by
  unfold execCounterRead
  repeat' first
    | with_reducible assumption | with_reducible apply outSound_next | with_reducible apply put_sound

theorem readCapture_sound {pt : Part} (s : State) (a n : Nat) (hs : s.Sound pt) : (State.readCapture s a n).Sound pt := by
  unfold State.readCapture
  repeat' first
    | with_reducible assumption | split | with_reducible apply readNow_sound | with_reducible apply eff_sound
    | with_reducible apply execBankReadI_sound | with_reducible apply execDescriptorRead_sound | with_reducible apply slotRead_sound
    | with_reducible apply put_sound | with_reducible apply execCounterRead_sound
    | exact fun _ h => execTallyWindowRead_sound _ _ _ h

theorem hostRead_sound {pt : Part} (s : State) (addr : Nat) (hs : s.Sound pt) : (s.hostRead addr).2.Sound pt := by
  unfold State.hostRead
  split
  · exact hs
  · exact ite_sound (eff_sound _ _ (readCapture_sound _ _ _ hs) (fun x h => execBankReadQ_sound x h)) (readCapture_sound _ _ _ hs)

theorem regStore_sound {pt : Part} (s : State) (addr : Nat) (d : RegDesc) (v : Word) (hs : s.Sound pt) : (State.regStore s addr d v).Sound pt := by
  unfold State.regStore
  try dsimp only
  repeat' first
    | with_reducible assumption | split | with_reducible apply timClear_sound | with_reducible apply setWord_sound

theorem sleepWrite_sound {pt : Part} (s : State) (v : Word) (hs : s.Sound pt) : (State.sleepWrite s v).Sound pt := by
  unfold State.sleepWrite
  try dsimp only
  repeat' first
    | with_reducible assumption | split | with_reducible apply each_sound | with_reducible apply eff_sound | with_reducible apply execLaneSleep_sound
    | with_reducible apply execLaneWake_sound | with_reducible apply each_sound | intro _

theorem laneWrite_sound {pt : Part} (s : State) (n : Nat) (was : Bool) (v : Word) (hs : s.Sound pt) : (State.laneWrite s n was v).Sound pt := by
  unfold State.laneWrite
  try dsimp only
  repeat' first
    | with_reducible assumption | split | with_reducible apply eff_sound | with_reducible apply execBitslip_sound
    | with_reducible apply execLaneDisable_sound | with_reducible apply execLaneRetrain_sound

theorem tileClear_sound {pt : Part} (s : State) (v : Word) (hs : s.Sound pt) : (State.tileClear s v).Sound pt := by
  unfold State.tileClear
  try dsimp only
  repeat' first
    | with_reducible assumption | with_reducible apply setTile_sound
    | ((with_reducible refine sound_mk ?_ ?_ ?_ ?_ ?_ ?_ ?_); rotate_left; all_goals first | rfl | exact Or.inl rfl | exact Or.inr rfl | skip)

theorem writeAction_sound {pt : Part} (s t : State) (a n : Nat) (v : Word) (hs : s.Sound pt) (ht : t.Sound pt) : (State.writeAction s t a n v).Sound pt := by
  unfold State.writeAction
  extract_lets x
  clear_value x
  refine ite_sound (ite_sound (softWrite_sound _ _ ht) ht) ?_
  refine ite_sound (ite_sound (servoOff_sound _ ht) ht) ?_
  refine ite_sound (ite_sound (sound_mk ht rfl rfl rfl rfl rfl (.inl rfl)) ht) ?_
  refine ite_sound (ite_sound (eff_sound _ _ (ite_sound (eff_sound _ _ ht (fun x h => execUpRestart_sound x h)) ht) (fun x h => execCasRestart_sound x h))
    (ite_sound (eff_sound _ _ ht (fun x h => execUpRestart_sound x h)) ht)) ?_
  refine ite_sound (sleepWrite_sound _ _ ht) ?_
  refine ite_sound (laneWrite_sound _ _ _ _ ht) ?_
  refine ite_sound (ite_sound hs ht) ?_
  refine ite_sound (calWrite_sound _ _ _ ht) ?_
  refine ite_sound (ite_sound (calRelease_sound _ _ ht) ht) ?_
  refine ite_sound (ite_sound (fsbGo_sound _ _ ht) ht) ?_
  refine ite_sound (each_sound _ _ _ ht (fun _ _ h => tripClear_sound _ _ h)) ?_
  refine ite_sound (each_sound _ _ _ ht (fun _ _ h => tripClear_sound _ _ h)) ?_
  refine ite_sound (each_sound _ _ _ ht (fun _ _ h => latchClear_sound _ _ h)) ?_
  refine ite_sound (tileClear_sound _ _ ht) ?_
  refine ite_sound (ite_sound (eff_sound _ _ (ite_sound ht (srExit_sound _ _ ht)) (fun x h => execDramTrain_sound x h)) (ite_sound ht (srExit_sound _ _ ht))) ?_
  refine ite_sound (eff_sound _ _ ht (fun x h => execDescriptorStore_sound _ x h)) ?_
  refine ite_sound (ite_sound (eff_sound _ _ (ite_sound (eff_sound _ _ ht (fun x h => execDmaClear_sound _ x h)) ht) (fun x h => execDmaGo_sound _ x h))
    (ite_sound (eff_sound _ _ ht (fun x h => execDmaClear_sound _ x h)) ht)) ?_
  refine ite_sound (eff_sound _ _ ht (fun x h => execRingLengthWrite_sound _ _ x h)) ?_
  refine ite_sound (eff_sound _ _ ht (fun x h => execRingAck_sound _ _ x h)) ?_
  refine ite_sound (ite_sound (monCal_sound _ ht) ht) ?_
  refine ite_sound (ite_sound (urgentGo_sound _ _ ht) ht) ?_
  exact ite_sound (monRelease_sound _ ht) ht

theorem hostWrite_sound {pt : Part} (s : State) (addr : Nat) (v : Word) (hs : s.Sound pt) : (State.hostWrite s addr v).Sound pt := by
  unfold State.hostWrite
  try dsimp only
  repeat' first
    | with_reducible assumption | split | with_reducible apply regStore_sound | with_reducible apply writeAction_sound
    | ((with_reducible refine sound_mk ?_ ?_ ?_ ?_ ?_ ?_ ?_); rotate_left; all_goals first | rfl | exact Or.inl rfl | exact Or.inr rfl | skip)

theorem execRegisterWrite_sound {pt : Part} (addr value : BitVec 32) (s : State) (hs : s.Sound pt) : OutSound pt (execRegisterWrite addr value s) := by
  unfold execRegisterWrite
  repeat' first
    | with_reducible assumption | with_reducible apply outSound_next | split | with_reducible apply hostWrite_sound

theorem readRegs_sound {pt : Part} : ∀ (n : Nat) (s : State) (addr : Nat), s.Sound pt → (s.readRegs n addr).2.Sound pt
  | 0, _, _, hs => hs
  | n + 1, s, addr, hs => readRegs_sound n _ _ (hostRead_sound s addr hs)

theorem writeRegs_sound {pt : Part} : ∀ (l : List Word) (s : State) (addr : Nat), s.Sound pt → (s.writeRegs addr l).Sound pt
  | [], _, _, hs => hs
  | v :: r, s, addr, hs => writeRegs_sound r _ _ (hostWrite_sound s addr v hs)

theorem execRegRead_sound {pt : Part} (m : Msg) (s : State) (hs : s.Sound pt) : OutSound pt (execRegRead m s) := by
  unfold execRegRead
  refine mplane_sound _ _ _ _ _ hs ?_
  split
  · rename_i h; exact ofRxDone_sound h (rx_sound _ _ _ _ hs)
  · rename_i t h
    have ht := ofRxTake_sound h (rx_sound _ _ _ _ hs)
    split
    · exact nackAt_sound _ _ _ _ ht
    · split
      · exact nack_sound _ _ _ ht
      · exact ackIf_sound _ _ _ _ _ _ (transmit_sound _ _ _ _ _ _ _ _ (readRegs_sound _ _ _ (passed_sound _ _ _ ht)))

theorem execRegWrite_sound {pt : Part} (m : Msg) (s : State) (hs : s.Sound pt) : OutSound pt (execRegWrite m s) := by
  unfold execRegWrite
  refine mplane_sound _ _ _ _ _ hs ?_
  split
  · rename_i h; exact ofRxDone_sound h (rxVia_sound _ _ _ _ _ _ hs (fun _ _ h => forwardMsg_sound _ _ _ _ _ h))
  · rename_i t h
    have ht := ofRxTake_sound h (rxVia_sound _ _ _ _ _ _ hs (fun _ _ h => forwardMsg_sound _ _ _ _ _ h))
    clear h
    dsimp only
    split
    · exact nackAt_sound _ _ _ _ ht
    · exact ackIf_sound _ _ _ _ _ _ (writeRegs_sound _ _ _ (passed_sound _ _ _ ht))

-- Machine/Plane.lean

theorem execKeepalive_sound {pt : Part} (m : Msg) (s : State) (hs : s.Sound pt) : OutSound pt (execKeepalive m s) := by
  unfold execKeepalive
  try dsimp only
  repeat' first
    | with_reducible assumption | with_reducible apply outSound_next | split | with_reducible apply ackIf_sound | with_reducible apply mplane_sound
    | with_reducible apply passed_sound | refine ofRxDone_sound (by assumption) ?_ | refine ofRxTake_sound (by assumption) ?_
    | with_reducible apply rx_sound | with_reducible apply rxVia_sound | with_reducible apply forwardMsg_sound
    | ((with_reducible refine sound_mk ?_ ?_ ?_ ?_ ?_ ?_ ?_); rotate_left; all_goals first | rfl | exact Or.inl rfl | exact Or.inr rfl | skip)

theorem execAckOrNackReceived_sound {pt : Part} (nack : Bool) (m : Msg) (s : State) (hs : s.Sound pt) : OutSound pt (execAckOrNackReceived nack m s) := by
  unfold execAckOrNackReceived
  try dsimp only
  repeat' first
    | with_reducible assumption | with_reducible apply outSound_next | split | with_reducible apply mplane_sound | with_reducible apply nack_sound
    | with_reducible apply passed_sound | refine ofRxDone_sound (by assumption) ?_ | refine ofRxTake_sound (by assumption) ?_
    | with_reducible apply rx_sound | with_reducible apply rxVia_sound | with_reducible apply forwardMsg_sound
    | ((with_reducible refine sound_mk ?_ ?_ ?_ ?_ ?_ ?_ ?_); rotate_left; all_goals first | rfl | exact Or.inl rfl | exact Or.inr rfl | skip)

theorem refuseCrit_sound {pt : Part} (s : State) (m : Msg) (hs : s.Sound pt) : (State.refuseCrit s m).Sound pt := by
  unfold State.refuseCrit
  try dsimp only
  repeat' first
    | with_reducible assumption | split | with_reducible apply forwardMsg_sound | with_reducible apply nackAt_sound
    | refine ofRxDone_sound (by assumption) ?_ | refine ofRxTake_sound (by assumption) ?_ | with_reducible apply rx_sound
    | with_reducible apply rxVia_sound | with_reducible apply forwardMsg_sound
    | ((with_reducible refine sound_mk ?_ ?_ ?_ ?_ ?_ ?_ ?_); rotate_left; all_goals first | rfl | exact Or.inl rfl | exact Or.inr rfl | skip)
    | intro _

theorem execUnknownType_sound {pt : Part} (plane typ : Byte) (m : Msg) (s : State) (hs : s.Sound pt) : OutSound pt (execUnknownType plane typ m s) := by
  unfold execUnknownType
  try dsimp only
  repeat' first
    | with_reducible assumption | with_reducible apply outSound_next | split | with_reducible apply mplane_sound
    | with_reducible apply refuseCrit_sound | refine ofRxDone_sound (by assumption) ?_ | refine ofRxTake_sound (by assumption) ?_
    | with_reducible apply rx_sound | with_reducible apply rxVia_sound | with_reducible apply forwardMsg_sound
    | ((with_reducible refine sound_mk ?_ ?_ ?_ ?_ ?_ ?_ ?_); rotate_left; all_goals first | rfl | exact Or.inl rfl | exact Or.inr rfl | skip)

theorem execForward_sound {pt : Part} (plane typ : Byte) (m : Msg) (res : Nat) (s : State) (hs : s.Sound pt) : OutSound pt (execForward plane typ m res s) := by
  have h := rxVia_sound s plane.toNat typ.toNat m true
    (fun q s => if plane.toNat = 4 then (if m.ptpType = 0 then s.latchCfg else s).forwardPtp q m res else s.forwardMsg q plane.toNat typ.toNat m) hs
    (fun q t ht => ite_sound (forwardPtp_sound _ _ _ _ (ite_sound (latchCfg_sound _ ht) ht)) (forwardMsg_sound _ _ _ _ _ ht))
  unfold execForward
  extract_lets p y
  split
  · exact outSound_next hs
  · exact outSound_next hs
  · split
    · rename_i t e; exact outSound_next (ofRxDone_sound e h)
    · exact outSound_next hs

theorem execHcrcHunt_sound {pt : Part} (port : Port) (bytes : List Byte) (s : State) (hs : s.Sound pt) : OutSound pt (execHcrcHunt port bytes s) := by
  unfold execHcrcHunt
  repeat' first
    | with_reducible assumption | with_reducible apply outSound_next | split | with_reducible apply feed_sound

theorem execAlarmRelease_sound {pt : Part} (code : BitVec 16) (s : State) (hs : s.Sound pt) : OutSound pt (execAlarmRelease code s) := by
  unfold execAlarmRelease
  try dsimp only
  repeat' first
    | with_reducible assumption | with_reducible apply outSound_next | split | with_reducible apply transmit_sound
    | ((with_reducible refine sound_mk ?_ ?_ ?_ ?_ ?_ ?_ ?_); rotate_left; all_goals first | rfl | exact Or.inl rfl | exact Or.inr rfl | skip)

theorem execNackLost_sound {pt : Part} (s : State) (hs : s.Sound pt) : OutSound pt (execNackLost s) := by
  unfold execNackLost
  try dsimp only
  repeat' first
    | with_reducible assumption | with_reducible apply outSound_next | split | with_reducible apply answer_sound
    | ((with_reducible refine sound_mk ?_ ?_ ?_ ?_ ?_ ?_ ?_); rotate_left; all_goals first | rfl | exact Or.inl rfl | exact Or.inr rfl | skip)

-- Machine/Security.lean

theorem secBegin_sound {pt : Part} (s : State) (a : Asker) (op : SecOp) (hs : s.Sound pt) : (State.secBegin s a op).Sound pt := by
  unfold State.secBegin
  try dsimp only
  repeat' first
    | with_reducible assumption | with_reducible apply put_sound
    | ((with_reducible refine sound_mk ?_ ?_ ?_ ?_ ?_ ?_ ?_); rotate_left; all_goals first | rfl | exact Or.inl rfl | exact Or.inr rfl | skip)

theorem secCommand_sound {pt : Part} (s : State) (a : Asker) (op : SecOp) (refusal : Option Nat) (hs : s.Sound pt) : (State.secCommand s a op refusal).Sound pt := by
  unfold State.secCommand
  try dsimp only
  repeat' first
    | with_reducible assumption | split | with_reducible apply critNack_sound | with_reducible apply secBegin_sound
    | ((with_reducible refine sound_mk ?_ ?_ ?_ ?_ ?_ ?_ ?_); rotate_left; all_goals first | rfl | exact Or.inl rfl | exact Or.inr rfl | skip)

theorem secEnd_sound {pt : Part} (s : State) (hs : s.Sound pt) : (State.secEnd s).Sound pt := by
  unfold State.secEnd
  try dsimp only
  repeat' first
    | with_reducible assumption | with_reducible apply put_sound
    | ((with_reducible refine sound_mk ?_ ?_ ?_ ?_ ?_ ?_ ?_); rotate_left; all_goals first | rfl | exact Or.inl rfl | exact Or.inr rfl | skip)

theorem execEnvelopeChange_sound {pt : Part} (m : Crit) (s : State) (hs : s.Sound pt) : OutSound pt (execEnvelopeChange m s) := by
  unfold execEnvelopeChange
  try dsimp only
  repeat' first
    | with_reducible assumption | with_reducible apply outSound_next | split | with_reducible apply critical_sound | with_reducible apply mplane_sound
    | with_reducible apply secCommand_sound | intro _

theorem execKeyEnroll_sound {pt : Part} (m : Crit) (s : State) (hs : s.Sound pt) : OutSound pt (execKeyEnroll m s) := by
  unfold execKeyEnroll
  try dsimp only
  repeat' first
    | with_reducible assumption | with_reducible apply outSound_next | with_reducible apply critical_sound | with_reducible apply mplane_sound
    | with_reducible apply secCommand_sound | intro _

theorem execKeyRevoke_sound {pt : Part} (m : Crit) (s : State) (hs : s.Sound pt) : OutSound pt (execKeyRevoke m s) := by
  unfold execKeyRevoke
  try dsimp only
  repeat' first
    | with_reducible assumption | with_reducible apply outSound_next | split | with_reducible apply mplane_sound
    | with_reducible apply critical_sound | with_reducible apply secCommand_sound
    | ((with_reducible refine sound_mk ?_ ?_ ?_ ?_ ?_ ?_ ?_); rotate_left; all_goals first | rfl | exact Or.inl rfl | exact Or.inr rfl | skip)
    | intro _

theorem execRekey_sound {pt : Part} (m : Crit) (s : State) (hs : s.Sound pt) : OutSound pt (execRekey m s) := by
  unfold execRekey
  try dsimp only
  repeat' first
    | with_reducible assumption | with_reducible apply outSound_next | split | with_reducible apply critNack_sound
    | with_reducible apply critical_sound | with_reducible apply mplane_sound | with_reducible apply secBegin_sound
    | with_reducible apply security_sound
    | ((with_reducible refine sound_mk ?_ ?_ ?_ ?_ ?_ ?_ ?_); rotate_left; all_goals first | rfl | exact Or.inl rfl | exact Or.inr rfl | skip)
    | intro _

theorem execFwInstall_sound {pt : Part} (m : Crit) (s : State) (hs : s.Sound pt) : OutSound pt (execFwInstall m s) := by
  unfold execFwInstall
  try dsimp only
  repeat' first
    | with_reducible assumption | with_reducible apply outSound_next | split | with_reducible apply critical_sound | with_reducible apply mplane_sound
    | with_reducible apply secCommand_sound | intro _

theorem execFwConfirm_sound {pt : Part} (m : Crit) (s : State) (hs : s.Sound pt) : OutSound pt (execFwConfirm m s) := by
  unfold execFwConfirm
  try dsimp only
  repeat' first
    | with_reducible assumption | with_reducible apply outSound_next | split | with_reducible apply critical_sound | with_reducible apply mplane_sound
    | with_reducible apply secCommand_sound | intro _

theorem execLockWrite_sound {pt : Part} (m : Crit) (s : State) (hs : s.Sound pt) : OutSound pt (execLockWrite m s) := by
  unfold execLockWrite
  try dsimp only
  repeat' first
    | with_reducible assumption | with_reducible apply outSound_next | split | with_reducible apply critical_sound | with_reducible apply mplane_sound
    | with_reducible apply secCommand_sound | intro _

theorem writeLock_sound {pt : Part} (s : State) (l : LockCopy) (fails : Bool) (a : Asker) (cmd : Nat) (f : State → State) (hs : s.Sound pt) (hf : ∀ (x0 : State), x0.Sound pt → (f x0).Sound pt) : (State.writeLock s l fails a cmd f).Sound pt := by
  unfold State.writeLock
  try dsimp only
  repeat' first
    | with_reducible assumption | split | with_reducible apply fresh_sound | with_reducible apply secFail_sound
    | with_reducible apply secShow_sound | apply hf
    | ((with_reducible refine sound_mk ?_ ?_ ?_ ?_ ?_ ?_ ?_); rotate_left; all_goals first | rfl | exact Or.inl rfl | exact Or.inr rfl | skip)

theorem unstage_sound {pt : Part} (s : State) (hs : s.Sound pt) : (State.unstage s).Sound pt := by
  unfold State.unstage
  try dsimp only
  repeat' first
    | with_reducible assumption | split | with_reducible apply put_sound
    | ((with_reducible refine sound_mk ?_ ?_ ?_ ?_ ?_ ?_ ?_); rotate_left; all_goals first | rfl | exact Or.inl rfl | exact Or.inr rfl | skip)

theorem withImage_sound {pt : Part} (s : State) (a : Asker) (kind len : Nat) (link : LinkErrs) (f : List Byte → State → State) (hs : s.Sound pt) (hf : ∀ (x0 : List Byte) (x1 : State), x1.Sound pt → (f x0 x1).Sound pt) : (State.withImage s a kind len link f).Sound pt := by
  unfold State.withImage
  try dsimp only
  repeat' first
    | with_reducible assumption | split | with_reducible apply critNack_sound | with_reducible apply dramReq_sound
    | with_reducible apply linkMeets_sound | apply hf
    | ((with_reducible refine sound_mk ?_ ?_ ?_ ?_ ?_ ?_ ?_); rotate_left; all_goals first | rfl | exact Or.inl rfl | exact Or.inr rfl | skip)

theorem envelopeDone_sound {pt : Part} (s : State) (a : Asker) (b : List Byte) (fails : Bool) (hs : s.Sound pt) : (State.envelopeDone s a b fails).Sound pt := by
  unfold State.envelopeDone
  try dsimp only
  repeat' first
    | with_reducible assumption | split | with_reducible apply biasSafe_sound | with_reducible apply critAck_sound
    | with_reducible apply critNack_sound | with_reducible apply each_sound | with_reducible apply unstage_sound
    | with_reducible apply writeLock_sound | with_reducible apply each_sound
    | ((with_reducible refine sound_mk ?_ ?_ ?_ ?_ ?_ ?_ ?_); rotate_left; all_goals first | rfl | exact Or.inl rfl | exact Or.inr rfl | skip)
    | intro _

theorem enrollDone_sound {pt : Part} (s : State) (a : Asker) (b : List Byte) (fails : Bool) (hs : s.Sound pt) : (State.enrollDone s a b fails).Sound pt := by
  unfold State.enrollDone
  try dsimp only
  repeat' first
    | with_reducible assumption | split | with_reducible apply critAck_sound | with_reducible apply critNack_sound
    | with_reducible apply unstage_sound | with_reducible apply writeLock_sound
    | ((with_reducible refine sound_mk ?_ ?_ ?_ ?_ ?_ ?_ ?_); rotate_left; all_goals first | rfl | exact Or.inl rfl | exact Or.inr rfl | skip)
    | intro _

theorem installDone_sound {pt : Part} (s : State) (a : Asker) (b : List Byte) (fails : Bool) (hs : s.Sound pt) : (State.installDone s a b fails).Sound pt := by
  unfold State.installDone
  try dsimp only
  repeat' first
    | with_reducible assumption | split | with_reducible apply critAck_sound | with_reducible apply secFail_sound
    | ((with_reducible refine sound_mk ?_ ?_ ?_ ?_ ?_ ?_ ?_); rotate_left; all_goals first | rfl | exact Or.inl rfl | exact Or.inr rfl | skip)

theorem confirmDone_sound {pt : Part} (s : State) (a : Asker) (raise fails : Bool) (hs : s.Sound pt) : (State.confirmDone s a raise fails).Sound pt := by
  unfold State.confirmDone
  try dsimp only
  repeat' first
    | with_reducible assumption | split | with_reducible apply critAck_sound | with_reducible apply put_sound | with_reducible apply secFail_sound
    | ((with_reducible refine sound_mk ?_ ?_ ?_ ?_ ?_ ?_ ?_); rotate_left; all_goals first | rfl | exact Or.inl rfl | exact Or.inr rfl | skip)

theorem putKey_sound {pt : Part} (s : State) (good : Bool) (key : List Byte) (hs : s.Sound pt) : (State.putKey s good key).Sound pt := by
  unfold State.putKey
  repeat' first
    | with_reducible assumption | split
    | ((with_reducible refine sound_mk ?_ ?_ ?_ ?_ ?_ ?_ ?_); rotate_left; all_goals first | rfl | exact Or.inl rfl | exact Or.inr rfl | skip)

theorem secDone_sound {pt : Part} (s : State) (op : SecOp) (a : Asker) (fails : Bool) (link : LinkErrs) (hs : s.Sound pt) : (State.secDone s op a fails link).Sound pt := by
  unfold State.secDone
  try dsimp only
  repeat' first
    | with_reducible assumption | split | with_reducible apply withImage_sound | with_reducible apply envelopeDone_sound
    | with_reducible apply enrollDone_sound | with_reducible apply writeLock_sound | with_reducible apply unstage_sound
    | with_reducible apply critAck_sound | with_reducible apply putKey_sound | with_reducible apply secFail_sound
    | with_reducible apply setLast_sound | with_reducible apply installDone_sound | with_reducible apply confirmDone_sound
    | ((with_reducible refine sound_mk ?_ ?_ ?_ ?_ ?_ ?_ ?_); rotate_left; all_goals first | rfl | exact Or.inl rfl | exact Or.inr rfl | skip)
    | intro _

theorem execSecurityOpDone_sound {pt : Part} (fails : Bool) (s : State) (link : LinkErrs) (hs : s.Sound pt) : OutSound pt (execSecurityOpDone fails s link) := by
  unfold execSecurityOpDone
  repeat' first
    | with_reducible assumption | with_reducible apply outSound_next | split | with_reducible apply secEnd_sound
    | with_reducible apply secDone_sound
    | ((with_reducible refine sound_mk ?_ ?_ ?_ ?_ ?_ ?_ ?_); rotate_left; all_goals first | rfl | exact Or.inl rfl | exact Or.inr rfl | skip)

theorem flushQueue_sound {pt : Part} : ∀ (l : List TalEvent) (s : State), l.length ≤ 64 → s.Sound pt → (s.flushQueue l).Sound pt
  | [], _, _, hs => hs
  | e :: q, s, hl, hs => by
    have hq : q.length ≤ 64 := by simp only [List.length_cons] at hl; omega
    exact flushQueue_sound q _ hq (writeEvent_sound _ _ _ (setQueue_sound _ _ hs hq))

theorem clearLog_sound {pt : Part} (s : State) (a : Asker) (ctr : Nat) (report : MediaReport) (hs : s.Sound pt) :
    (s.clearLog a ctr report).Sound pt := by
  unfold State.clearLog
  extract_lets t e x u
  have ht : t.Sound pt := flushQueue_sound _ _ hs.bounded.2.1 hs
  have hu : u.Sound pt := writeEvent_sound _ _ _ (sound_mk ht rfl rfl rfl rfl rfl (.inl rfl))
  split
  · exact critNack_sound _ _ _ hu
  · exact critAck_sound _ _ (put_sound _ _ _ hu)

theorem execLogClear_sound {pt : Part} (m : Crit) (report : MediaReport) (s : State) (hs : s.Sound pt) : OutSound pt (execLogClear m report s) := by
  unfold execLogClear
  try dsimp only
  repeat' first
    | with_reducible assumption | with_reducible apply outSound_next | split | with_reducible apply clearLog_sound
    | with_reducible apply critNack_sound | with_reducible apply critical_sound | with_reducible apply mplane_sound
    | ((with_reducible refine sound_mk ?_ ?_ ?_ ?_ ?_ ?_ ?_); rotate_left; all_goals first | rfl | exact Or.inl rfl | exact Or.inr rfl | skip)
    | intro _

theorem execTreeBuildDone_sound {pt : Part} (s : State) (hs : s.Sound pt) : OutSound pt (execTreeBuildDone s) := by
  unfold execTreeBuildDone
  try dsimp only
  repeat' first
    | with_reducible assumption | with_reducible apply outSound_next | split | with_reducible apply attestShow_sound
    | ((with_reducible refine sound_mk ?_ ?_ ?_ ?_ ?_ ?_ ?_); rotate_left; all_goals first | rfl | exact Or.inl rfl | exact Or.inr rfl | skip)

theorem execAttestReq_sound {pt : Part} (m : Msg) (s : State) (hs : s.Sound pt) : OutSound pt (execAttestReq m s) := by
  unfold execAttestReq
  try dsimp only
  repeat' first
    | with_reducible assumption | with_reducible apply outSound_next | split | with_reducible apply ackIf_sound
    | with_reducible apply attestShow_sound | with_reducible apply mplane_sound | with_reducible apply nackAt_sound
    | with_reducible apply passed_sound | refine ofRxDone_sound (by assumption) ?_ | refine ofRxTake_sound (by assumption) ?_
    | with_reducible apply rx_sound | with_reducible apply rxVia_sound | with_reducible apply forwardMsg_sound
    | ((with_reducible refine sound_mk ?_ ?_ ?_ ?_ ?_ ?_ ?_); rotate_left; all_goals first | rfl | exact Or.inl rfl | exact Or.inr rfl | skip)

theorem reserveIndices_sound {pt : Part} (s : State) (hs : s.Sound pt) : (State.reserveIndices s).Sound pt := by
  unfold State.reserveIndices
  try dsimp only
  repeat' first
    | with_reducible assumption | split | with_reducible apply put_sound
    | ((with_reducible refine sound_mk ?_ ?_ ?_ ?_ ?_ ?_ ?_); rotate_left; all_goals first | rfl | exact Or.inl rfl | exact Or.inr rfl | skip)

theorem useIndex_sound {pt : Part} (s : State) (hs : s.Sound pt) : (State.useIndex s).Sound pt := by
  unfold State.useIndex
  try dsimp only
  repeat' first
    | with_reducible assumption | split | with_reducible apply count_sound | with_reducible apply put_sound | with_reducible apply security_sound

theorem execAttestReport_sound {pt : Part} (limitFails : Bool) (s : State) (hs : s.Sound pt) : OutSound pt (execAttestReport limitFails s) := by
  unfold execAttestReport
  try dsimp only
  repeat' first
    | with_reducible assumption | with_reducible apply outSound_next | split | with_reducible apply attestShow_sound
    | with_reducible apply transmit_sound | with_reducible apply loftFailed_sound | with_reducible apply security_sound
    | with_reducible apply nack_sound | with_reducible apply reserveIndices_sound | with_reducible apply useIndex_sound
    | ((with_reducible refine sound_mk ?_ ?_ ?_ ?_ ?_ ?_ ?_); rotate_left; all_goals first | rfl | exact Or.inl rfl | exact Or.inr rfl | skip)

-- Machine/Idle.lean

theorem optimeCycle_sound {pt : Part} (s : State) (hs : s.Sound pt) : (State.optimeCycle s).Sound pt := by
  unfold State.optimeCycle
  try dsimp only
  repeat' first
    | with_reducible assumption | split | with_reducible apply put_sound
    | ((with_reducible refine sound_mk ?_ ?_ ?_ ?_ ?_ ?_ ?_); rotate_left; all_goals first | rfl | exact Or.inl rfl | exact Or.inr rfl | skip)

theorem idle_sound {pt : Part} (s : State) (hs : s.Sound pt) : (State.idle s).Sound pt := by
  unfold State.idle
  repeat' first
    | with_reducible assumption | split | with_reducible apply timeCycle_sound | with_reducible apply optimeCycle_sound
    | with_reducible apply drainAnswer_sound | with_reducible apply outOne_sound | with_reducible apply serveRead_sound
    | with_reducible apply srEnter_sound | with_reducible apply extractsLand_sound | with_reducible apply each_sound
    | with_reducible apply fsbDue_sound
    | intro _

end Sys2Proof.Machine
end

