-- ==== Sys2Proof/WellFormed.lean ====
section
/-! DEFINITION. Well-formed commands: operands that name something the spec numbers, and byte strings of the lengths that the spec fixes.
A command that is not well-formed stands for no event of the hardware; its meaning is total all the same. -/

namespace Sys2Proof.Machine

/-- The body fills the message that LEN_W measures (R169): 16 header bytes, the body, 4 trailer bytes. -/
def Msg.wf (m : Msg) : Bool := m.body.length + 20 == 8 * m.lenW.toNat

/-- PARAMS has PLEN bytes, of which a row implies the first `disc`, and TAG 16 (R203); both fit the message. -/
def Crit.wf (disc : Nat) (m : Crit) : Bool :=
  m.tail.length + disc == m.plen.toNat && m.tag.length == 16 && decide (m.plen.toNat + 52 ≤ 8 * m.lenW.toNat)

/-- A marker of eight bytes on a receive half (R149). -/
def Marker.wf (x : Marker) : Bool := decide (x.lane < 24) && x.bytes.length == 8

/-- An immediate count runs from 1 to 65,536 (R376, R377). -/
def TCount.wf (c : TCount) : Bool :=
  match c with
  | .imm n => decide (1 ≤ n ∧ n ≤ 65536)
  | .k _ => true

end Sys2Proof.Machine

namespace Sys2Proof

open Sys2Proof.Machine

/-- A command is well-formed. -/
def Instr.wf (i : Instr) : Bool :=
  match i with
  | .railFault rail => decide (rail < 14)
  | .dramTrainingDone _ lanes => lanes.length == 8
  | .sbLoad _ data => data.length == 256
  | .sync m _ _ _ => m.wf
  | .followUp m => m.wf
  | .delayResp m => m.wf
  | .announce m => m.wf
  | .sheafLoadVerify m => m.wf 1
  | .sheafLoadVerifyApply m => m.wf 1
  | .sheafLoadApply m => m.wf 1
  | .sheafLoadDiscard m => m.wf 1
  | .verifyDone rest _ => (match rest with | none => true | some r => decide (4 ≤ r ∧ r ≤ 9))
  | .start m => m.wf 0
  | .stop m => m.wf 0
  | .linkPlacementOpen _ car _ sym _ => decide (car < 8) && decide (sym < 14)
  | .linkPlacementClose _ car _ sym _ => decide (car < 8) && decide (sym < 14)
  | .adaptDone gleaner buf _ => decide (gleaner < 8) && decide (buf < 16)
  | .captureEnd gleaner _ _ => decide (gleaner < 8)
  | .biasRangeSwitchDone out => decide (out < 128)
  | .fsbChainStart bus => decide (bus < 4)
  | .fsbFrameDone bus _ _ => decide (bus < 4)
  | .tineReadback chain _ => decide (chain < 16)
  | .tineIdleStrobe chain => decide (chain < 16)
  | .recomputeDone car _ => decide (car < 8)
  | .synLockLoss chiplet => decide (chiplet < 4)
  | .synRelockRetry chiplet => decide (chiplet < 4)
  | .calStart chiplet => decide (chiplet < 4)
  | .calComplete chiplet => decide (chiplet < 4)
  | .calAbort chiplet => decide (chiplet < 4)
  | .calHeldRelease chiplet => decide (chiplet < 4)
  | .alertInputRise input _ => decide (input < 8)
  | .alertInputFall input _ => decide (input < 8)
  | .tripClear path => decide (path < 64)
  | .latchClear input => decide (input < 8)
  | .laneSignalDetect lane => decide (lane < 24)
  | .laneDetectTimeout lane _ => decide (lane < 24)
  | .laneTrainDone lane _ => decide (lane < 24)
  | .laneBitLock lane => decide (lane < 24)
  | .laneBlockLock lane _ => decide (lane < 24)
  | .laneAligned lane logical => decide (lane < 24) && decide (logical < 16)
  | .capabilityBlock _ lane block => decide (lane < 24) && block.length == 8
  | .alignmentMarker _ markers => markers.all Marker.wf
  | .laneLossOfLock lane _ _ => decide (lane < 24)
  | .laneRetrainRetry lane => decide (lane < 24)
  | .laneSleep lane => decide (lane < 24)
  | .laneWake lane => decide (lane < 24)
  | .laneWakeTimeout lane => decide (lane < 24)
  | .bitslip lane => decide (lane < 24)
  | .laneRetrain lane => decide (lane < 24)
  | .laneDisable lane => decide (lane < 24)
  | .forward _ _ m _ => m.wf
  | .dlData m => m.wf
  | .partialSum m => m.wf
  | .dlSections m => m.wf
  | .ulSections m => m.wf
  | .beamWrite m _ => m.wf
  | .amend m => m.wf
  | .revoke m => m.wf
  | .powerStep m => m.wf
  | .femState m => m.wf
  | .tineWeights m => m.wf
  | .soundReq m => m.wf
  | .keepalive m => m.wf
  | .regRead m => m.wf
  | .regWrite m => m.wf
  | .attestReq m => m.wf
  | .envelopeChange m => m.wf 0
  | .keyEnroll m => m.wf 1
  | .keyRevoke m => m.wf 1
  | .rekey m => m.wf 0
  | .logClear m _ => m.wf 0
  | .fwInstall m => m.wf 1
  | .fwConfirm m => m.wf 1
  | .lockWrite m => m.wf 0
  | .dWrite m _ => m.wf
  | .dRead m _ _ => m.wf
  | .dEnd m _ _ => m.wf
  | .dmaGo channel => decide (channel < 16)
  | .dmaClear channel => decide (channel < 16)
  | .ringLengthWrite channel _ => decide (channel < 16)
  | .ringAck channel _ => decide (channel < 16)
  | .dmaBurst _ _ lane => decide (lane < 24)
  | .dramRetrainDone lanes => lanes.length == 8
  | .loftWriteDone _ _ words _ => decide (1 ≤ words.length ∧ words.length ≤ 8)
  | .tileLoop _ _ c n => c.wf && decide (1 ≤ n ∧ n ≤ 4096)
  | .tileRepeat _ _ c => c.wf
  | .tileXin _ _ _ _ _ n => decide (1 ≤ n ∧ n ≤ 16384)
  | .tileXout _ _ _ _ _ n => decide (1 ≤ n ∧ n ≤ 16384)
  | .trainingControlBlock lane block _ _ => decide (lane < 24) && block.length == 8
  | .terminationDetect lane => decide (lane < 24)
  | .synthesizerRelock chiplet => decide (chiplet < 4)
  | .unknownType _ _ m => m.wf
  | .ptpMessageDiscarded m => m.wf
  | .ackOrNackReceived _ m => m.wf
  | .dramFullTrainingDone lanes => lanes.length == 8
  | .railPowerLoss _ | .uvAccepted _ | .ovAccepted _ | .powerOnReset _ | .thermalTrip _ _ | .resetNAssert _ | .resetRelease _ _
  | .softReset _ | .refclkPresent _ _ | .recoveryImageLoaded _ | .loftChecksDone _ _ _ _ | .sbBoot _ | .sbReset _ _ | .tallySeek _
  | .jtagBypass _ | .jtagSamplePreload _ _ | .jtagExtest _ _ | .ppsInEdge _ | .fsyncEdge _ | .fctlFrameDone _ | .applyDone _ _
  | .subframeBoundary _ _ _ _ | .noOperation _ | .fetch _ _ _ | .recomputeFetch _ _ _ | .kernelStart _ _ _ | .kernelCheck _ | .cfrSelect _
  | .dpdSelect _ | .commit _ | .adapt _ | .setNcoTx _ | .setNcoRx _ | .dacQuiet _ | .dacActive _ | .tone _ | .converterBoundary _
  | .setAttn _ | .setFilter _ | .agcStep _ _ | .extract _ _ | .rxSettingBoundary _ | .capture _ | .biasStage _ | .biasStrobe _
  | .biasBoundary _ | .femPhase _ | .femChangeInstant _ | .fsbSend _ | .fsbGo _ | .tineSend _ | .tineStrobe _ | .convert _
  | .dmaOpen _ | .dmaClose _ | .calWindowOpen _ _ | .calWindowClose _ | .uCPlaneTransmission _ _ | .playout _ _ | .horizon _
  | .engineWindow _ _ | .enginePassDone _ _ | .partialSumClose _ | .covar _ _ | .solve _ | .place _ | .calRequest _ _
  | .powerStepBoundary _ | .protectBoundary _ | .bringupTimeout _ | .bringupRetry _ | .markerTransmit _ | .hcrcHunt _ _
  | .registerWrite _ _ | .alarmRelease _ | .attestReport _ | .securityOpDone _ _ | .descriptorStore _ | .conversionDone _ | .urgentGo _
  | .refreshWindow _ | .mr4Poll _ _ | .selfRefreshExit _ | .granaryScrub _ _ | .tallyScanDone _ _ _ | .tallyRecordWrite _
  | .tallyWindowRead _ _ | .slotResultRead _ | .xferDone _ | .tileResume _ | .tileLdv _ _ _ _ | .tileLdb _ _ _ _ | .tileSld _ _ _ _
  | .tileStv _ _ _ _ | .tileSst _ _ _ _ | .tileCmac _ _ _ _ _ _ _ _ _ | .tileAccrd _ _ _ _ _ _ | .tileAccadd _ _ _ _ _ _
  | .tileAccst _ _ _ _ | .tileAccld _ _ _ _ _ _ | .tileVadd _ _ _ _ _ | .tileVsub _ _ _ _ _ | .tileVneg _ _ _ _ | .tileVconj _ _ _ _
  | .tileVshr _ _ _ _ _ | .tileVshl _ _ _ _ _ | .tileVsel _ _ _ _ _ _ | .tileVshuf _ _ _ _ _ | .tileVmov _ _ _ _
  | .tileBfly _ _ _ _ _ _ _ _ | .tileSclr _ _ _ | .tileSmax _ _ _ _ | .tileSmin _ _ _ _ | .tileSred _ _ _ _ | .tileSmov _ _ _ _
  | .tileSadd _ _ _ _ _ | .tileSsub _ _ _ _ _ | .tileSand _ _ _ _ _ | .tileSor _ _ _ _ _ | .tileSxor _ _ _ _ _ | .tileSshl _ _ _ _ _
  | .tileSshr _ _ _ _ _ | .tileSclz _ _ _ _ | .tileScsel _ _ _ _ _ _ _ _ | .tileAmov _ _ _ _ | .tileAadd _ _ _ _ | .tileEnd _ _
  | .tileNop _ _ | .tileXwait _ _ | .timingInputGlitch _ | .vinQualified | .railGroupGood | .railRetry | .thermalRestart | .watchdog
  | .firmwareRestartDone | .refclkLate | .slotVerifyDone _ _ | .sbStatus | .tallyOpen | .tallyRead _ _ | .tallyClose | .tallySessionTimeout
  | .exchangeTimeout | .syncTimeout | .announceTimeout | .holdoverLimit | .servoDisable | .ppsOutRise | .ppsOutFall | .fullCalDone
  | .runPrepare | .runStart | .stopBoundary | .stopComplete | .keepaliveExpiry | .keepaliveMuteLift | .stepMuteRelease | .upRestart
  | .casRestart | .segmentStatusChange | .nackLost | .treeBuildDone | .descriptorRead | .barrierRelease | .scanPassStart | .monCal
  | .dramTrain | .selfRefreshEntry | .tallyClearDone | .optimePersist | .mediaClear | .timeRead | .counterRead | .bankReadI
  | .bankReadQ => true

end Sys2Proof
end

