-- ==== Sys2Proof/Tests/Slice0.lean ====
section
/-! SUPPORT. Tests: states to start from, the spec's worked examples, an ill-formed command for each check of WellFormed.lean, and for each
clause of each statement a state and operands that meet its hypotheses (the theorems `witness_…`). -/

open Sys2Proof Sys2Proof.Machine

set_option Elab.async false

namespace Sys2Proof.Tests

-- States and messages to start from


/-- The state after reset with the first fields of the list written. -/
def st (l : List (Fld × Nat)) : State := State.reset.each l (fun p s => s.put p.1 p.2)

/-- Both ports ACTIVE at revision 3, position 0. -/
def linked : List (Fld × Nat) :=
  [(R.LNK_PSTAT.UP_STATE, 4), (R.LNK_PSTAT.CAS_STATE, 4), (R.LNK_PROTO.UP_REV, 3), (R.LNK_PROTO.CAS_REV, 3), (R.LNK_PROTO.POS_VALID, 1)]

/-- A message with LEN_W, HCRC and trailer as R169 and R170 make them; revision 3, from the host where it comes on the upstream port. -/
def msgOf (port : Port) (plane typ dest : Nat) (ack : Bool) (air : BitVec 32) (body : List Byte) : Msg :=
  let lw := lenWords body.length
  let b := body ++ List.replicate (8 * lw - 20 - body.length) 0
  let m : Msg := ⟨port, if ack then 7 else 3, 0, BitVec.ofNat 8 dest, if port = .up then 0x80 else 1, 5, air, BitVec.ofNat 16 lw, 0, b, 0⟩
  { m with hcrc := crc16 (m.hdrBytes plane typ), crc := crc32c b }

/-- A CRITICAL command for position 0 with the counter 9 and its tag under the state's key. -/
def critOf (s : State) (cmd : Nat) (disc tail : List Byte) : Crit :=
  let n := disc.length + tail.length
  let c : Crit := ⟨.up, 3, 0, 0, 0x80, 5, 0, BitVec.ofNat 16 (lenWords (32 + n)), 0, BitVec.ofNat 16 n, 0, 9, tail, List.replicate 16 0, 0, false⟩
  let d := { c with tag := s.commandTag (c.body cmd disc) n }
  { d with hcrc := crc16 ((d.msg cmd disc).hdrBytes 1 6), crc := crc32c (d.msg cmd disc).body }

def railUp (g : Nat) : State := { State.reset with vaon := { State.reset.vaon with seq := .group g, attempts := 2 } }
def railsOff : State := { State.reset with vaon := { State.reset.vaon with seq := .off } }
def railWait : State := { State.reset with vaon := { State.reset.vaon with seq := .retryWait } }
/-- Out of reset, an image running, with the fields of the list written. -/
def awake (l : List (Fld × Nat)) : State :=
  { st l with boot := { (st l).boot with inReset := false, image := some ⟨1, [], 0⟩ }, vaon := { (st l).vaon with coldPending := false } }
def clocked : State := { awake [] with tim := { running := true, cycles := 7 } }
def thermAgain : State := { awake [] with vaon := { (awake []).vaon with thermalRestart := true } }
def railLatched : State := { State.reset with vaon := { State.reset.vaon with seq := .latched } }
def thermOff : State := { State.reset with vaon := { State.reset.vaon with seq := .off, thermalOff := true } }
def restarting : State := { awake linked with boot := { (awake linked).boot with restarting := true, heldMsgs := [.sbStatus] } }
def recovering : State := { awake [] with boot := { (awake []).boot with recovering := true } }
def stage7 : State := { awake [(R.SYS_BOOTSTAT.STAGE, 1)] with boot := { (awake []).boot with sbRecovery := true } }
def stage2 : State := { awake [(R.SYS_BOOTSTAT.STAGE, 2)] with boot := { (awake []).boot with attempt := [(false, false), (true, false)] } }
def talOpen (l : List (Fld × Nat)) : State := { awake l with tal := { (awake l).tal with session := true, cursor := (0, 3) } }
def talStale : State := { talOpen [(R.TAL_STAT.FROZEN, 1)] with tim := { running := true, cycles := 491520000 } }
def talQueued : State := (awake [(R.TAL_STAT.STATE, 1)]).tally 0x0010 [1, 2, 3]
def noCtl : State := { awake [] with loft := { (awake []).loft with bytes := [] } }
/-- A PTP message of a type with its sequenceId and time, and what stands behind byte 44. -/
def ptpOf (typ : Nat) (twoStep : Bool) (rest : List Byte) : Msg :=
  msgOf .up 4 1 0 false 0 ([1, 0] ++ beBytes 2 (44 + rest.length) ++ leBytes 4 0
    ++ ([BitVec.ofNat 8 typ, 2] ++ beBytes 2 (44 + rest.length) ++ [0, 0, if twoStep then 2 else 0, 0] ++ beBytes 8 0x10000 ++ leBytes 4 0
      ++ [1, 2, 3, 4, 5, 6, 7, 8, 0, 1] ++ beBytes 2 77 ++ [0, 0] ++ beBytes 6 1000 ++ beBytes 4 500) ++ rest)
def exchOf (reqId : Nat) (t1 : Option Int) (resp : Option (Int × Int)) : Exchange := ⟨77, [1, 2, 3, 4, 5, 6, 7, 8, 0, 1], reqId, 0, t1, 0, 1000, 2000, resp⟩
/-- Linked, the tick clock at 1,000 s, with one exchange. -/
def timed (l : List (Fld × Nat)) (e : List Exchange) : State :=
  { awake (linked ++ l) with tim := { running := true, cycles := 491520000, now := ⟨1000, 0, 0⟩, exch := e } }
def annText : List Byte := List.replicate 9 0 ++ [9, 9, 9, 9, 9, 9, 9, 9] ++ [0, 0, 0]
def fctlBusy : State := { clocked with tim := { clocked.tim with fctl := some 5, fctlNext := some 9, fctlNaks := 7 } }
def fctlLast : State := { clocked with tim := { clocked.tim with fctl := some 5 } }
def ppsReady : State := { clocked with tim := { clocked.tim with ppsReady := true } }
def ppsHigh : State := { clocked with tim := { clocked.tim with ppsReady := true, ppsOut := true, cycles := 49152007, ppsRise := some 7 } }
def config (s : State) (l : List (Fld × Nat)) : State :=
  { s with tim := { s.tim with cfg := l.foldl (fun m p => sparseSet (resetWord s.part p.1.addr) m p.1.addr (p.1.insert (sparseGet (resetWord s.part p.1.addr) m p.1.addr) p.2)) s.tim.cfg } }
def ppsD : Int := (config (timed [] []) [(R.TIM_CTRL.PPS_MODE, 1)]).stamp 256 % nsFine 1000000000 - nsFine 1000000000
def otherMaster : State := { timed [(R.TIM_STATUS.STATE, 2)] [] with tim := { (timed [] []).tim with gm := some [1], annLog := some 0 } }

/-- `n` zero bytes with the given bytes at their offsets. -/
def blk (n : Nat) (l : List (Nat × List Byte)) : List Byte :=
  l.foldl (fun b p => b.take p.1 ++ p.2 ++ b.drop (p.1 + p.2.length)) (List.replicate n 0)
def recordOf (typ : Nat) (b : List Byte) : List Byte := leBytes 2 typ ++ leBytes 2 b.length ++ b
/-- One carrier of 2 PRBs at 30 kHz, 4 downlink layers, budget 8; a ring of depth 2; every path receives; further records behind. -/
def smallSheaf (recs : List (Nat × List Byte)) (sects : List (Nat × List Byte)) : Sheaf :=
  { hdr := blk 256 [(32, [4]), (40, [1]), (42, [50])]
    sects := [(1, recordOf 1 (blk 32 [(0, [0, 1, 1, 4, 2]), (12, [8])]) ++ recordOf 2 (blk 32 [(0, [2, 1, 0])])
                ++ recordOf 7 (blk 128 [(24, [0xFF, 0xFF, 0xFF, 0xFF, 0xFF, 0xFF, 0xFF, 0xFF])]) ++ (recs.map (fun r => recordOf r.1 r.2)).flatten),
              (3, [5]), (6, (List.replicate 20 [0, 0, 0, 4, 0, 0, 0, 0]).flatten)] ++ sects
    digest := List.replicate 32 0 }
/-- READY with a sheaf applied at 1,000 s, linked. -/
def ready (sh : Sheaf) (l : List (Fld × Nat)) : State :=
  { awake (linked ++ [(R.SHF_STATE.RUN, 2), (R.TXC_RUNAHEAD.DEPTH, 2), (R.TXC_RUNAHEAD.ERATE, 1), (R.LNK_DEG.UP_DL, 4), (R.LNK_DEG.UP_UL, 4),
      (R.SHF_STATE.CAL_DONE, 1), (R.TIM_STATUS.LOCK, 1), (R.MEM_DSTAT.STATE, 2)] ++ l) with
    tim := { running := true, cycles := 491520000, now := ⟨1000, 0, 0⟩ }
    shf := { applied := some sh } }
/-- The same, RUNNING since 10 frames. -/
def playing (sh : Sheaf) (l : List (Fld × Nat)) : State :=
  { ready sh (l ++ [(R.SHF_STATE.RUN, 4)]) with shf := { applied := some sh, startAt := 491520000000 - 49152000 } }
def sheaf0 : Sheaf := smallSheaf [] [(5, (List.replicate 8 [0x80, 0x21, 0x02, 0x20, 0x40, 0, 0, 0]).flatten)]
def play : State := playing sheaf0 []
def act (car unit arg : Nat) : Act := ⟨0, BitVec.ofNat 3 car, BitVec.ofNat 8 unit, BitVec.ofNat 23 arg⟩
def askerOf : Asker := ⟨.up, 0x80, 5, 1, 6, 0⟩
def stagedState (l : List (Fld × Nat)) : State :=
  { ready sheaf0 l with shf := { applied := some sheaf0, stagedOk := true, staged := some sheaf0, applying := some askerOf } }
def loadable : State := { ready sheaf0 [] with shf := { applied := some sheaf0, stagedOk := true, staged := some sheaf0 } }
def verifying : State := { ready sheaf0 [] with shf := { verifying := some ⟨true, askerOf, true⟩ } }
def calibrating : State := { ready sheaf0 [] with shf := { applied := some sheaf0, calPending := [0, 3] } }
def starting : State := { play.put R.SHF_STATE.RUN 3 with shf := { applied := some sheaf0, startAt := 491520000000 + 491520 } }
def startRun (n : Nat) : State := starting.put R.SHF_STATE.RUN n
def stopping : State := { (play.put R.SHF_STATE.RUN 5) with shf := { play.shf with stopAt := some (491520000000 + 491520), tail := true } }
def kaState : State := { play with shf := { play.shf with keepalive := some 5, kaLift := some 9 }, txc := { play.txc with muteKa := none } }
/-- A section of the first symbol of the present slot. -/
def sectOf (dl : Bool) (id layer : Nat) (beam : Option Nat) : Sect := ⟨dl, 0, 491520000000, 0, id, 0, 2, layer, 0, beam, 0, false, 0, false, []⟩
def heldOf (id : Nat) : HeldData := ⟨askerOf, false, 0, 491520000000, 0, id, 0, 0, 0, ⟨0, 1, []⟩⟩
def withContent : State := { play with con := { sects := [sectOf true 3 0 none, sectOf true 4 1 (some 6), sectOf false 5 0 none], data := [heldOf 3, heldOf 9] } }
def awaiting : State := withContent.setSym 0 491520000000 (fun r => { r with await := true })
def engReady : State := { play with
  txc := { play.txc with syms := [(symKey 0 491520000000, { ready := true })], eng := [(491520000000, { ckpt := true })], restart := false } }
def engBusy (stale : Bool) : State := { play with txc := { play.txc with eng := [(491520000000, { ckpt := true, busy := 1, stale := stale })], restart := false } }
def overranged : State := play.put (R.CNV_PATHSTAT_n.RX_ON 1) 1
/-- Layer 1 of the downlink is not carried. -/
def shedding : State := withContent.put R.LNK_DEG.UP_DL 1
def engMuted : State := { engReady with txc := { engReady.txc with muteKa := some ⟨0, none⟩ } }
def rxWaits : State := { play with rxc := { pend := [⟨3, 7, 491520000000, 9⟩, ⟨4, 0, 491520000100, 2⟩] } }
def soundRec (beams : List (List (Int × List (Int × Int)))) : Sounding :=
  ⟨0, 0, 491520000000, none, 1, 1, 2, false, 0x40, List.replicate 24 (List.replicate 64 (100, 20)), beams, false, false, [], 0⟩
def sounding (beams : List (List (Int × List (Int × Int)))) : State := { play with rxc := { sounds := [soundRec beams] } }
def soundCached : State := { play with rxc := { cacheHeld := [(0x22040, [1, 2])] } }
def extractMem : Extraction := ⟨0, 3, 0, 491519000000, 2, [5, -7], true, 0⟩
def extractingMem : State := { play with rxc := { extracts := [extractMem] } }
def requested : State := { play with rxc := { sounds := [{ soundRec [] with desc := 1, req := some askerOf, y := [] }] } }
def answered : Sounding := { soundRec [[(1, [])]] with req := some askerOf }
def answering : State := { play with rxc := { sounds := [answered] } }
def extracting : State := { withContent with rxc := { extracts := [⟨2, 0, 0, 491520000000, 2, [], false, 0⟩] } }

def dpdSheaf : Sheaf :=
  smallSheaf [(5, 0 :: List.replicate 63 0xFF), (4, blk 16 [(1, [2])]), (6, blk 32 [(0, [4]), (12, [0, 0x10])])]
    [(5, (List.replicate 8 [0x80, 0x21, 0x02, 0x20, 0x40, 0, 0, 0]).flatten)]
def bankOf (changed : Bool) (fail : Nat) : BankSet := { cur := [(1, 2)], prev := [(3, 4)], shadow := [(5, 6)], ver := 255, changed := changed, fail := fail }
def dpdState (changed : Bool) (fail : Nat) : State := { playing dpdSheaf [] with dpd := { banks := [(0, bankOf changed fail)] } }
def capOf : CapRun := ⟨1, 9, 2, 0, false, 491520000064, false, false, 0⟩
def capturing : State := { play with dpd := { caps := [capOf] } }
def adaptOf (void : Nat) : AdaptRun := ⟨0, 0, void, 491520000000⟩
def adapting (void : Nat) : State := { playing dpdSheaf [] with dpd := { banks := [(0, { bankOf false 0 with ver := 0 })], adapts := [adaptOf void] } }
def adaptRes : AdaptResult := ⟨0, (0, 0), [(1, 0), (-1, 2)]⟩
/-- A capture whose one sample, its first, is aligned with its reference. -/
def adaptAt : State :=
  let s : State := { playing dpdSheaf [] with dpd := { banks := [(0, { bankOf false 0 with ver := 0 })], adapts := [adaptOf 0] } }
  { s with mem := { gran := [(0x3C00005, 1), (0x3C00040, 0xE8), (0x3C00041, 3), (0x3C00844, 0xE8), (0x3C00845, 3)] } }
def oneZ : List (Int × Int) := (1000, 0) :: List.replicate 511 (0, 0)
def oneY : List (Int × Int) := (0, 0) :: (1000, 0) :: List.replicate 512 (0, 0)
theorem fold_zeros (f : Nat → Int × Int) (r : Int × Int) :
    ∀ l : List ((Int × Int) × Nat), (∀ x ∈ l, x.1 = (0, 0)) → l.foldl (fun r x => cadd r (cmul x.1 (f x.2))) r = r
  | [], _ => rfl
  | x :: l, h => by
    have : cadd r (cmul x.1 (f x.2)) = r := by rw [h x List.mem_cons_self]; simp [cadd, cmul]
    rw [List.foldl_cons, this]
    exact fold_zeros f r l (fun y hy => h y (List.mem_cons_of_mem _ hy))
theorem corr_one (y : List (Int × Int)) (span : Nat) (j : Int) :
    corr2 oneZ y span j = cnorm (cmul (1000, 0) (cconj (cAt y (-j + (span : Int)).toNat))) := by
  unfold corr2 oneZ
  rw [show ((1000, 0) :: List.replicate 511 ((0 : Int), (0 : Int))).length = 511 + 1 by rw [List.length_cons, List.length_replicate], List.range_succ_eq_map, List.zip_cons_cons, List.foldl_cons,
    fold_zeros (fun k => cconj (cAt y ((k : Int) - j + (span : Int)).toNat))]
  · simp [cadd, cmul]
  · intro x hx
    exact List.eq_of_mem_replicate (List.of_mem_zip hx).1
theorem oneZ_length : oneZ.length = 512 := by unfold oneZ; rw [List.length_cons, List.length_replicate]
theorem align_one : alignAt oneZ oneY 1 = 0 := by
  simp only [alignAt, corr_one]
  decide +kernel
theorem ys_one : ((List.range 512).map (fun (i : Nat) => cnorm (cAt oneY ((i : Int) - 0 + ((1 : Nat) : Int)).toNat))).sum = 1000000 := by
  decide +kernel
theorem alignOk_one (dir : Bool) : alignOk oneZ oneY 1 dir = true := by
  unfold alignOk
  simp only [align_one, corr_one, oneZ_length]
  rw [ys_one]
  cases dir <;> decide +kernel
theorem two_at {α : Type} (f : Nat → α) (n k : Nat) (h : k + 2 ≤ n) : (((List.range n).map f).drop k).take 2 = [f k, f (k + 1)] := by
  apply List.ext_getElem <;> simp
  · omega
  · intro i h1 h2
    have : i = 0 ∨ i = 1 := by omega
    rcases this with rfl | rfl <;> simp
theorem stream_at (s : State) (a n : Nat) : s.slotStream a n =
    (List.range n).map (fun i => (signed 16 (leNat [sparseGet 0 s.mem.gran (a + 4 * i), sparseGet 0 s.mem.gran (a + (4 * i + 1))]),
      signed 16 (leNat [sparseGet 0 s.mem.gran (a + (4 * i + 2)), sparseGet 0 s.mem.gran (a + (4 * i + 2 + 1))]))) := by
  unfold State.slotStream
  apply List.map_congr_left
  intro i hi
  have := List.mem_range.mp hi
  simp only [leAt, State.granBytes, sparseList]
  rw [two_at _ _ _ (by omega), two_at _ _ _ (by omega)]
theorem adaptAt_addr : adaptAt.slotAddr 0 0 = 0x3C00000 := by decide +kernel
theorem adaptAt_len : headLen (adaptAt.slotHead 0 0) = 512 := by decide +kernel
theorem adaptAt_span : leAt (adaptAt.slotHead 0 0) 5 1 = 1 := by decide +kernel
theorem adaptAt_z : adaptAt.slotZ 0 0 = oneZ := by
  unfold State.slotZ
  rw [adaptAt_addr, adaptAt_len, stream_at]
  decide +kernel
theorem adaptAt_y : adaptAt.slotRef 0 0 0 = oneY := by
  simp only [State.slotRef, adaptAt_addr, adaptAt_len, adaptAt_span, stream_at]
  decide +kernel
theorem adaptAt_aligned : alignOk (adaptAt.slotZ 0 0) (adaptAt.slotRef 0 0 0) (leAt (adaptAt.slotHead 0 0) 5 1) (headDir (adaptAt.slotHead 0 0)) = true := by
  rw [adaptAt_z, adaptAt_y, adaptAt_span]
  exact alignOk_one _
theorem adapting_unaligned (void : Nat) : alignOk ((adapting void).slotZ 0 0) ((adapting void).slotRef 0 0 0)
    (leAt ((adapting void).slotHead 0 0) 5 1) (headDir ((adapting void).slotHead 0 0)) = false := by
  rw [show leAt ((adapting void).slotHead 0 0) 5 1 = leAt ((adapting 0).slotHead 0 0) 5 1 from rfl,
    show leAt ((adapting 0).slotHead 0 0) 5 1 = 0 by decide +kernel]
  simp [alignOk]
def cnvWaits (op : Nat) : State := { play with cnv := { pend := [⟨3, op, 491520000000, 0x1234, 0x6005⟩, ⟨4, 0, 491520000100, 1, 1⟩] } }
def biasState : State := (play.put (sPending 2) 1).put (bGroup 2) 0
def biasLatched (range : Nat) : State := { play with cnv := { latched := [⟨2, 491520000000, 0x123, range⟩] } }
def calState (c : CalChip) : State :=
  { ready sheaf0 [(R.CNV_CFG.USED, 15), (csPending 1, 6), (csLock 1, 1), (clkOk 1, 1)] with rfe := { cal := if c = {} then [] else [(1, c)] } }
def calRunOf : CalRun := ⟨1, 5, false, false, []⟩
def calPlay : State := { play with rfe := { cal := [(1, { run := some calRunOf, window := some 491520100000 })] } }
def femWaits : State := { play with rfe := { phases := [⟨3, 491520000000, 2⟩], steps := [⟨4, 491520000000, false, 5⟩, ⟨4, 491520000001, false, 6⟩] } }
def fsbBusy : State := { play with rfe := { fsb := [(2, { run := [0x80100001], wait := [[7, 8]] })] } }
/-- A chain due `d` ticks from now on bus 2. -/
def fsbTimed (run : List Nat) (d : Nat) : State :=
  { play with rfe := { fsb := [(2, { run := run, wait := [[7, 8]], send := [(491520000000 + d, [0x20022180])] })] } }
def fsbIdleBusy : State := { ready sheaf0 [] with rfe := { fsb := [(2, { run := [0x80100001] })] } }
def alertState : State := awake [(R.RFE_ALERT.LATCH, 4), (R.RFE_ALERT.LEVEL, 2), (tripFld 5, 32)]
def alertClocked : State := { alertState with tim := { running := true } }
def protState (on : Bool) : State := { play with rfe := { prot := [⟨6, 491520000000, on⟩], protOn := if on then [] else [6] } }
def tineState : State :=
  { playing sheaf0 [(R.RFE_TINE_k.LEN 2, 4)] with
    rfe := { tineHeld := [⟨2, 491520000000, 1, List.replicate 16 0x55⟩, ⟨3, 491520000000, 1, []⟩], tine := [(2, { onBus := [[true, false]], idle := true })] } }

def tileSheaf : Sheaf :=
  smallSheaf [] [(4, blk 256 [(0, [1]), (4, [64]), (16, [1, 0, 1]), (96, [0x31, 0, 0, 0, 4]), (131, [1])]),
    (5, (List.replicate 8 [0x80, 0x21, 0x02, 0x20, 0x40, 0, 0, 0]).flatten)]
def laneVec (n : Int) : List (Int × Int) := (List.range 16).map (fun i => ((i : Int) * n, n - (i : Int)))
def tileOf : Tile :=
  { st := 2, cyc := 10, s := [(1, 5), (2, 40), (3, 0xF0)], v := [(1, laneVec 3000), (2, laneVec (-7))], ad := [(0, 0x2040)],
    acc := [(1, laneVec 100000)], accv := [(1, laneVec 50000)], keys := List.replicate 16 (some 3), idxs := List.replicate 16 4, pend := [(9, .s 4 6), (30, .s 5 7)] }
def tileState (x : Tile) : State := { playing tileSheaf [] with tiles := [(1, x)], mem := { gran := [(0x22044, 7), (0x22085, 9)] } }
def tileRun : State := tileState tileOf
def tileDue : Tile := (tileRun.tile 1).due
def ta : TAddr := ⟨0, .lin, 0⟩
def tileBad : State := { tileRun with mem := { tileRun.mem with poison := [0x22048] } }
def tileLow : State := tileState { tileOf with ad := [] }
/-- A tile that is off, with no sheaf applied: the self-test's. -/
def tileSelf : State := { tileState { tileOf with st := 0 } with shf := {} }
/-- The address register at the last vector of local memory. -/
def tileTop : State := tileState { tileOf with ad := [(0, 0x1FFC0)] }
def tileLoopOne (b : List (List TOp)) : State := tileState { tileOf with code := b, need := 1 }
def xferOf : StreamXfer := ⟨true, 0x3000, 0x2000000, 2, 90, 0⟩
def tileXfer : State := tileState { tileOf with queue := [xferOf] }
def xferOut : StreamXfer := { xferOf with inbound := false }
/-- One word moved, the rest for memory beyond the beam cache. -/
def xferPast : StreamXfer := { xferOut with shared := 0x2400000, moved := 1 }
def xferMoved : StreamXfer := { xferOf with moved := 2 }
def xferLow : StreamXfer := { xferOf with local_ := 0x10 }
def tileQueued (q : StreamXfer) : State := tileState { tileOf with queue := [q] }
def tileAs (st : Nat) : State := tileState { tileOf with st := st, kovf := 3, pend := [] }
def tileHurt : State := tileState { tileOf with st := 1, failed := true }
def tileMissed : State := tileState { tileOf with st := 1, missed := true }
def tileEnded : State := { tileState { tileOf with st := 1, ended := true, cycles := 5, kovf := 3, startSub := 491519508480 } with shf := { (tileState {}).shf with kovf := [(0, 2)] } }

def dmaCfg : List Byte := blk 112 [(0, [1]), (2, [1]), (8, [0, 2])]
def dmaSheaf : Sheaf := smallSheaf [(0x0F, dmaCfg)] []
/-- Channel 0 scheduled, 1 and 2 not, with channel states. -/
def dmaState (l : List (Fld × Nat)) : State := playing dmaSheaf ([(R.DMA_STAT.SCHED, 1)] ++ l)
def dmaPoisoned : State := { dmaState [] with mem := { poison := [descBase] } }
def dmaIdleRun : State := (dmaState []).put R.SHF_STATE.RUN 2
def ringState : State := dmaState [(R.DMA_RCUR_n.LEN 1, 1024), (R.DMA_RPEND_n.END 1, 1024), (R.DMA_WPTR_n.WPTR 1, 64), (R.DMA_RPTR_n.RPTR 1, 960)]
def linear (len : Nat) : List Nat := [7 + len * 2 ^ 32, 0x5F00000, 0x5F10000, 0]
def dmaMoving (len : Nat) : State :=
  { dmaState [(R.DMA_CHSTAT_n.STATE 2, 1)] with dma := { chans := [(2, { cur := some (5, linear len), pos := 8 })] }, mem := { gran := [(0x5F00009, 3), (0x5F10009, 4)] } }
def dramDesc : List Nat := [7 + 2 ^ 18 + 256 * 2 ^ 32, 0xC200000, 0x5F10000, 0]
def dmaDram : State :=
  { awake [(R.DMA_CHSTAT_n.STATE 2, 1), (R.MEM_DSTAT.STATE, 2), (R.MEM_CFG.SIZE, 1)] with dma := { chans := [(2, { cur := some (5, dramDesc), pos := 8 })] } }
def dmaBarrier : State :=
  { dmaState [(R.DMA_CHSTAT_n.STATE 2, 2)] with dma := { chans := [(2, { cur := some (5, [9 + 3 * 65536, 0, 0, 2]), pos := 0 })] } }
def goodLane : LaneSweep := ⟨0xFFFF0, 0xFFF00, false⟩
def badLane : LaneSweep := ⟨0x3, 0xFFF00, true⟩
def lanes8 (bad : Bool) : List LaneSweep := List.replicate 7 goodLane ++ [if bad then badLane else goodLane]
def dramState (l : List (Fld × Nat)) : State := ready sheaf0 l
def srState (d : Nat) : State := { dramState [(R.MEM_DSTAT.STATE, 3)] with mem := { srAt := some (491520000000 - d) } }
def srWaiting : State := { dramState [] with mem := { srReady := 491520000100 } }
def refreshing : State := { dramState [(R.MEM_DSTAT.HOT, 1)] with mem := { postponed := [(1, 3), (5, 1)], rates := [1, 0] } }
def refreshingHot : State := { refreshing with mem := { refreshing.mem with rates := [1, 2] } }
def monState (cur : Option MonConv) (l : List (Fld × Nat)) : State := { playing sheaf0 l with mon := { on := true, cur := cur } }
def monCals (n : Nat) : State := { monState (some ⟨none, 4, 0, 491519999000⟩) [(R.MON_STAT.CAL_RUN, 1)] with
  mon := { on := true, initial := true, cur := some ⟨none, 4, 0, 491519999000⟩, codes := List.replicate n 0x400 } }
def monStamped : State := { monState none [] with mon := { stamps := [(3, 77)] } }

/-- Lane `n` with its halves' states and what no register shows. -/
def laneState (n rx tx : Nat) (l : Lane) (f : List (Fld × Nat)) : State :=
  { awake ([(R.LNK_LSTAT_n.RXSTATE n, rx), (R.LNK_LSTAT_n.TXSTATE n, tx)] ++ f) with lnk := { lanes := if l = {} then [] else [(n, l)] } }
def allLanes (rx tx : Nat) (f : List (Fld × Nat)) : State :=
  awake ((List.range 16).flatMap (fun n => [(R.LNK_LSTAT_n.RXSTATE n, rx), (R.LNK_LSTAT_n.TXSTATE n, tx)]) ++ f)
def portWaits : State := { awake [] with lnk := { up := { waiting := true } } }
def capRec (role : Nat) : List Byte := blk 18 [(0, [BitVec.ofNat 8 role, 0, 0xFF, 0xFF, 2, 1])]
def portExchange (q : PortSt) : State := { allLanes 5 3 [(pState .up, 3)] with lnk := { up := q } }
/-- The three capability blocks of a record. -/
def capBlock (role part : Nat) : List Byte := [0x5E] ++ leBytes 1 part ++ ((capRec role).drop (6 * part)).take 6
def portGathers (role : Nat) : State := portExchange { parts := [(3, (capRec role).take 12)] }
def portAgreed : State := portExchange { farRec := some (capRec 1), ackGot := true, sentRec := capRec 2 }
def markUp (good : Nat) : State :=
  { allLanes 6 4 [(pState .up, 4), (pTxMap .up, 0xFFFF), (pRxMap .up, 0xFFFF)] with lnk := { up := { farGood := good, mseqTx := 255 } } }
def markBytes : List Byte := [0x7C, 3, 0x11, 0, 0xFF, 0xFF, 0xFF, 0xFF]
def sleepBytes : List Byte := [0x7C, 0x13, 0x11, 0, 0xFF, 0xFF, 0xFF, 0xFF]
def newMapBytes : List Byte := [0x7C, 0x23, 0x11, 1, 0xFE, 0xFF, 0xFE, 0xFF]
def markAll (b : List Byte) : List Marker := [⟨2, b, false, 0⟩, ⟨4, b, false, 0⟩, ⟨6, b, false, 0⟩]
/-- Lanes 2, 4 and 6 of a port that is up, in block lock. -/
def markFrom (f : List (Fld × Nat)) : State :=
  { awake ([2, 4, 6].flatMap (fun n => [(R.LNK_LSTAT_n.RXSTATE n, 6), (R.LNK_LSTAT_n.TXSTATE n, 4), (R.LNK_LSTAT_n.LANE n, 3)])
      ++ [(pState .up, 4), (pRxMap .up, 0x54), (pTxMap .up, 0x54)] ++ f) with
    lnk := { lanes := [2, 4, 6].map (fun n => (n, { prog := 5, mseq := some 0x10 })) } }
def laneMark (f : List (Fld × Nat)) : State := laneState 2 5 3 { prog := 5, mseq := some 0x10 } ([(R.LNK_LSTAT_n.LANE 2, 3)] ++ f)
def segWaits : State := { ready sheaf0 [(R.LNK_PROTO.POS, 1), (R.LNK_PROTO.CAS_REV, 2)] with lnk := { segAt := some (5, true, true, false) } }

def linkUp : State := awake linked
def upMsg (plane typ : Nat) (body : List Byte) : Msg := msgOf .up plane typ 0 true 0 body
def passMsg (port : Port) (dest : Nat) : Msg :=
  match port with
  | .up => msgOf .up 2 1 dest true 0 (List.replicate 36 3)
  | .cas => msgOf .cas 1 5 dest false 0 (List.replicate 32 3)
def middle : State := linkUp.put R.LNK_PROTO.POS 1
def alarmed (last : Nat) : State := { timed [] [] with alarms := [(0x10, ⟨last, 2, List.replicate 24 7, 0⟩)] }
def alarmedDown (last : Nat) : State := (alarmed last).put R.LNK_PSTAT.UP_STATE 1
def lostSome : State := { linkUp with lost := 3 }
def regBody (addr n : Nat) (words : List Nat) : List Byte := leBytes 4 addr ++ leBytes 2 n ++ [0, 0] ++ (words.map (leBytes 4)).flatten
def linkPoisoned : State := { linkUp with mem := { poison := [descBase] } }
def shedMsg : Msg := msgOf .up 3 1 1 true 0 (List.replicate 44 3)
def linkShed : State := playing sheaf0 [(R.LNK_DEG.CAS_DL, 1)]
def waitD : Sent := ⟨.cas, 5, 2, 3, false, false, 0, 0x80, 1, 9, 0, List.replicate 20 1, 0, true⟩
def waitS : Sent := { waitD with plane := 4 }
def linkQueued : State := linkUp.setPort .cas { waitq := [(0, waitD), (0, waitS)] }
def dmaLinked : State := dmaState []

/-- `smallSheaf` of class 3 with 2 uplink layers, one power step and FEM states. -/
def contentSheaf : Sheaf :=
  { smallSheaf [] [] with
    hdr := blk 256 [(6, [3]), (32, [4]), (40, [1]), (42, [50])]
    sects := [(1, recordOf 1 (blk 32 [(0, [0, 1, 1, 4, 2]), (12, [8])]) ++ recordOf 2 (blk 32 [(0, [2, 1, 0])])
                ++ recordOf 7 (blk 128 [(24, [0xFF, 0xFF, 0xFF, 0xFF, 0xFF, 0xFF, 0xFF, 0xFF]), (32, [2])])
                ++ recordOf 10 (blk 136 [(0, [1]), (8, (List.replicate 64 [0, 0x80]).flatten)]) ++ recordOf 11 (blk 516 [(0, [1])])),
              (3, [5]), (6, (List.replicate 20 [0, 0, 0, 4, 0, 0, 0, 0]).flatten),
              (5, (List.replicate 8 [0x80, 0x21, 0x02, 0x20, 0x40, 0, 0, 0]).flatten)] }
/-- RUNNING under it, and the air time one frame ahead. -/
def content : State := playing contentSheaf []
def contentT : Nat := 491520000000 + 4915200
def contentAir : BitVec 32 := content.airRefOn contentT 0
def cMsg (plane typ : Nat) (body : List Byte) : Msg := msgOf .up plane typ 0 true contentAir body
def entryOf (id start num layer fmt beam : Nat) : List Byte :=
  leBytes 2 id ++ leBytes 2 start ++ leBytes 2 num ++ leBytes 1 layer ++ leBytes 1 fmt ++ leBytes 4 beam ++ [0, 0, 0, 0]
def secBody (syms : Nat) (l : List (List Byte)) : List Byte := leBytes 1 syms ++ leBytes 1 l.length ++ [0, 0] ++ l.flatten
def standing (dl : Bool) (id sym : Nat) : Sect := ⟨dl, 0, contentT, sym, id, 0, 2, 0, 0, none, 0, false, 0, false, []⟩
def held (l : List Sect) : State := { content with con := { sects := l } }
def dlMsg : Msg := cMsg 2 1 (secBody 2 [entryOf 7 0 2 3 0 0x40000])
def ulMsg : Msg := cMsg 2 2 (secBody 1 [entryOf 4095 1 1 1 3 5])
def amendMsg : Msg := cMsg 2 4 (secBody 2 [entryOf 7 0 1 3 0 9])
def revokeMsg : Msg := cMsg 2 5 (secBody 2 [])
def amendState : State := held [standing true 7 0, standing true 7 1]
def beamBody (target id : Nat) : List Byte := [1] ++ leBytes 1 target ++ [0, 0] ++ leBytes 4 id ++ (List.range 256).map (BitVec.ofNat 8)
def beamMsg (target : Nat) : Msg := cMsg 2 3 (beamBody target 0x3FFFF)
def stepMsg (typ : Nat) : Msg := cMsg 2 typ ([5, 0, 0, 0, 0, 0, 0, 0x80] ++ List.replicate 8 0)
def tineContent : State := playing contentSheaf [(R.RFE_TINE_k.LEN 15, 512)]
def tineMsg : Msg := cMsg 2 8 ([15, 0] ++ leBytes 2 510 ++ leBytes 2 2 ++ [0, 0] ++ List.replicate 64 0x1F)
def tineBad : Msg := cMsg 2 8 ([15, 0] ++ leBytes 2 510 ++ leBytes 2 2 ++ [0, 0] ++ List.replicate 6 0x1F ++ List.replicate 58 0x20)
def contentDown : State := content.put R.MEM_DSTAT.STATE 4
def soundMsg (place : Nat) : Msg := cMsg 2 9 ([16, 4, 16] ++ leBytes 1 place ++ leBytes 4 0x3FFFC)
/-- With a FURROWS section, of whatever form, that the schedule names first, and one PARAM word: VEC 4, ITER 16 and any group, for SLOT 0, SYM 0. -/
def furrowed (sh : Sheaf) : Sheaf := { sh with sects := [(2, [1]), (3, [0]), (5, leBytes 4 0x108000)] ++ sh.sects }
def tinePlan : State := playing (furrowed contentSheaf) [(R.RFE_TINE_k.LEN 15, 512)]
def soundPlan : State := playing (furrowed contentSheaf) []
/-- 0.5 us into a subframe, under a sheaf without uplink layers. -/
def soundLate : State :=
  { playing (furrowed { smallSheaf [] [] with hdr := contentSheaf.hdr }) [] with tim := { running := true, cycles := 491520000, now := ⟨1000, 500, 0⟩ } }
def lateMsg : Msg := msgOf .up 2 9 0 true (soundLate.airRefOn 491520000000 0) ([16, 4, 16, 0] ++ leBytes 4 0x3FFFC)
/-- A SEND of up to 2 chips of chain 15, and the COVAR of the descriptor of PARAM word 0, each for the first symbol of a subframe. -/
def sendAct : FAct := ⟨9, 12, 15, 0, 0, 0, 2 * 2 ^ 7⟩
def covarAct : FAct := ⟨100, 19, 0, 0, 0, 0, 0⟩
def covarEarly : FAct := { covarAct with serve := 1 }
def dataBody (id start num layer fmt gen n : Nat) : List Byte :=
  leBytes 2 id ++ leBytes 2 start ++ leBytes 2 num ++ leBytes 1 layer ++ leBytes 1 fmt ++ leBytes 1 gen ++ List.replicate 7 0 ++ List.replicate n 0
def dlDataMsg (gen : Nat) : Msg := cMsg 3 1 (dataBody 7 0 2 0 0 gen (2 * prbBytes 0))
/-- Samples of layer 1 for a section of layer 0. -/
def dlOther : Msg := cMsg 3 1 (dataBody 7 0 2 1 0 0 (2 * prbBytes 0))
theorem not_past (a c k n m : Nat) (h2 : n ≤ 2) (h : m + 2 * k ≤ a + k) : ¬ a + k + c < m + n * k := by
  have : n * k ≤ 2 * k := Nat.mul_le_mul_right _ h2
  omega
theorem served_le (f : FAct) : f.served ≤ 2 := by
  simp only [FAct.served]
  split
  · exact Nat.le_refl 2
  · split
    · exact Nat.zero_le 2
    · exact Nat.le_succ 1
theorem covarPast_far (s : State) (car a : Nat) (h : s.tick + 2 * subTicks ≤ s.subStart a + subTicks) : s.covarPast car a = false := by
  simp only [State.covarPast, Option.any_eq_false, decide_eq_false_iff_not]
  exact fun f _ => not_past (s.subStart a) f.tick subTicks f.served s.tick (served_le f) h
def partialMsg (fmt : Nat) : Msg := msgOf .cas 3 4 0 true contentAir (dataBody 7 0 2 0 fmt 0 (2 * prbBytes fmt))
def dBody (region id off : Nat) (rest : List Byte) : List Byte := leBytes 1 region ++ leBytes 1 id ++ List.replicate 6 0 ++ leBytes 8 off ++ rest
def dWriteMsg (region off : Nat) : Msg := upMsg 5 1 (dBody region 15 off ([1, 2, 3, 4, 5, 6, 7, 8] ++ List.replicate 8 9))
def dReadMsg (region : Nat) : Msg := upMsg 5 2 (dBody region 15 8 (leBytes 8 16))
def dEndMsg (region crc : Nat) : Msg := upMsg 5 4 (dBody region 15 8 (leBytes 8 16 ++ leBytes 4 crc))
def moving : State := { linkUp.put R.MEM_DSTAT.STATE 2 with con := { xfers := [{ id := 15, region := 0, read := false, off := 8, len := 0, next := 0, asker := askerOf }] } }

/-- A 60-byte HSS public key of one level: LMS of height 10, LM-OTS of width 4. -/
def signKey (root : List Byte) : List Byte := beBytes 4 1 ++ beBytes 4 6 ++ beBytes 4 3 ++ List.replicate 16 0x11 ++ root
/-- A signature block: the public key, then a signature of leaf 0 whose hash values are all zeros. -/
def signBlock (root : List Byte) : List Byte :=
  signKey root ++ beBytes 4 0 ++ (beBytes 4 0 ++ (beBytes 4 3 ++ List.replicate (32 + 32 * 67) 0) ++ beBytes 4 6 ++ List.replicate 320 0)
def fwBody : List Byte := [1, 2, 3, 4, 5, 6, 7, 8]
/-- The header of a firmware image of 8 bytes under the root key, for any unit. -/
def fwHeader : List Byte :=
  leBytes 4 0x494E4C54 ++ [1, 0, 0, 0] ++ leBytes 4 9 ++ leBytes 8 0 ++ leBytes 4 8 ++ leBytes 4 2572 ++ leBytes 4 0 ++ beBytes 32 0x66840dda154e8a113c31dd0ad32f7f3a366a80e8136979d8f5a101d3d29d6f72
/-- Where the zeros of the signature lead for that header: the leaf's chains, then the path of zeros. -/
def fwRoot : List Byte :=
  lmsRoot (List.replicate 16 0x11) (List.replicate 10 (List.replicate 32 0)) 1024
    (sha256 (List.replicate 16 0x11 ++ beBytes 4 1024 ++ [0x82, 0x82]
      ++ (otsKey (List.replicate 16 0x11) 0 3 (beBytes 4 3 ++ List.replicate (32 + 32 * 67) 0) fwHeader).getD []))
/-- A firmware image: its header, body and signature block under that root. -/
def fwImage : List Byte := fwHeader ++ fwBody ++ signBlock fwRoot
/-- A unit whose fuses hold the hash of that image's key. -/
def signedUnit (l : List (Fld × Nat)) : State :=
  { awake l with part := { (awake l).part with rootHash := List.replicate 3 (sha256 (signKey fwRoot)) } }
def recoveryUnit : State := (signedUnit [(R.SYS_BOOTSTAT.STAGE, 7)]).setGran recoveryBase fwImage

def secUp : State := { linkUp.put R.MEM_DSTAT.STATE 2 with lnk := linkUp.lnk }
def secTrial : State := secUp.put R.SYS_BOOTSTAT.TRIAL 1
def enrolled : State := { secUp with loft := { secUp.loft with lockA := { secUp.loft.lockA with keys := List.replicate 4 { state := 1 } } } }
def secBusy : State := { secTrial with loft := enrolled.loft, sec := { op := some (.confirm true, askerOf) } }
def envelopeCmd (s : State) : Crit := critOf s 4 [] (leBytes 4 1616 ++ [0, 0, 0, 0])
def enrollCmd (s : State) : Crit := critOf s 5 [0] ([0, 0, 0] ++ leBytes 4 112)
def revokeCmd (s : State) : Crit := critOf s 5 [1] ([4] ++ List.replicate 6 0)
def installCmd (s : State) : Crit := critOf s 8 [0] ([0, 0, 0] ++ leBytes 4 2644)
def confirmCmd (s : State) : Crit := critOf s 8 [1] ([1] ++ List.replicate 6 0)
def lockCmd (s : State) : Crit := critOf s 9 [] ([1, 1] ++ List.replicate 6 0)
def clearCmd (s : State) : Crit := critOf s 7 [] (List.replicate 8 0)
def logState (st : Nat) : State := secUp.put R.TAL_STAT.STATE st
def secIn (op : SecOp) : State := { secUp with sec := { op := some (op, askerOf) } }
def secInstall : State := { secUp with part := (signedUnit []).part, sec := { op := some (.install 2644, askerOf) } }
def installing : State := secInstall.setDram fwStageBase fwImage
def attestMsg (kind : Nat) : Msg := upMsg 1 7 (leBytes 1 kind ++ List.replicate 7 0 ++ List.replicate 32 0x77)
def treeUp : State := { secUp with sec := { treeBuilt := some 0 } }
def attesting (kind : Nat) : State :=
  { secUp.put R.SEC_SIGIDX.NEXT 3 with sec := { attest := some (askerOf, kind, List.replicate 32 0x77), treeBuilt := some 0 }, loft := { secUp.loft with certificate := { caKey := 5, issued := 6 } } }

def exhausted : State := { secUp with loft := { secUp.loft with lastCtr := 2 ^ 64 - 1 } }
/-- The body of a command with a counter, its tag right under the state's key. -/
def signedBody (s : State) (cmd ctr : Nat) (tail : List Byte) : List Byte :=
  let b := leBytes 2 cmd ++ leBytes 2 tail.length ++ leBytes 4 0 ++ leBytes 8 ctr ++ tail
  b ++ s.commandTag b tail.length
def nearLast (n : Nat) : State := { secUp with loft := { secUp.loft with lastCtr := n } }
def triggered (n : Nat) : State := { timed [] [] with tal := { lastRec := [(0x10, n)], suppr := [(0x10, 4)] } }

theorem critOf_crc (s : State) (cmd : Nat) (disc tail : List Byte) :
    crc32c ((critOf s cmd disc tail).msg cmd disc).body = ((critOf s cmd disc tail).msg cmd disc).crc := rfl

theorem admits_of {s : State} {plane typ : Nat} {m : Msg}
    (h : s.rxHead plane typ m = none ∧ ((s.port m.port).hunting = false ∧ (s.port m.port).rest = []) ∧ s.route plane typ m = .consume ∧ m.dest ≠ 0x0F
      ∧ (s.seqs m plane).contains m.seq.toNat = false) (hc : crc32c m.body = m.crc) : s.admits plane typ m :=
  ⟨h.1, h.2.1, h.2.2.1, h.2.2.2.1, hc, h.2.2.2.2⟩
theorem grants_of {s : State} {m : Crit} {cmd plen : Nat} {disc : List Byte}
    (h : s.boot.restarting = false ∧ m.plen.toNat = plen ∧ m.resv = 0 ∧ (m.msg cmd disc).lenIs (32 + plen) = none
      ∧ ctrRefusal s.loft.lastCtr m.ctr.toNat cmd = none ∧ m.lastFails = false) (ha : s.admits 1 6 (m.msg cmd disc))
    (ht : s.commandTag (m.msg cmd disc).body plen = ((m.msg cmd disc).body.drop (16 + plen)).take 16) : s.grants m cmd disc plen :=
  ⟨h.1, ha, h.2.1, h.2.2.1, h.2.2.2.1, ht, h.2.2.2.2.1, h.2.2.2.2.2⟩
theorem issues_of {s : State} {tile : Byte} {x : Tile}
    (h : (s.tile tile.toNat).st = tiRunning ∧ (s.tile tile.toNat).bundle = [] ∧ (s.tile tile.toNat).need = 0 ∧ (s.tile tile.toNat).todo = []
      ∧ (s.tile tile.toNat).waiting = false ∧ (∀ q ∈ (s.tile tile.toNat).queue, q.due (s.tile tile.toNat).cyc ≤ q.moved)
      ∧ x = (s.tile tile.toNat).due) : s.issues tile x :=
  ⟨h.1, h.2.1, h.2.2.1, h.2.2.2.1, h.2.2.2.2.1, h.2.2.2.2.2.1, h.2.2.2.2.2.2⟩

-- The spec's own worked examples, and published vectors of the algorithms that it names

/-- 00_scope.md, Air time: symbol 7 of slot 1 at 30 kHz and 1,024 ticks, in subframe 3 of frame 512. -/
theorem test_air_time : symStart 1 1 7 + 1024 = 369792 ∧ 3 * subTicks + 369792 = 1844352 ∧ 512 * frameTicks + 1844352 = 2518426752 := by decide

/-- 01_architecture.md, Time spine: 1,703,116,805.25 s, and 370 µs later. -/
theorem test_cycle_position :
    (NetTime.tick ⟨1703116805, 250000000, 0⟩) % (1024 * frameTicks) = 2580480000
      ∧ (NetTime.tick ⟨1703116805, 250370000, 0⟩) % (1024 * frameTicks) = 2580661862
      ∧ 181862 - symStart 1 0 10 = 6246 := by decide

/-- 08_transmit_chain.md: T at 30 kHz, and A(e) - H(e) with RC_LEAD 6,000. -/
theorem test_engine_window : engWin 1 = 7245 ∧ 352 + 2 * engWin 1 + 6000 = 20842 := by decide

/-- 02_variants_package_pins.md: the capability registers of a TLN-32H-E at revision B1. -/
theorem test_capability_registers :
    resetWord { paths64 := false, bandFuse := List.replicate 3 (some true), gradeFuse := List.replicate 3 (some .e) } R.SYS_CAP0.w.addr = 0x42013320
      ∧ resetWord { paths64 := false, bandFuse := List.replicate 3 (some true), gradeFuse := List.replicate 3 (some .e) } R.SYS_CAP1.w.addr = 0x00FF200F := by
  decide +kernel

/-- R38: with no two copies of the grade alike, the part reads as B and L. -/
theorem test_fuse_fault : (Part.fuseFault { gradeFuse := [some .b, some .e, some .x] }) = true
    ∧ Part.grade { gradeFuse := [some .b, some .e, some .x] } = .b ∧ Part.hBand { gradeFuse := [some .b, some .e, some .x] } = false := by decide

/-- R447: the copies of the root hash are voted bit by bit. -/
theorem test_root_votes_bits : Part.root { rootHash := [List.replicate 32 0x0F, List.replicate 32 0x3C, List.replicate 32 0xFF] } = some (List.replicate 32 0x3F) := by
  decide +kernel

/-- 07_link_protocol.md: a PRB in BFP9 with I0 1,000, Q0 -1,300 and I5 37. -/
theorem test_bfp9 : (packPrb 1 ([1000, -1300] ++ List.replicate 8 0 ++ [37] ++ List.replicate 13 0)).take 3 = [0x03, 0x3E, 0xD7] := by decide +kernel

/-- 11_converters.md: BG05 at code 2,600 on range 0b01, 1,700 and 1,024 on range 0b10, in 1/4096 mV to 0.1 mV. -/
theorem test_bias_voltage : biasVolt 2600 1 * 10 / 4096 = 31738 ∧ biasVolt 1700 2 * 10 / 4096 = -4249 ∧ biasVolt 1024 2 = -1250 * 4096 := by decide

/-- CRC-32C of the nine digits is 0xE306_9283 (the check value of the polynomial that R170 names). -/
theorem test_crc32c : crc32c [0x31, 0x32, 0x33, 0x34, 0x35, 0x36, 0x37, 0x38, 0x39] = 0xE3069283 := by decide +kernel

/-- FIPS 180-4: SHA-256 of "abc". -/
theorem test_sha256 : sha256 [0x61, 0x62, 0x63] = beBytes 32 0xba7816bf8f01cfea414140de5dae2223b00361a396177a9cb410ff61f20015ad := by decide +kernel

/-- A table word spells no command: no row of the opcode table gives bits. -/
theorem test_no_table_word : decodeTableWord 8 0x5A = none ∧ State.reset.withFetchWord 8 0x5A = State.reset := ⟨rfl, rfl⟩

/-- Reset leaves no command waiting, and its memories in canonical form. -/
theorem test_reset_queue : State.reset.pending = [] ∧ State.reset.mem.gran = [] ∧ State.reset.mem.dram = [] := ⟨rfl, rfl, rfl⟩

-- Ill-formed commands, one at least for each check of WellFormed.lean

def badMsg : Msg := { upMsg 1 1 [] with lenW := 4 }
def badTail : Crit := { envelopeCmd State.reset with tail := [] }
def badTag : Crit := { envelopeCmd State.reset with tag := [] }
def badLen : Crit := { envelopeCmd State.reset with lenW := 7 }

theorem test_wf_messages : (upMsg 1 1 []).wf = true ∧
    [Instr.sync badMsg 0 0 0, .followUp badMsg, .delayResp badMsg, .announce badMsg, .forward 1 1 badMsg 0, .dlData badMsg, .partialSum badMsg,
      .dlSections badMsg, .ulSections badMsg, .beamWrite badMsg, .amend badMsg, .revoke badMsg, .powerStep badMsg, .femState badMsg,
      .tineWeights badMsg, .soundReq badMsg, .keepalive badMsg, .regRead badMsg, .regWrite badMsg, .attestReq badMsg, .dWrite badMsg, .dRead badMsg,
      .dEnd badMsg, .unknownType 1 0 badMsg, .ptpMessageDiscarded badMsg, .ackOrNackReceived true badMsg].all (fun i => !i.wf) = true := by decide +kernel

theorem test_wf_criticals : (envelopeCmd State.reset).wf 0 = true ∧ ((envelopeCmd State.reset).wf 1 = false) ∧
    ([badTail, badTag, badLen].flatMap (fun c => [Instr.sheafLoadVerify c, .sheafLoadVerifyApply c, .sheafLoadApply c, .sheafLoadDiscard c, .start c,
      .stop c, .envelopeChange c, .keyEnroll c, .keyRevoke c, .rekey c, .logClear c noFailure, .fwInstall c, .fwConfirm c, .lockWrite c])).all
        (fun i => !i.wf) = true := by decide +kernel

theorem test_wf_numbers :
    [Instr.railFault 14, .verifyDone (some 3), .verifyDone (some 10), .linkPlacementOpen 0 8 0 0 0, .linkPlacementOpen 0 0 0 14 0,
      .linkPlacementClose 0 8 0 0 0, .linkPlacementClose 0 0 0 14 0, .adaptDone 8 0 adaptRes, .adaptDone 0 16 adaptRes, .captureEnd 8 [] 0,
      .biasRangeSwitchDone 128, .fsbChainStart 4, .fsbFrameDone 4 0 false, .tineReadback 16 [], .tineIdleStrobe 16, .recomputeDone 8 0,
      .synLockLoss 4, .synRelockRetry 4, .calStart 4, .calComplete 4, .calAbort 4, .calHeldRelease 4, .alertInputRise 8 0, .alertInputFall 8 0,
      .tripClear 64, .latchClear 8, .dmaGo 16, .dmaClear 16, .ringLengthWrite 16 0, .ringAck 16 0, .dmaBurst true .good 24,
      .synthesizerRelock 4, .tileLoop 0 true (.imm 0) 1, .tileLoop 0 true (.imm 65537) 1, .tileLoop 0 true (.k 0) 0, .tileLoop 0 true (.k 0) 4097,
      .tileRepeat 0 true (.imm 0), .tileXin 0 true 0 0 0 0, .tileXin 0 true 0 0 0 16385, .tileXout 0 true 0 0 0 0, .tileXout 0 true 0 0 0 16385].all
        (fun i => !i.wf) = true := by decide

theorem test_wf_lanes :
    [Instr.laneSignalDetect 24, .laneDetectTimeout 24 true, .laneTrainDone 24 0, .laneBitLock 24, .laneBlockLock 24 true, .laneAligned 24 0,
      .laneAligned 0 16, .capabilityBlock .up 24 (capBlock 1 0), .capabilityBlock .up 0 [], .alignmentMarker .up [⟨24, markBytes, false, 0⟩],
      .alignmentMarker .up [⟨0, [], false, 0⟩], .laneLossOfLock 24 .cdr 0, .laneRetrainRetry 24, .laneSleep 24, .laneWake 24, .laneWakeTimeout 24,
      .bitslip 24, .laneRetrain 24, .laneDisable 24, .trainingControlBlock 24 (List.replicate 8 0) 0 false, .trainingControlBlock 0 [] 0 false,
      .terminationDetect 24].all (fun i => !i.wf) = true := by decide

theorem test_wf_lengths :
    [Instr.dramTrainingDone 1 [], .dramRetrainDone [], .dramFullTrainingDone [], .sbLoad 0 [], .loftWriteDone .other 0 [] none,
      .loftWriteDone .other 0 (List.replicate 9 0) none].all (fun i => !i.wf) = true := by decide

-- Precoding and inverse FFT (R222, R228), by hand

/-- One section of one PRB whose first sample is 4,096 - 4,096j. -/
def fullSect : Sect := { sectOf true 3 0 none with num := 1, pieces := [⟨0, 1, [0x10, 0x00, 0xF0, 0x00] ++ List.replicate 44 0⟩] }
/-- Weights 32,767 / 2^15 and j / 2 on it, PRE_SHIFT 15. -/
theorem test_precoded :
    precoded [(fullSect, [(32767, 0)])] 15 0 0 = (4096, -4096) ∧ precoded [(fullSect, [(0, 16384)])] 15 0 0 = (2048, 2048) := by decide +kernel
/-- The centre subcarrier is constant; the one below it turns by -pi / 2 in four samples of sixteen. -/
theorem test_ifft :
    ifftSample [(0, 0), (8, -4)] 1 16 3 = (4, -2) ∧ ifftSample [(16, 0), (0, 0)] 0 16 4 = (0, -16) ∧ ifftSample [(100, 0), (0, 0)] 0 16 2 = (71, -71) := by
  decide +kernel

-- Signed messages and a signed image, without evaluating the hashes

theorem length_leBytes (n : Nat) : ∀ x, (leBytes n x).length = n := by
  induction n with
  | zero => intro x; rfl
  | succ n ih => intro x; simp [leBytes, ih]
theorem length_sha256 (m : List Byte) : (sha256 m).length = 32 := by
  simp [sha256, beBytes, length_leBytes, Function.comp_def]

theorem mapM_some {α β : Type} (f : α → Option β) (g : α → β) : ∀ l : List α, (∀ x ∈ l, f x = some (g x)) → l.mapM f = some (l.map g)
  | [], _ => rfl
  | a :: l, h => by
    rw [List.mapM_cons, h a List.mem_cons_self, mapM_some f g l (fun x hx => h x (List.mem_cons_of_mem a hx))]; rfl
theorem byteOfBits_self : ∀ b : Byte, byteOfBits ((List.range 8).map (fun j => b.getLsbD j)) = b := by decide +kernel
theorem majority_three (x : Bool) : majority [some x, some x, some x] = some x := by cases x <;> rfl

theorem root_of_copies (p : Part) (k : List Byte) (hk : k.length = 32) (h : p.rootHash = List.replicate 3 k) : p.root = some k := by
  have hg : (List.range 32).map (fun i => k.getD i 0) = k := by
    apply List.ext_getElem <;> simp [hk]
    intro i hi; simp [hk, hi]
  unfold Part.root
  rw [mapM_some _ (fun i => k.getD i 0), hg]
  intro i hi
  have hi' : i < k.length := by rw [hk]; exact List.mem_range.1 hi
  have hd : (k.drop i).head? = some (k.getD i 0) := by simp [hi']
  simp only [h, List.replicate, List.map_cons, List.map_nil, hd, Option.map_some]
  rw [mapM_some _ (fun j => (k.getD i 0).getLsbD j) _ (fun j _ => majority_three _)]
  simp [byteOfBits_self]

theorem length_lmsRoot (ident : List Byte) : ∀ (l : List (List Byte)) (n : Nat) (t : List Byte), t.length = 32 → (lmsRoot ident l n t).length = 32
  | [], _, _, h => h
  | _ :: l, n, _, _ => length_lmsRoot ident l (n / 2) _ (length_sha256 _)
theorem length_fwRoot : fwRoot.length = 32 := length_lmsRoot _ _ _ _ (length_sha256 _)

def otsZero : List Byte := beBytes 4 3 ++ List.replicate (32 + 32 * 67) 0
def lmsZero : List Byte := beBytes 4 0 ++ otsZero ++ beBytes 4 6 ++ List.replicate 320 0

theorem otsKey_some : ∃ kc, otsKey (List.replicate 16 0x11) 0 3 otsZero fwHeader = some kc := by
  unfold otsKey
  exact ⟨_, if_neg (by decide +kernel)⟩

theorem lmsVerify_zero (r : List Byte) (hr : r = fwRoot) :
    lmsVerify (beBytes 4 6 ++ beBytes 4 3 ++ List.replicate 16 0x11 ++ r) fwHeader lmsZero = true := by
  obtain ⟨kc, hk⟩ := otsKey_some
  have h1 : lmsHeight (beAt (beBytes 4 6 ++ beBytes 4 3 ++ List.replicate 16 0x11 ++ r) 0 4) = some 10 := rfl
  have h0 : beAt (beBytes 4 6 ++ beBytes 4 3 ++ List.replicate 16 0x11 ++ r) 4 4 = 3 := rfl
  have h2 : otsParams 3 = some (4, 67, 4) := rfl
  have h3 : ((beBytes 4 6 ++ beBytes 4 3 ++ List.replicate 16 0x11 ++ r).drop 8).take 16 = List.replicate 16 0x11 := rfl
  have h4 : ((beBytes 4 6 ++ beBytes 4 3 ++ List.replicate 16 0x11 ++ r).drop 24).take 32 = fwRoot := by
    have : (beBytes 4 6 ++ beBytes 4 3 ++ List.replicate 16 (0x11 : Byte) ++ r).drop 24 = r := rfl
    rw [this, hr, List.take_of_length_le (by simp [length_fwRoot])]
  have h5 : beAt lmsZero 0 4 = 0 := by decide +kernel
  have h6 : ¬ (lmsZero.length ≠ lmsSigLen 10 67 ∨ beAt lmsZero (4 + (36 + 32 * 67)) 4 ≠ beAt (beBytes 4 6 ++ beBytes 4 3 ++ List.replicate 16 0x11 ++ r) 0 4 ∨ 2 ^ 10 ≤ 0) := by
    have : beAt (beBytes 4 6 ++ beBytes 4 3 ++ List.replicate 16 (0x11 : Byte) ++ r) 0 4 = 6 := rfl
    rw [this]; decide +kernel
  have h7 : (lmsZero.drop 4).take (36 + 32 * 67) = otsZero := by decide +kernel
  have h8 : (List.range 10).map (fun i => (lmsZero.drop (8 + (36 + 32 * 67) + 32 * i)).take 32) = List.replicate 10 (List.replicate 32 0) := by decide +kernel
  simp only [lmsVerify, h1, h0, h2, h3, h4, h5, h7, h8, if_neg h6, hk]
  have h9 : fwRoot = lmsRoot (List.replicate 16 0x11) (List.replicate 10 (List.replicate 32 0)) 1024
    (sha256 (List.replicate 16 0x11 ++ beBytes 4 1024 ++ [0x82, 0x82] ++ kc)) := by
    show lmsRoot _ _ _ (sha256 (_ ++ (otsKey (List.replicate 16 0x11) 0 3 otsZero fwHeader).getD [])) = _
    rw [hk]; rfl
  rw [h9]; exact beq_self_eq_true _
theorem signBlock_eq : signBlock fwRoot = signKey fwRoot ++ (beBytes 4 0 ++ lmsZero) := by
  simp only [signBlock, lmsZero, otsZero, List.append_assoc]

theorem length_signKey : (signKey fwRoot).length = 60 := by simp [signKey, length_fwRoot, beBytes, length_leBytes]

theorem hssVerify_zero : hssVerify (signKey fwRoot) fwHeader (beBytes 4 0 ++ lmsZero) = true := by
  have h1 : beAt (signKey fwRoot) 0 4 = 1 := rfl
  have h2 : beAt (beBytes 4 0 ++ lmsZero) 0 4 = 0 := by decide +kernel
  have h3 : (signKey fwRoot).drop 4 = beBytes 4 6 ++ beBytes 4 3 ++ List.replicate 16 0x11 ++ fwRoot := rfl
  have h4 : (beBytes 4 0 ++ lmsZero).drop 4 = lmsZero := by decide +kernel
  simp only [hssVerify, h1, h2, h3, h4, length_signKey, Nat.zero_add, ne_eq, not_true_eq_false, or_self, if_false, if_true, lmsVerify_zero fwRoot rfl]

theorem length_signBlock : (signBlock fwRoot).length = 2572 := by
  have h : (beBytes 4 0 ++ lmsZero).length = 2512 := by decide +kernel
  rw [signBlock_eq, List.length_append, length_signKey, h]

theorem fwImage_parts (x : List Byte) (hx : x.length = 2572) (b : List Byte) (hb : b = fwHeader ++ fwBody ++ x) :
    b.take 64 = fwHeader ∧ imgBody b = fwBody ∧ imgSig b = x ∧ (b.drop 32).take 32 = beBytes 32 0x66840dda154e8a113c31dd0ad32f7f3a366a80e8136979d8f5a101d3d29d6f72
      ∧ leAt b 12 8 = 0 ∧ leAt b 8 4 = 9 ∧ leAt b 5 1 = 0 ∧ imgHeaderOk b 1 2644 = true := by
  have hl : b.length = 2644 := by
    have h : (fwHeader ++ fwBody).length = 72 := by decide +kernel
    rw [hb, List.length_append, h, hx]
  have h72 : b.drop 72 = x := by rw [hb, List.drop_left' (by decide +kernel)]
  have hc : ∀ n, n ≤ 72 → b.take n = (fwHeader ++ fwBody).take n := by
    intro n hn
    rw [hb, List.take_append_of_le_length (by have h : (fwHeader ++ fwBody).length = 72 := by decide +kernel
                                              omega)]
  have hf : ∀ o n, o + n ≤ 72 → (b.drop o).take n = ((fwHeader ++ fwBody).drop o).take n := by
    intro o n hn
    rw [List.take_drop, List.take_drop, hc _ hn]
  have hle : ∀ o n, o + n ≤ 72 → leAt b o n = leAt (fwHeader ++ fwBody) o n := by
    intro o n hn; unfold leAt; rw [hf o n hn]
  have hz : ∀ o n, o + n ≤ 72 → zeroAt b o n = zeroAt (fwHeader ++ fwBody) o n := by
    intro o n hn; unfold zeroAt; rw [hf o n hn]
  have e0 : leAt b 0 4 = 0x494E4C54 := by rw [hle _ _ (by omega)]; decide +kernel
  have e4 : leAt b 4 1 = 1 := by rw [hle _ _ (by omega)]; decide +kernel
  have e5 : leAt b 5 1 = 0 := by rw [hle _ _ (by omega)]; decide +kernel
  have e6 : zeroAt b 6 2 = true := by rw [hz _ _ (by omega)]; decide +kernel
  have e8 : leAt b 8 4 = 9 := by rw [hle _ _ (by omega)]; decide +kernel
  have e12 : leAt b 12 8 = 0 := by rw [hle _ _ (by omega)]; decide +kernel
  have e20 : leAt b 20 4 = 8 := by rw [hle _ _ (by omega)]; decide +kernel
  have e24 : leAt b 24 4 = 2572 := by rw [hle _ _ (by omega)]; decide +kernel
  have e28 : zeroAt b 28 4 = true := by rw [hz _ _ (by omega)]; decide +kernel
  refine ⟨?_, ?_, ?_, ?_, e12, e8, e5, ?_⟩
  · rw [hc _ (by omega)]; decide +kernel
  · rw [imgBody, e20, hf _ _ (by omega)]; decide +kernel
  · rw [imgSig, e20, e24, h72, List.take_of_length_le (by rw [hx])]
  · rw [hf _ _ (by omega)]; decide +kernel
  · unfold imgHeaderOk imgLen; rw [hl, e0, e4, e5, e6, e20, e24, e28]; rfl

/-- The image passes R455 on that unit. -/
theorem fwImage_passes (s : State) (h : s.part.rootHash = List.replicate 3 (sha256 (signKey fwRoot))) (hm : s.loft.minVersion ≤ 9) :
    s.imageFail fwImage 1 2644 = none := by
  obtain ⟨h1, h2, h3, h6, hu, hv, hk, hh⟩ := fwImage_parts _ length_signBlock fwImage rfl
  have hr : s.part.root = some (sha256 (signKey fwRoot)) := root_of_copies _ _ (length_sha256 _) h
  have hb : (signBlock fwRoot).take 60 = signKey fwRoot := by rw [signBlock_eq, List.take_left' length_signKey]
  have hd : (signBlock fwRoot).drop 60 = beBytes 4 0 ++ lmsZero := by rw [signBlock_eq, List.drop_left' length_signKey]
  have hsig : s.sigOk 0 rightFw fwHeader (signBlock fwRoot) = true := by
    simp only [State.sigOk, State.signer, hr, hb, hd, hssVerify_zero, if_true, length_signBlock, beq_self_eq_true, Bool.and_true]
    split <;> rfl
  have hbody : sha256 fwBody = beBytes 32 0x66840dda154e8a113c31dd0ad32f7f3a366a80e8136979d8f5a101d3d29d6f72 := by decide +kernel
  unfold State.imageFail
  simp only [hh, hu, hk, h1, h2, h3, h6, hv, hsig, hbody]
  simp; exact hm
theorem list_of_setList (m : Sparse Byte) (a : Nat) (b : List Byte) : sparseList 0 (sparseSetList 0 m a b) a b.length = b := by
  apply List.ext_getElem
  · simp [sparseList]
  · intro i h1 h2
    simp [sparseList, sparseGet_setList, h2]

theorem length_fwImage : fwImage.length = 2644 := by
  have h : (fwHeader ++ fwBody).length = 72 := by decide +kernel
  rw [fwImage, List.length_append, h, length_signBlock]

theorem granBytes_setGran (s : State) (a n : Nat) (b : List Byte) (h : n = b.length) : (s.setGran a b).granBytes a n = b := by
  rw [h]; exact list_of_setList _ _ _
theorem setDram_first (s : State) (a : Nat) (b : List Byte) (hs : s.dramOk = true) (hg : s.mem.dramGen = 0) :
    s.setDram a b = { s with mem := { s.mem with dram := sparseSetList 0 s.mem.dram a b } } := by
  rw [State.setDram, hs, Bool.not_true, if_neg Bool.false_ne_true, if_pos hg]
theorem dramBytes_setDram (s : State) (a n : Nat) (b : List Byte) (hs : s.dramOk = true) (hg : s.mem.dramGen = 0) (h : n = b.length) :
    (s.setDram a b).dramBytes a n = b := by
  simp only [h, setDram_first s a b hs hg, State.dramBytes, State.dramByte, hg, if_true]
  exact list_of_setList _ _ _

theorem get_setGran (s : State) (a : Nat) (b : List Byte) (f : Fld) : (s.setGran a b).get f = s.get f := rfl
theorem setDram_of_ok (s : State) (a : Nat) (b : List Byte) (h : s.dramOk = true) (hg : s.mem.dramGen = 0) :
    (s.setDram a b).sec = s.sec ∧ (s.setDram a b).dramFailed = s.dramFailed ∧ (s.setDram a b).secEnd.part = s.part ∧ (s.setDram a b).secEnd.loft = s.loft := by
  rw [setDram_first s a b h hg]; exact ⟨rfl, rfl, rfl, rfl⟩

theorem witness_BootSlotsAndRecovery_image :
    recoveryUnit.get R.SYS_BOOTSTAT.STAGE = 7 ∧ fwImage = recoveryUnit.granBytes recoveryBase (min 2644 0x100000)
      ∧ recoveryUnit.granPoisoned recoveryBase (min 2644 0x100000) = false ∧ recoveryUnit.imageFail fwImage 1 2644 = none := by
  have hmin : min 2644 0x100000 = fwImage.length := length_fwImage.symm
  exact ⟨(get_setGran _ _ _ _).trans (by decide +kernel), (granBytes_setGran (signedUnit [(R.SYS_BOOTSTAT.STAGE, 7)]) recoveryBase _ fwImage hmin).symm,
    rfl, fwImage_passes recoveryUnit rfl (Nat.zero_le _)⟩

theorem witness_SecurityOperationsEnd_image :
    installing.sec.op = some (.install 2644, askerOf) ∧ installing.dramFailed = false ∧ linkBad [] = false
      ∧ fwImage = installing.dramBytes fwStageBase (min 2644 0x100000) ∧ installing.secEnd.imageFail fwImage 1 2644 = none := by
  have hd : secInstall.dramOk = true := by decide +kernel
  obtain ⟨h1, h2, h3, h4⟩ := setDram_of_ok secInstall fwStageBase fwImage hd rfl
  have hf : secInstall.dramFailed = false := by decide +kernel
  refine ⟨(congrArg Sec.op h1).trans rfl, h2.trans hf, rfl, (dramBytes_setDram secInstall fwStageBase _ fwImage hd rfl length_fwImage.symm).symm, fwImage_passes _ ?_ ?_⟩
  · exact (congrArg Part.rootHash h3).trans rfl
  · exact (congrArg Loft.minVersion h4).le.trans (Nat.zero_le _)

theorem length_hmac (k m : List Byte) : (hmac k m).length = 32 := length_sha256 _

theorem critOf_tag (s : State) (cmd : Nat) (disc tail : List Byte) (n : Nat) (h : n = disc.length + tail.length) :
    s.commandTag ((critOf s cmd disc tail).msg cmd disc).body n = (((critOf s cmd disc tail).msg cmd disc).body.drop (16 + n)).take 16 := by
  let P := leBytes 2 cmd ++ leBytes 2 (BitVec.ofNat 16 n).toNat ++ leBytes 4 0 ++ leBytes 8 9 ++ disc ++ tail
  have hP : P.length = 16 + n := by simp [P, length_leBytes, h]; omega
  have hb : ∃ pad, ((critOf s cmd disc tail).msg cmd disc).body = P ++ (s.commandTag (P ++ List.replicate 16 0) n ++ pad) := by
    subst h
    exact ⟨_, by simp only [critOf, Crit.msg, Crit.body, P, List.append_assoc]; rfl⟩
  obtain ⟨pad, hb⟩ := hb
  rw [hb, List.drop_left' hP]
  simp only [State.commandTag, List.take_left' hP]
  rw [List.take_append_of_le_length (by simp [length_hmac]), List.take_take, Nat.min_self]

theorem gcmOpen_good (key iv aad cipher : List Byte) : ∃ p, gcmOpen key iv aad cipher (gcmTag (aesKeys key) iv aad cipher) = some p := by
  simp only [gcmOpen, if_true, Option.some.injEq, exists_eq']
theorem gcmOpen_bad (key iv aad cipher tag : List Byte) (h : gcmTag (aesKeys key) iv aad cipher ≠ tag) : gcmOpen key iv aad cipher tag = none := by
  simp only [gcmOpen, if_neg h]

theorem length_aesBlock (keys : List (List Byte)) (b : List Byte) (h : ((keys.drop 14).head?.getD []).length = 16) : (aesBlock keys b).length = 16 := by
  simp only [aesBlock, xorBytes, aesShift, List.length_map, List.length_zip, List.length_range, h, Nat.min_self]

/-- The tag of a REKEY of zeros under the key of zeros. -/
def zeroTag : List Byte := gcmTag (aesKeys (List.replicate 32 0)) (List.replicate 12 0) (leBytes 8 0 ++ leBytes 8 9) (List.replicate 32 0)
theorem length_zeroTag : zeroTag.length = 16 := by
  have h : (((aesKeys (List.replicate 32 0)).drop 14).head?.getD []).length = 16 := by decide +kernel
  have hl := length_aesBlock (aesKeys (List.replicate 32 0)) (List.replicate 12 0 ++ beBytes 4 (1 + 0)) h
  have hb : ∀ x, (beBytes 16 x).length = 16 := fun x => by rw [beBytes, List.length_reverse, length_leBytes]
  simp only [zeroTag, gcmTag, gcmBlock, xorBytes, List.length_map, List.length_zip, hl, hb, Nat.min_self]
theorem flipped_ne (l : List Byte) (h : l.length = 16) : l ≠ l.map (· ^^^ 1) := by
  have hb : ∀ a : Byte, a ≠ a ^^^ 1 := by decide
  match l, h with
  | a :: r, _ => intro e; exact hb a (List.cons.inj e).1

theorem critOf_params (s : State) (cmd : Nat) (disc tail : List Byte) (n : Nat) (h : n = disc.length + tail.length) :
    (critOf s cmd disc tail).params cmd disc n = disc ++ tail := by
  let P := leBytes 2 cmd ++ leBytes 2 (BitVec.ofNat 16 n).toNat ++ leBytes 4 0 ++ leBytes 8 9
  have hP : P.length = 16 := by simp [P, length_leBytes]
  have hb : ∃ pad, ((critOf s cmd disc tail).msg cmd disc).body = P ++ ((disc ++ tail) ++ pad) := by
    subst h
    exact ⟨_, by simp only [critOf, Crit.msg, Crit.body, P, List.append_assoc]; rfl⟩
  obtain ⟨pad, hb⟩ := hb
  rw [Crit.params, hb, List.drop_left' hP, List.take_left' (by simp [h])]

def rekeyWith (s : State) (tag : List Byte) : Crit := critOf s 6 [] (List.replicate 48 0 ++ tag)
theorem unwrap_rekeyWith (s : State) (tag : List Byte) (ht : tag.length = 16) :
    s.unwrap (rekeyWith s tag).ctr ((rekeyWith s tag).params 6 [] 64)
      = gcmOpen s.cmdKey (List.replicate 12 0) (leBytes 8 s.part.serial.toNat ++ leBytes 8 9) (List.replicate 32 0) tag := by
  have hp : (rekeyWith s tag).params 6 [] 64 = List.replicate 48 0 ++ tag := by
    exact critOf_params s 6 [] (List.replicate 48 0 ++ tag) 64 (by rw [List.length_append, ht]; rfl)
  rw [hp]
  have h1 : (List.replicate 48 (0 : Byte) ++ tag).take 12 = List.replicate 12 0 := rfl
  have h2 : ((List.replicate 48 (0 : Byte) ++ tag).drop 16).take 32 = List.replicate 32 0 := rfl
  have h3 : ((List.replicate 48 (0 : Byte) ++ tag).drop 48).take 16 = tag := by
    rw [List.drop_left' (by simp), List.take_of_length_le (by rw [ht])]
  unfold State.unwrap
  rw [h1, h2, h3]; rfl

theorem witness_SecurityCommandsBegin_13 :
    secUp.grants (rekeyWith secUp zeroTag) 6 [] 64 ∧ badAfter 12 4 ((rekeyWith secUp zeroTag).params 6 [] 64) = none ∧ secUp.sec.op = none
      ∧ ∃ key, secUp.unwrap (rekeyWith secUp zeroTag).ctr ((rekeyWith secUp zeroTag).params 6 [] 64) = some key := by
  refine ⟨grants_of (by decide +kernel) (admits_of (by decide +kernel) (critOf_crc ..)) (critOf_tag _ _ _ _ _ (by rw [List.length_append, length_zeroTag]; rfl)), ?_, rfl, ?_⟩
  · rw [show (rekeyWith secUp zeroTag).params 6 [] 64 = _ from critOf_params secUp 6 [] _ 64 (by rw [List.length_append, length_zeroTag]; rfl)]; rfl
  · rw [unwrap_rekeyWith _ _ length_zeroTag]; exact gcmOpen_good _ _ _ _

theorem witness_SecurityCommandsBegin_14 :
    secUp.grants (rekeyWith secUp (zeroTag.map (· ^^^ 1))) 6 [] 64
      ∧ badAfter 12 4 ((rekeyWith secUp (zeroTag.map (· ^^^ 1))).params 6 [] 64) = none ∧ secUp.sec.op = none
      ∧ secUp.unwrap (rekeyWith secUp (zeroTag.map (· ^^^ 1))).ctr ((rekeyWith secUp (zeroTag.map (· ^^^ 1))).params 6 [] 64) = none := by
  have hl : (zeroTag.map (· ^^^ 1)).length = 16 := by rw [List.length_map, length_zeroTag]
  refine ⟨grants_of (by decide +kernel) (admits_of (by decide +kernel) (critOf_crc ..)) (critOf_tag _ _ _ _ _ (by rw [List.length_append, hl]; rfl)), ?_, rfl, ?_⟩
  · rw [show (rekeyWith secUp (zeroTag.map (· ^^^ 1))).params 6 [] 64 = _ from critOf_params secUp 6 [] _ 64 (by rw [List.length_append, hl]; rfl)]; rfl
  · rw [unwrap_rekeyWith _ _ hl]; exact gcmOpen_bad _ _ _ _ _ (flipped_ne _ length_zeroTag)
/-- A DELAY_RESP for this port. -/
def respMsg : Msg := ptpOf 9 false ptpSelf
theorem respMsg_ours : (respMsg.ptp.drop 44).take 10 = ptpSelf := rfl
theorem respMsg_finds (e : Exchange) (h : e.reqId = 77) (hr : e.resp = none) :
    [e].find? (fun x => x.reqId == respMsg.ptpSeq && x.resp.isNone && decide ((respMsg.ptp.drop 44).take 10 = ptpSelf)) = some e := by
  have hs : respMsg.ptpSeq = 77 := by decide +kernel
  simp [hs, h, hr, respMsg_ours]

theorem witness_FollowUpAndDelayRespCompleteAnExchange_resp :
    (timed [] [exchOf 77 none none]).admits 4 1 respMsg ∧ (timed [] [exchOf 77 none none]).payloadChecks respMsg = none ∧ respMsg.ptpChecks = none
      ∧ beAt respMsg.ptp 4 1 = (timed [] [exchOf 77 none none]).tcfg R.TIM_CTRL.DOMAIN ∧ respMsg.port = .up ∧ beAt respMsg.body 1 1 = 0 ∧ respMsg.ptpType = 9
      ∧ (timed [] [exchOf 77 none none]).tim.exch.find? (fun x => x.reqId == respMsg.ptpSeq && x.resp.isNone && decide ((respMsg.ptp.drop 44).take 10 = ptpSelf))
        = some (exchOf 77 none none) ∧ (exchOf 77 none none).t1 = none :=
  ⟨admits_of (by decide +kernel) rfl, by decide +kernel, by decide +kernel, by decide +kernel, rfl, by decide +kernel,
    by decide +kernel, respMsg_finds _ rfl rfl, rfl⟩

theorem witness_FollowUpAndDelayRespCompleteAnExchange_last :
    (timed [] [exchOf 77 (some 11) none]).admits 4 1 respMsg ∧ (timed [] [exchOf 77 (some 11) none]).payloadChecks respMsg = none ∧ respMsg.ptpChecks = none
      ∧ beAt respMsg.ptp 4 1 = (timed [] [exchOf 77 (some 11) none]).tcfg R.TIM_CTRL.DOMAIN ∧ respMsg.port = .up ∧ beAt respMsg.body 1 1 = 0 ∧ respMsg.ptpType = 9
      ∧ (timed [] [exchOf 77 (some 11) none]).tim.exch.find? (fun x => x.reqId == respMsg.ptpSeq && x.resp.isNone && decide ((respMsg.ptp.drop 44).take 10 = ptpSelf))
        = some (exchOf 77 (some 11) none) ∧ (exchOf 77 (some 11) none).t1 = (some 11)
      ∧ (timed [] [exchOf 77 (some 11) none]).tcfg R.TIM_CTRL.SERVO_EN = 0 ∧ (timed [] [exchOf 77 (some 11) none]).get R.TIM_STATUS.STATE ≠ timLocked ∧ (timed [] [exchOf 77 (some 11) none]).get R.TIM_STATUS.STATE ≠ timRemeasure :=
  ⟨admits_of (by decide +kernel) rfl, by decide +kernel, by decide +kernel, by decide +kernel, rfl, by decide +kernel,
    by decide +kernel, respMsg_finds _ rfl rfl, rfl, by decide +kernel, by decide +kernel, by decide +kernel⟩


-- Hypotheses that are met together, statement by statement

theorem witness_IdleStepIsOneCycle :
    ((State.reset.pending = []) ∧
      (State.reset.tim.running = false)) ∧
    ((clocked.pending = []) ∧
      (clocked.tim.running = true)) :=
  by decide +kernel

theorem witness_RailSequencerSteps :
    (((railUp 6).vaon.seq = Sequencer.group 6) ∧
      (6 ≤ 6)) ∧
    (((railUp 3).vaon.seq = Sequencer.group 3) ∧
      (3 ≤ 6)) ∧
    (((railUp 5).vaon.seq = Sequencer.group 5) ∧
      (11 ∈ railGroup (railUp 5).part 5)) ∧
    ((railWait.vaon.seq = Sequencer.retryWait)) :=
  by constructorm* _ ∧ _ <;> decide +kernel

theorem witness_JtagInstructions :
      ([true, true] ≠ []) :=
  by decide +kernel

theorem witness_PowerFailClearsTheLogic :
      ((awake []).vaon.seq = Sequencer.done) :=
  by decide +kernel

theorem witness_WarmResetsClearTheLogic :
    (((awake []).boot.inReset = false) ∧
      (1300 ≤ 1300)) ∧
    (((awake []).boot.inReset = false) ∧
      (699 < 700)) ∧
    (((awake []).boot.inReset = false) ∧
      ((awake []).run = runEmpty ∨ (awake []).run = runReady ∨ (awake []).run = runFaulted)) ∧
    (((awake [(R.SHF_STATE.RUN, 4)]).boot.inReset = false) ∧
      (165 ≠ 165 ∨
  (awake [(R.SHF_STATE.RUN, 4)]).run = runApplying ∨
    (awake [(R.SHF_STATE.RUN, 4)]).run = runStarting ∨
      (awake [(R.SHF_STATE.RUN, 4)]).run = runRunning ∨ (awake [(R.SHF_STATE.RUN, 4)]).run = runStopping)) ∧
    (((awake []).boot.inReset = false)) :=
  by constructorm* _ ∧ _ <;> decide +kernel

theorem witness_ResetReleaseAndRestarts :
    ((1300 ≤ 1300) ∧
      (State.reset.boot.inReset = true) ∧
      (State.reset.vaon.seq = Sequencer.done)) ∧
    ((1300 ≤ 5000) ∧
      (State.reset.boot.inReset = true) ∧
      (State.reset.vaon.seq = Sequencer.done)) ∧
    ((thermOff.vaon.thermalOff = true)) ∧
    (((awake []).boot.inReset = false) ∧
      ((awake []).boot.image ≠ none)) ∧
    ((restarting.boot.restarting = true)) :=
  by constructorm* _ ∧ _ <;> decide +kernel

theorem witness_BootSlotsAndRecovery :
    (((awake [(R.SYS_BOOTSTAT.STAGE, 1)]).get R.SYS_BOOTSTAT.STAGE = 1) ∧
      ((awake [(R.SYS_BOOTSTAT.STAGE, 1)]).boot.sbRecovery = false)) ∧
    ((stage7.get R.SYS_BOOTSTAT.STAGE = 1) ∧
      (stage7.boot.sbRecovery = true)) ∧
    (((awake [(R.SYS_BOOTSTAT.STAGE, 1)]).get R.SYS_BOOTSTAT.STAGE = 1)) ∧
    ((stage2.get R.SYS_BOOTSTAT.STAGE = 2) ∧
      (stage2.boot.attempt = [(false, false), (true, false)])) ∧
    ((recovering.boot.recovering = true)) ∧
    (((awake [(R.SYS_BOOTSTAT.STAGE, 3)]).get R.SYS_BOOTSTAT.STAGE = 3 ∨
  (awake [(R.SYS_BOOTSTAT.STAGE, 3)]).get R.SYS_BOOTSTAT.STAGE = 8)) ∧
    (((awake [(R.SYS_BOOTSTAT.STAGE, 7)]).get R.SYS_BOOTSTAT.STAGE = 7) ∧
      (256 % 256 = 0) ∧
      (256 < 1048576) ∧
      ((List.replicate 256 7).length = 256)) :=
  by constructorm* _ ∧ _ <;> decide +kernel

theorem witness_TallySessionAndReading :
    (((awake []).boot.inReset = false)) ∧
    (((talOpen [(R.TAL_STAT.STATE, 1)]).boot.inReset = false) ∧
      ((talOpen [(R.TAL_STAT.STATE, 1)]).tal.session = true) ∧
      ((talOpen [(R.TAL_STAT.STATE, 1)]).get R.TAL_STAT.STATE ≠ 0)) ∧
    (((awake []).boot.inReset = false) ∧
      ((awake []).tal.session = false ∨ (awake []).get R.TAL_STAT.STATE = 0)) ∧
    (((talOpen []).tal.session = true) ∧
      (bits 16389 15 14 ≤ 2) ∧
      (bits 16389 13 13 = 0)) ∧
    ((Instr.tallyClose ∈ [Instr.tallyClose, Instr.tallySessionTimeout]) ∧
      ((talOpen [(R.TAL_STAT.FROZEN, 1)]).tal.session = true) ∧
      (Instr.tallyClose = Instr.tallyClose ∨
  (talOpen [(R.TAL_STAT.FROZEN, 1)]).tal.cmdAt + 491520000 ≤ (talOpen [(R.TAL_STAT.FROZEN, 1)]).tim.cycles)) ∧
    ((Instr.tallySessionTimeout ∈ [Instr.tallyClose, Instr.tallySessionTimeout]) ∧
      (talStale.tal.session = true) ∧
      (Instr.tallySessionTimeout = Instr.tallyClose ∨ talStale.tal.cmdAt + 491520000 ≤ talStale.tim.cycles)) :=
  by constructorm* _ ∧ _ <;> decide +kernel

theorem witness_TallyWritesOneEvent :
    ((talQueued.get R.TAL_STAT.STATE = 1 ∨ talQueued.get R.TAL_STAT.STATE = 2) ∧
      (talQueued.flag R.TAL_STAT.FROZEN = false)) ∧
    (((awake []).get R.TAL_STAT.STATE = 0) ∧
      ((awake []).boot.inReset = false) ∧
      (ctlValid (((awake []).blank [3670080]).loftBytes 3694592 64) = true ∨
  ctlValid (((awake []).blank [3670080]).loftBytes 3698688 64) = true)) ∧
    ((noCtl.get R.TAL_STAT.STATE = 0) ∧
      (noCtl.boot.inReset = false) ∧
      (ctlValid ((noCtl.blank []).loftBytes 3694592 64) = false) ∧
      (ctlValid ((noCtl.blank []).loftBytes 3698688 64) = false)) ∧
    (((awake [(R.TAL_STAT.STATE, 2)]).get R.TAL_STAT.STATE = 2)) ∧
    (((awake []).boot.inReset = false)) :=
  by constructorm* _ ∧ _ <;> decide +kernel

theorem witness_SyncOpensAnExchange :
      ((ptpOf 0 true []).ptpType = 0) ∧
      ((timed [(R.TIM_CTRL.DOMAIN, 0)] [exchOf 3 none none]).admits 4 1 (ptpOf 0 true [])) ∧
      (((timed [(R.TIM_CTRL.DOMAIN, 0)] [exchOf 3 none none]).payloadChecks (ptpOf 0 true []) = none) ∧
      ((ptpOf 0 true []).ptpChecks = none) ∧
      (beAt (ptpOf 0 true []).ptp 4 1 = (timed [(R.TIM_CTRL.DOMAIN, 0)] [exchOf 3 none none]).get R.TIM_CTRL.DOMAIN) ∧
      ((ptpOf 0 true []).port = Port.up) ∧
      (beAt (ptpOf 0 true []).body 1 1 = 0) ∧
      ((ptpOf 0 true []).replay = false)) :=
  ⟨by decide +kernel, admits_of (by decide +kernel) rfl, by decide +kernel⟩

theorem witness_FollowUpAndDelayRespCompleteAnExchange :
    (((timed [] [exchOf 3 none none]).admits 4 1 (ptpOf 8 false [])) ∧
      (((timed [] [exchOf 3 none none]).payloadChecks (ptpOf 8 false []) = none) ∧
      ((ptpOf 8 false []).ptpChecks = none) ∧
      (beAt (ptpOf 8 false []).ptp 4 1 = (timed [] [exchOf 3 none none]).tcfg R.TIM_CTRL.DOMAIN) ∧
      ((ptpOf 8 false []).port = Port.up) ∧
      (beAt (ptpOf 8 false []).body 1 1 = 0) ∧
      ((ptpOf 8 false []).ptpType = 8) ∧
      (List.find? (fun x ↦ x.seqId == (ptpOf 8 false []).ptpSeq && x.port == (ptpOf 8 false []).ptpPort && x.t1.isNone)
    (timed [] [exchOf 3 none none]).tim.exch =
  some (exchOf 3 none none)) ∧
      ((exchOf 3 none none).resp = none))) ∧
    (((timed [] [exchOf 3 none (some (5, 6))]).admits 4 1 (ptpOf 8 false [])) ∧
      (((timed [] [exchOf 3 none (some (5, 6))]).payloadChecks (ptpOf 8 false []) = none) ∧
      ((ptpOf 8 false []).ptpChecks = none) ∧
      (beAt (ptpOf 8 false []).ptp 4 1 = (timed [] [exchOf 3 none (some (5, 6))]).tcfg R.TIM_CTRL.DOMAIN) ∧
      ((ptpOf 8 false []).port = Port.up) ∧
      (beAt (ptpOf 8 false []).body 1 1 = 0) ∧
      ((ptpOf 8 false []).ptpType = 8) ∧
      (List.find? (fun x ↦ x.seqId == (ptpOf 8 false []).ptpSeq && x.port == (ptpOf 8 false []).ptpPort && x.t1.isNone)
    (timed [] [exchOf 3 none (some (5, 6))]).tim.exch =
  some (exchOf 3 none (some (5, 6)))) ∧
      ((exchOf 3 none (some (5, 6))).resp = some (5, 6)) ∧
      ((timed [] [exchOf 3 none (some (5, 6))]).tcfg R.TIM_CTRL.SERVO_EN = 0) ∧
      ((timed [] [exchOf 3 none (some (5, 6))]).get R.TIM_STATUS.STATE ≠ timLocked) ∧
      ((timed [] [exchOf 3 none (some (5, 6))]).get R.TIM_STATUS.STATE ≠ timRemeasure))) :=
  by constructorm* _ ∧ _ <;> first | decide +kernel | ((with_reducible refine admits_of ?_ ?_) <;> [decide +kernel; rfl])

theorem witness_ServoLosesItsMaster :
    (((ptpOf 11 false annText).ptpType = 11) ∧
      ((timed [] []).admits 4 1 (ptpOf 11 false annText)) ∧
      (((timed [] []).payloadChecks (ptpOf 11 false annText) = none) ∧
      ((ptpOf 11 false annText).ptpChecks = none) ∧
      (beAt (ptpOf 11 false annText).ptp 4 1 = (timed [] []).tcfg R.TIM_CTRL.DOMAIN) ∧
      ((ptpOf 11 false annText).port = Port.up) ∧
      (beAt (ptpOf 11 false annText).body 1 1 = 0))) ∧
    (((ptpOf 11 false annText).ptpType = 11) ∧
      (otherMaster.admits 4 1 (ptpOf 11 false annText)) ∧
      ((otherMaster.payloadChecks (ptpOf 11 false annText) = none) ∧
      ((ptpOf 11 false annText).ptpChecks = none) ∧
      (beAt (ptpOf 11 false annText).ptp 4 1 = otherMaster.tcfg R.TIM_CTRL.DOMAIN) ∧
      ((ptpOf 11 false annText).port = Port.up) ∧
      (beAt (ptpOf 11 false annText).body 1 1 = 0))) ∧
    ((Instr.syncTimeout = Instr.syncTimeout ∨
  Instr.syncTimeout = Instr.announceTimeout ∧ (timed [(R.TIM_STATUS.STATE, 2)] []).tim.annLog.isSome = true) ∧
      ((timed [(R.TIM_STATUS.STATE, 2)] []).servoLive = true)) ∧
    ((Instr.announceTimeout = Instr.syncTimeout ∨
  Instr.announceTimeout = Instr.announceTimeout ∧ otherMaster.tim.annLog.isSome = true) ∧
      (otherMaster.servoLive = true)) ∧
    (((config (timed [(R.TIM_STATUS.STATE, 3)] []) [(R.TIM_HOLDOVER.LIMIT, 60)]).get R.TIM_STATUS.STATE = timHoldover) ∧
      ((config (timed [(R.TIM_STATUS.STATE, 3)] []) [(R.TIM_HOLDOVER.LIMIT, 60)]).tcfg R.TIM_HOLDOVER.LIMIT ≠ 0)) ∧
    (((timed [] [exchOf 1 none none]).tim.exch = [exchOf 1 none none])) ∧
    (((ptpOf 12 false []).ptpType ∉ [0, 8, 9, 11]) ∧
      ((timed [] []).admits 4 1 (ptpOf 12 false [])) ∧
      (((timed [] []).payloadChecks (ptpOf 12 false []) = none) ∧
      ((ptpOf 12 false []).ptpType = 1 →
  (ptpOf 12 false []).ptpChecks = none ∧ beAt (ptpOf 12 false []).ptp 4 1 = (timed [] []).tcfg R.TIM_CTRL.DOMAIN))) :=
  by constructorm* _ ∧ _ <;> first | decide +kernel | ((with_reducible refine admits_of ?_ ?_) <;> [decide +kernel; rfl])

theorem witness_FctlFrames :
    ((fctlBusy.tim.fctl.isSome = true)) ∧
    ((fctlLast.tim.fctl.isSome = true)) :=
  by decide +kernel

theorem witness_TimingPins :
    ((ppsReady.wholeSecond = true) ∧
      (ppsReady.tim.ppsReady = true) ∧
      (ppsReady.tim.ppsOut = false) ∧
      (∀ (c : ℕ), ppsReady.tim.ppsRise = some c → c + hundredMs ≤ ppsReady.tim.cycles) ∧
      (∀ (c : ℕ), ppsReady.tim.ppsEnd = some c → c + subTicks ≤ ppsReady.tim.cycles)) ∧
    ((ppsHigh.tim.ppsOut = true) ∧
      (ppsHigh.tim.ppsRise.getD 0 + ppsHigh.tcfg R.TIM_PPSCFG.WIDTH * subTicks ≤ ppsHigh.tim.cycles)) ∧
    ((clocked.tim.running = true)) ∧
    ((7 < 8)) ∧
    ((15 < 16)) ∧
    ((8 ≤ 100) ∧
      ((config (timed [] []) [(R.TIM_CTRL.FSYNC_EN, 1)]).tim.running = true) ∧
      ((config (timed [] []) [(R.TIM_CTRL.FSYNC_EN, 1)]).tcfg R.TIM_CTRL.FSYNC_EN ≠ 0) ∧
      (4915200 = frameTicks * 2 ^ (config (timed [] []) [(R.TIM_CTRL.FSYNC_EN, 1)]).tcfg R.TIM_FSYNCCFG.PERIOD_LOG) ∧
      (4915100 =
  (config (timed [] []) [(R.TIM_CTRL.FSYNC_EN, 1)]).cyclePos
      ((config (timed [] []) [(R.TIM_CTRL.FSYNC_EN, 1)]).tick - 100) %
    4915200) ∧
      (-100 = if 2 * 4915100 ≤ 4915200 then ↑4915100 else ↑4915100 - ↑4915200) ∧
      (-2 ^ 31 ≤ -100) ∧
      (-100 < 2 ^ 31)) ∧
    ((16 ≤ 16) ∧
      ((config (timed [] []) [(R.TIM_CTRL.PPS_MODE, 1)]).tim.running = true) ∧
      ((config (timed [] []) [(R.TIM_CTRL.PPS_MODE, 1)]).tcfg R.TIM_CTRL.PPS_MODE = 1 ∨
  (config (timed [] []) [(R.TIM_CTRL.PPS_MODE, 1)]).tcfg R.TIM_CTRL.PPS_MODE = 2) ∧
      ((config (timed [] []) [(R.TIM_CTRL.PPS_MODE, 1)]).get R.TIM_STATUS.STATE ≠ timHoldover) ∧
      ((config (timed [] []) [(R.TIM_CTRL.PPS_MODE, 1)]).stamp 256 % nsFine 1000000000 =
  (config (timed [] []) [(R.TIM_CTRL.PPS_MODE, 1)]).stamp (16 * ↑16) % nsFine 1000000000) ∧
      (ppsD =
  if 2 * ((config (timed [] []) [(R.TIM_CTRL.PPS_MODE, 1)]).stamp 256 % nsFine 1000000000) ≤ nsFine 1000000000 then
    (config (timed [] []) [(R.TIM_CTRL.PPS_MODE, 1)]).stamp 256 % nsFine 1000000000
  else (config (timed [] []) [(R.TIM_CTRL.PPS_MODE, 1)]).stamp 256 % nsFine 1000000000 - nsFine 1000000000)) :=
  by constructorm* _ ∧ _ <;> decide +kernel

theorem witness_SheafLoadsAndTheirResults :
    (((Instr.sheafLoadVerify, 0) ∈ [(Instr.sheafLoadVerify, 0), (Instr.sheafLoadVerifyApply, 1)]) ∧
      (loadable.grants (critOf loadable 1 [0] (List.replicate 7 0)) 1 (leBytes 1 0) 8) ∧
      ((badZero ((critOf loadable 1 [0] (List.replicate 7 0)).params 1 (leBytes 1 0) 8) 1 7 = none) ∧
      (loadable.loadRefusal 0 = none))) ∧
    (((Instr.sheafLoadVerifyApply, 1) ∈ [(Instr.sheafLoadVerify, 0), (Instr.sheafLoadVerifyApply, 1)]) ∧
      (loadable.grants (critOf loadable 1 [1] (List.replicate 7 0)) 1 (leBytes 1 1) 8) ∧
      ((badZero ((critOf loadable 1 [1] (List.replicate 7 0)).params 1 (leBytes 1 1) 8) 1 7 = none) ∧
      (loadable.loadRefusal 1 = none))) ∧
    ((loadable.grants (critOf loadable 1 [2] (List.replicate 7 0)) 1 (leBytes 1 2) 8) ∧
      ((badZero ((critOf loadable 1 [2] (List.replicate 7 0)).params 1 (leBytes 1 2) 8) 1 7 = none) ∧
      (loadable.loadRefusal 2 = none))) ∧
    ((loadable.grants (critOf loadable 1 [3] (List.replicate 7 0)) 1 (leBytes 1 3) 8) ∧
      ((badZero ((critOf loadable 1 [3] (List.replicate 7 0)).params 1 (leBytes 1 3) 8) 1 7 = none) ∧
      (loadable.loadRefusal 3 = none))) ∧
    ((verifying.shf.verifying = some { apply := true, asker := askerOf : Load }) ∧
      (linkBad [(1, false)] = false)) ∧
    ((verifying.shf.verifying = some { apply := true, asker := askerOf : Load }) ∧
      (linkBad [(1, false), (2, true)] = true)) :=
  by constructorm* _ ∧ _ <;> first | decide +kernel | ((with_reducible refine grants_of ?_ ?_ ?_) <;> [decide +kernel; exact admits_of (by decide +kernel) (critOf_crc ..); exact critOf_tag _ _ _ _ _ rfl]) | simp

theorem witness_ApplyEndsReadyOrEmpty :
    (((stagedState [(R.SHF_STATE.RUN, 1)]).shf.applying = some askerOf) ∧
      ((stagedState [(R.SHF_STATE.RUN, 1)]).shf.staged = some sheaf0) ∧
      ((stagedState [(R.SHF_STATE.RUN, 1)]).run = runApplying) ∧
      ((stagedState [(R.SHF_STATE.RUN, 1)]).flag R.LNK_PROTO.POS_VALID = true) ∧
      (¬(bit (leAt sheaf0.hdr 32 4) 1 = true ∧ leAt sheaf0.hdr 36 1 ≠ (stagedState [(R.SHF_STATE.RUN, 1)]).get R.LNK_PROTO.POS)) ∧
      (linkBad [(3, true)] = true)) ∧
    (((stagedState [(R.SHF_STATE.RUN, 1)]).shf.applying = some askerOf) ∧
      ((stagedState [(R.SHF_STATE.RUN, 1)]).shf.staged = some sheaf0) ∧
      ((stagedState [(R.SHF_STATE.RUN, 1)]).run = runApplying) ∧
      ((stagedState [(R.SHF_STATE.RUN, 1)]).flag R.LNK_PROTO.POS_VALID = true) ∧
      (¬(bit (leAt sheaf0.hdr 32 4) 1 = true ∧ leAt sheaf0.hdr 36 1 ≠ (stagedState [(R.SHF_STATE.RUN, 1)]).get R.LNK_PROTO.POS)) ∧
      (linkBad [(3, false)] = false)) ∧
    (((stagedState [(R.SHF_STATE.RUN, 1)]).shf.applying = some askerOf) ∧
      ((stagedState [(R.SHF_STATE.RUN, 1)]).shf.staged = some sheaf0) ∧
      ((stagedState [(R.SHF_STATE.RUN, 1)]).run = runApplying)) ∧
    ((calibrating.shf.calPending ≠ []) ∧
      (∀ k ∈ calibrating.shf.calPending, k < 4)) :=
  by constructorm* _ ∧ _ <;> decide +kernel

theorem witness_StartAndStop :
    (((ready sheaf0 []).grants (critOf (ready sheaf0 []) 2 [] (leBytes 2 700 ++ leBytes 6 0)) 2 [] 8) ∧
      ((badFrame ((critOf (ready sheaf0 []) 2 [] (leBytes 2 700 ++ leBytes 6 0)).params 2 [] 8) = none) ∧
      (700 = leAt ((critOf (ready sheaf0 []) 2 [] (leBytes 2 700 ++ leBytes 6 0)).params 2 [] 8) 0 2) ∧
      ((ready sheaf0 []).startRefusal 700 = none))) ∧
    ((play.grants (critOf play 3 [] (leBytes 2 700 ++ leBytes 6 0)) 3 [] 8) ∧
      ((badFrame ((critOf play 3 [] (leBytes 2 700 ++ leBytes 6 0)).params 3 [] 8) = none) ∧
      (700 = leAt ((critOf play 3 [] (leBytes 2 700 ++ leBytes 6 0)).params 3 [] 8) 0 2) ∧
      (play.running = true) ∧
      (play.shf.stopAt = none) ∧
      (0 < play.framesTo 700) ∧
      (play.framesTo 700 < 512))) ∧
    ((starting.grants (critOf starting 3 [] (leBytes 2 700 ++ leBytes 6 0)) 3 [] 8) ∧
      ((badFrame ((critOf starting 3 [] (leBytes 2 700 ++ leBytes 6 0)).params 3 [] 8) = none) ∧
      (700 = leAt ((critOf starting 3 [] (leBytes 2 700 ++ leBytes 6 0)).params 3 [] 8) 0 2) ∧
      (starting.run = runFaulted ∨ starting.run = runStarting))) ∧
    (((startRun 6).grants (critOf starting 3 [] (leBytes 2 700 ++ leBytes 6 0)) 3 [] 8) ∧
      ((badFrame ((critOf starting 3 [] (leBytes 2 700 ++ leBytes 6 0)).params 3 [] 8) = none) ∧
      (700 = leAt ((critOf starting 3 [] (leBytes 2 700 ++ leBytes 6 0)).params 3 [] 8) 0 2) ∧
      ((startRun 6).run = runFaulted ∨ (startRun 6).run = runStarting))) :=
  by constructorm* _ ∧ _ <;> first | decide +kernel | ((with_reducible refine grants_of ?_ ?_ ?_) <;> [decide +kernel; exact admits_of (by decide +kernel) (critOf_crc ..); exact critOf_tag _ _ _ _ _ rfl])

theorem witness_RunMovesThroughItsBoundaries :
    ((starting.run = runStarting)) ∧
    ((starting.run = runStarting) ∧
      (starting.shf.faultAt = none)) ∧
    ((stopping.run = runStopping) ∧
      (stopping.shf.stopAt = some (491520000000 + 491520))) ∧
    ((stopping.run = runStopping) ∧
      (stopping.shf.tail = true) ∧
      (stopping.shf.faultAt = none) ∧
      (stopping.shf.stopAt = some (491520000000 + 491520))) ∧
    ((overranged.shf.stepStop = false) ∧
      (overranged.shf.faultAt = none) ∧
      (overranged.subRuns overranged.tick = true) ∧
      (overranged.granPoisoned (overranged.furrowPlace (overranged.subStart overranged.tick + subTicks)).1
    (overranged.furrowPlace (overranged.subStart overranged.tick + subTicks)).2 =
  false)) ∧
    ((play.shf.stepStop = false) ∧
      (play.shf.faultAt = none) ∧
      (play.subRuns (play.subStart play.tick + subTicks) = true) ∧
      (true = true ∨
  play.granPoisoned (play.furrowPlace (play.subStart play.tick + subTicks)).1
      (play.furrowPlace (play.subStart play.tick + subTicks)).2 =
    true)) ∧
    ((kaState.shf.keepalive.isSome = true)) ∧
    ((kaState.shf.kaLift.isSome = true)) :=
  by constructorm* _ ∧ _ <;> decide +kernel

theorem witness_LinkPlacementOpensAndCloses :
    ((withContent.fires { serve := 0, car := 0, unit := 0, arg := 0 : Act } = true)) ∧
    ((shedding.fires { serve := 0, car := 0, unit := 0, arg := 0 : Act } = true)) ∧
    (((ready sheaf0 []).fires (act 0 255 0) = false)) :=
  by decide +kernel

theorem witness_TransmitPreparation :
    ((withContent.fires (act 0 0 128) = true)) ∧
    ((awaiting.fires (act 0 0 128) = true) ∧
      ((awaiting.symRec (act 0 0 128).car.toNat (awaiting.actBound (act 0 0 128))).await = true) ∧
      ([6] =
  List.filter (fun id ↦ !awaiting.beamPresent id)
    (awaiting.namedBeams (act 0 0 128).car.toNat (awaiting.actBound (act 0 0 128))))) ∧
    ((play.fires (act 0 2 3) = true)) ∧
    ((withContent.fires (act 0 0 0) = true)) ∧
    (((awaiting.symRec 0 491520000000).await = true)) :=
  by constructorm* _ ∧ _ <;> decide +kernel

theorem witness_EngineAndRingRead :
    ((engReady.windowExists 3 = false)) ∧
    ((runStarting ≤ engReady.run) ∧
      (engReady.run ≠ runFaulted) ∧
      (engReady.symBegin engReady.grid 491520000000 = 491520000000) ∧
      (engReady.windowExists 1 = true) ∧
      (List.find?
    (fun a ↦
      have e := engReady.eng a;
      !e.done && !e.played && e.busy == 0 && engReady.eligible a 1)
    (engReady.engFrom (engReady.depth + 1) 491520000000) =
  some 491520000000)) ∧
    ((List.find? (fun e ↦ e.2.busy == 1 && 1 != 0) (engBusy false).txc.eng =
  some (491520000000, { ckpt := true, busy := 1 : EngSym })) ∧
      ({ ckpt := true, busy := 1 : EngSym }.stale = false)) ∧
    ((List.find? (fun e ↦ e.2.busy == 1 && 1 != 0) (engBusy true).txc.eng =
  some (491520000000, { ckpt := true, busy := 1, stale := true : EngSym })) ∧
      ({ ckpt := true, busy := 1, stale := true : EngSym }.stale = true)) ∧
    ((engReady.fires (act 0 0 0) = true)) ∧
    ((engMuted.fires (act 0 0 0) = true)) :=
  by constructorm* _ ∧ _ <;> decide +kernel

theorem witness_ReceiveSettings :
      (play.fires (act 0 128 640) = true) :=
  by decide +kernel

theorem witness_ReceiveSumsAndSounding :
    ((withContent.fires (act 0 0 0) = true)) ∧
    ((play.fires (act 0 3 131200) = true)) ∧
    ((extractingMem.rxc.extracts = [extractMem]) ∧
      (extractMem.mem = true) ∧
      (extractMem.first + extractMem.num * 2 ^ extractingMem.rateK extractMem.car + 416 ≤ extractingMem.tick)) ∧
    ((play.fires (act 0 0 0) = true) ∧
      (bit ((play.soundKernels 0 (act 0 0 0).arg.toNat).soundAct (act 0 0 0)).2.1 7 = true)) ∧
    ((requested.fires (act 0 0 1) = true) ∧
      (bit ((requested.soundKernels 0 (act 0 0 1).arg.toNat).soundAct (act 0 0 1)).2.1 7 = false)) ∧
    (((sounding []).fires (act 0 0 0) = true) ∧
      ((((sounding []).soundKernels 1 (act 0 0 0).arg.toNat).rxc.sounds.any fun x ↦
    x.is (act 0 0 0) (((sounding []).soundKernels 1 (act 0 0 0).arg.toNat).soundAct (act 0 0 0)).1 && x.y != []) =
  true)) ∧
    ((soundCached.rxc.cacheHeld = [(139328, [1, 2])])) ∧
    (((sounding [[(1, [])]]).fires (act 0 0 0) = true) ∧
      (List.find?
    (fun x ↦
      x.is (act 0 0 0)
          (((sounding [[(1, [])]]).placeHeld.soundKernels 2 (act 0 0 0).arg.toNat).soundAct (act 0 0 0)).1 &&
        x.beams != [])
    ((sounding [[(1, [])]]).placeHeld.soundKernels 2 (act 0 0 0).arg.toNat).rxc.sounds =
  some (soundRec [[(1, [])]])) ∧
      ((soundRec [[(1, [])]]).req = none)) ∧
    ((extracting.fires { serve := 0, car := 7, unit := 0, arg := 0 : Act } = true) ∧
      (extracting.portUp Port.up = true) ∧
      (extracting.flag R.LNK_PROTO.POS_VALID = true)) ∧
    ((answering.fires { serve := 0, car := 7, unit := 0, arg := 0 : Act } = true) ∧
      (answering.portUp Port.up = true) ∧
      (answering.flag R.LNK_PROTO.POS_VALID = true) ∧
      (List.find? (fun x ↦ x.car == 0 && x.symT == 491520000000 && x.req.isSome && x.beams != []) answering.rxc.sounds =
  some answered) ∧
      (answering.outputFor 491520000000 = true)) ∧
    ((extracting.fires { serve := 0, car := 7, unit := 0, arg := 0 : Act } = true) ∧
      (extracting.portUp Port.up = true) ∧
      (extracting.flag R.LNK_PROTO.POS_VALID = true) ∧
      (List.find? (fun e ↦ e.k == 2 && !e.mem) extracting.rxc.extracts =
  some { k := 2, path := 0, car := 0, first := 491520000000, num := 2, adc := [], mem := false, sent := 0 : Extraction }) ∧
      (0 < 2) ∧
      ({ k := 2, path := 0, car := 0, first := 491520000000, num := 2, adc := [], mem := false, sent := 0 : Extraction }.sent <
  { k := 2, path := 0, car := 0, first := 491520000000, num := 2, adc := [], mem := false, sent := 0 : Extraction }.num) ∧
      (extracting.outputFor
    ({ k := 2, path := 0, car := 0, first := 491520000000, num := 2, adc := [], mem := false, sent := 0 :
          Extraction }.first +
      { k := 2, path := 0, car := 0, first := 491520000000, num := 2, adc := [], mem := false, sent := 0 :
            Extraction }.sent *
        2 ^
          extracting.rateK
            { k := 2, path := 0, car := 0, first := 491520000000, num := 2, adc := [], mem := false, sent := 0 :
                Extraction }.car) =
  true)) ∧
    ((extracting.fires { serve := 0, car := 7, unit := 0, arg := 0 : Act } = true) ∧
      (extracting.portUp Port.up = true) ∧
      (extracting.flag R.LNK_PROTO.POS_VALID = true) ∧
      (List.find? (fun x ↦ x.id == 5) (extracting.ulSects 0 491520000000 0) = some (sectOf false 5 0 none)) ∧
      (extracting.carriesUl Port.up (sectOf false 5 0 none).layer = true) ∧
      (extracting.outputFor (extracting.symOfSlot 0 491520000000 0) = true)) :=
  by constructorm* _ ∧ _ <;> decide +kernel

theorem witness_DpdSelectionAndCommit :
    ((play.fires (act 0 2 3) = true)) ∧
    (((dpdState false 0).fires (act 0 0 0) = true) ∧
      (0 = bits (act 0 0 0).arg.toNat 1 0) ∧
      (491520000000 =
  (dpdState false 0).actSym (act 0 0 0) (act 0 0 0).car.toNat (bits (act 0 0 0).arg.toNat 8 6)
    (bits (act 0 0 0).arg.toNat 5 2)) ∧
      ([] =
  List.filter (fun p ↦ ((dpdState false 0).bankSet p 0).changed)
    ((dpdState false 0).groupPaths (BitVec.toNat (act 0 0 0).unit)))) ∧
    (((dpdState true 0).fires (act 0 0 0) = true) ∧
      (0 = bits (act 0 0 0).arg.toNat 1 0) ∧
      (491520000000 =
  (dpdState true 0).actSym (act 0 0 0) (act 0 0 0).car.toNat (bits (act 0 0 0).arg.toNat 8 6)
    (bits (act 0 0 0).arg.toNat 5 2)) ∧
      ([0] =
  List.filter (fun p ↦ ((dpdState true 0).bankSet p 0).changed)
    ((dpdState true 0).groupPaths (BitVec.toNat (act 0 0 0).unit))) ∧
      ([0] ≠ []) ∧
      (∀ p ∈ [0], ((dpdState true 0).bankSet p 0).fail = 0)) ∧
    (((dpdState true 2).fires (act 0 0 0) = true) ∧
      (0 = bits (act 0 0 0).arg.toNat 1 0) ∧
      (491520000000 =
  (dpdState true 2).actSym (act 0 0 0) (act 0 0 0).car.toNat (bits (act 0 0 0).arg.toNat 8 6)
    (bits (act 0 0 0).arg.toNat 5 2)) ∧
      ([0] =
  List.filter (fun p ↦ ((dpdState true 2).bankSet p 0).changed)
    ((dpdState true 2).groupPaths (BitVec.toNat (act 0 0 0).unit))) ∧
      (List.find? (fun p ↦ ((dpdState true 2).bankSet p 0).fail != 0) [0] = some 0)) :=
  by constructorm* _ ∧ _ <;> decide +kernel

theorem witness_DpdCaptureAndAdaptation :
    ((play.fires (act 0 1 18) = true) ∧
      (BitVec.toNat (act 0 1 18).unit < play.part.gleaners)) ∧
    ((List.find? (fun c ↦ c.gleaner == 1) capturing.dpd.caps = some capOf)) ∧
    ((play.fires (act 0 0 1) = true)) ∧
    ((List.find? (fun x ↦ x.gleaner == 0 && x.buf == 0) (adapting 1).dpd.adapts = some (adaptOf 1)) ∧
      (0 = if (adaptOf 1).void = 1 then 8 * 0 + (adapting 1).get (glStat 0 2 0) else leAt ((adapting 1).slotHead 0 0) 0 1) ∧
      (0 < (adapting 1).part.paths) ∧
      ((adaptOf 1).void ≠ 0 ∨ (adapting 1).capStale ((adapting 1).slotHead 0 0) = true)) ∧
    (((List.find? (fun x ↦ x.gleaner == 0 && x.buf == 0) (adapting 0).dpd.adapts = some (adaptOf 0)) ∧
      ((adaptOf 0).void = 0) ∧
      ((adapting 0).capStale ((adapting 0).slotHead 0 0) = false) ∧
      (0 = leAt ((adapting 0).slotHead 0 0) 0 1) ∧
      (0 < (adapting 0).part.paths) ∧
      (0 = headOppt ((adapting 0).slotHead 0 0))) ∧
      (alignOk ((adapting 0).slotZ 0 0) ((adapting 0).slotRef 0 0 0) (leAt ((adapting 0).slotHead 0 0) 5 1)
    (headDir ((adapting 0).slotHead 0 0)) =
  false)) ∧
    (((List.find? (fun x ↦ x.gleaner == 0 && x.buf == 0) adaptAt.dpd.adapts = some (adaptOf 0)) ∧
      ((adaptOf 0).void = 0) ∧
      (adaptAt.capStale (adaptAt.slotHead 0 0) = false) ∧
      (0 = leAt (adaptAt.slotHead 0 0) 0 1) ∧
      (0 < adaptAt.part.paths) ∧
      (0 = headOppt (adaptAt.slotHead 0 0))) ∧
      (alignOk (adaptAt.slotZ 0 0) (adaptAt.slotRef 0 0 0) (leAt (adaptAt.slotHead 0 0) 5 1) (headDir (adaptAt.slotHead 0 0)) =
  true) ∧
      ((headDir (adaptAt.slotHead 0 0) = false) ∧
      (adaptAt.hasModel 0 = true))) :=
  by constructorm* _ ∧ _ <;> first | with_reducible exact adaptAt_aligned | with_reducible exact adapting_unaligned 0 | decide +kernel

theorem witness_ConverterActions :
    (((cnvWaits 0).fires (act 0 129 0) = true) ∧
      ((Instr.setNcoTx (act 0 129 0), 0, (cnvWaits 0).param (act 0 129 0).param % 2 ^ 24, 0) ∈
  [(Instr.setNcoTx (act 0 129 0), 0, (cnvWaits 0).param (act 0 129 0).param % 2 ^ 24, 0),
    (Instr.setNcoRx (act 0 129 0), 1, (cnvWaits 0).param (act 0 129 0).param % 2 ^ 24, 0),
    (Instr.dacQuiet (act 0 129 0), 2, 0, 0), (Instr.dacActive (act 0 129 0), 3, 0, 0),
    (Instr.tone (act 0 129 0), 4, (cnvWaits 0).param (act 0 129 0).param, (cnvWaits 0).param ((act 0 129 0).param + 1))])) ∧
    (((cnvWaits 0).fires (act 0 129 0) = true) ∧
      ((Instr.setNcoRx (act 0 129 0), 1, (cnvWaits 0).param (act 0 129 0).param % 2 ^ 24, 0) ∈
  [(Instr.setNcoTx (act 0 129 0), 0, (cnvWaits 0).param (act 0 129 0).param % 2 ^ 24, 0),
    (Instr.setNcoRx (act 0 129 0), 1, (cnvWaits 0).param (act 0 129 0).param % 2 ^ 24, 0),
    (Instr.dacQuiet (act 0 129 0), 2, 0, 0), (Instr.dacActive (act 0 129 0), 3, 0, 0),
    (Instr.tone (act 0 129 0), 4, (cnvWaits 0).param (act 0 129 0).param, (cnvWaits 0).param ((act 0 129 0).param + 1))])) ∧
    (((cnvWaits 0).fires (act 0 129 0) = true) ∧
      ((Instr.dacQuiet (act 0 129 0), 2, 0, 0) ∈
  [(Instr.setNcoTx (act 0 129 0), 0, (cnvWaits 0).param (act 0 129 0).param % 2 ^ 24, 0),
    (Instr.setNcoRx (act 0 129 0), 1, (cnvWaits 0).param (act 0 129 0).param % 2 ^ 24, 0),
    (Instr.dacQuiet (act 0 129 0), 2, 0, 0), (Instr.dacActive (act 0 129 0), 3, 0, 0),
    (Instr.tone (act 0 129 0), 4, (cnvWaits 0).param (act 0 129 0).param, (cnvWaits 0).param ((act 0 129 0).param + 1))])) ∧
    (((cnvWaits 0).fires (act 0 129 0) = true) ∧
      ((Instr.dacActive (act 0 129 0), 3, 0, 0) ∈
  [(Instr.setNcoTx (act 0 129 0), 0, (cnvWaits 0).param (act 0 129 0).param % 2 ^ 24, 0),
    (Instr.setNcoRx (act 0 129 0), 1, (cnvWaits 0).param (act 0 129 0).param % 2 ^ 24, 0),
    (Instr.dacQuiet (act 0 129 0), 2, 0, 0), (Instr.dacActive (act 0 129 0), 3, 0, 0),
    (Instr.tone (act 0 129 0), 4, (cnvWaits 0).param (act 0 129 0).param, (cnvWaits 0).param ((act 0 129 0).param + 1))])) ∧
    (((cnvWaits 0).fires (act 0 129 0) = true) ∧
      ((Instr.tone (act 0 129 0), 4, (cnvWaits 0).param (act 0 129 0).param, (cnvWaits 0).param ((act 0 129 0).param + 1)) ∈
  [(Instr.setNcoTx (act 0 129 0), 0, (cnvWaits 0).param (act 0 129 0).param % 2 ^ 24, 0),
    (Instr.setNcoRx (act 0 129 0), 1, (cnvWaits 0).param (act 0 129 0).param % 2 ^ 24, 0),
    (Instr.dacQuiet (act 0 129 0), 2, 0, 0), (Instr.dacActive (act 0 129 0), 3, 0, 0),
    (Instr.tone (act 0 129 0), 4, (cnvWaits 0).param (act 0 129 0).param, (cnvWaits 0).param ((act 0 129 0).param + 1))])) :=
  by constructorm* _ ∧ _ <;> decide +kernel

theorem witness_BiasOutputs :
    ((play.fires (act 0 0 65536) = true)) ∧
    ((biasState.fires (act 0 255 0) = true) ∧
      (∀ o ∈ biasOuts biasState.part, biasState.flag (bSwitching o) = false)) ∧
    ((List.filter (fun b ↦ b.at_ == 491520000000) (biasLatched 0).cnv.latched =
  [{ out := 2, at_ := 491520000000, code := 291, range := 0 : BiasLatch }]) ∧
      ((biasLatched 0).flag (bSwitching { out := 2, at_ := 491520000000, code := 291, range := 0 : BiasLatch }.out) = false) ∧
      ({ out := 2, at_ := 491520000000, code := 291, range := 0 : BiasLatch }.out < 128)) ∧
    ((List.filter (fun b ↦ b.at_ == 491520000000) (biasLatched 1).cnv.latched =
  [{ out := 2, at_ := 491520000000, code := 291, range := 1 : BiasLatch }]) ∧
      ((biasLatched 1).flag (bSwitching { out := 2, at_ := 491520000000, code := 291, range := 1 : BiasLatch }.out) = false) ∧
      ({ out := 2, at_ := 491520000000, code := 291, range := 1 : BiasLatch }.out < 128)) ∧
    ((127 < 128)) :=
  by constructorm* _ ∧ _ <;> decide +kernel

theorem witness_CalibrationRuns :
    ((1 < (calState { : CalChip }).part.chiplets) ∧
      (((calState { : CalChip }).calChip 1).run = none) ∧
      (((calState { : CalChip }).calChip 1).fullCal = false) ∧
      (((calState { : CalChip }).calChip 1).unlocked = false) ∧
      ((calState { : CalChip }).run ≠ runApplying) ∧
      ((calState { : CalChip }).calReady 1 = [1, 2]) ∧
      ((calState { : CalChip }).running = false ∨
  ∃ w, ((calState { : CalChip }).calChip 1).window = some w ∧ (calState { : CalChip }).tick + calNominal 1 ≤ w)) ∧
    ((1 < (calState { unlocked := true : CalChip }).part.chiplets) ∧
      (((calState { unlocked := true : CalChip }).calChip 1).run = none) ∧
      (((calState { unlocked := true : CalChip }).calChip 1).fullCal = false) ∧
      (((calState { unlocked := true : CalChip }).calChip 1).unlocked = true) ∧
      (Instr.calStart 1 ∈ [Instr.calStart 1, Instr.synRelockRetry 1])) ∧
    ((1 < (calState { unlocked := true : CalChip }).part.chiplets) ∧
      (((calState { unlocked := true : CalChip }).calChip 1).run = none) ∧
      (((calState { unlocked := true : CalChip }).calChip 1).fullCal = false) ∧
      (((calState { unlocked := true : CalChip }).calChip 1).unlocked = true) ∧
      (Instr.synRelockRetry 1 ∈ [Instr.calStart 1, Instr.synRelockRetry 1])) ∧
    ((1 < 4) ∧
      (((calState { run := some calRunOf, overruns := [(1, 3)] : CalChip }).calChip 1).run = some calRunOf) ∧
      (calRunOf.forLock = false) ∧
      (calRunOf.overrun = false) ∧
      (calRunOf.kind < 5)) ∧
    ((1 < 4) ∧
      (((calState { run := some calRunOf : CalChip }).calChip 1).run = some calRunOf) ∧
      (calRunOf.overrun = false)) ∧
    ((calPlay.fires (act 0 1 0) = true)) ∧
    ((1 < 4)) ∧
    ((1 < (calState { : CalChip }).part.chiplets) ∧
      (((calState { : CalChip }).calChip 1).run = none) ∧
      (((calState { : CalChip }).calChip 1).fullCal = false) ∧
      (((calState { : CalChip }).calChip 1).unlocked = false)) ∧
    ((1 < (calState { run := some calRunOf : CalChip }).part.chiplets) ∧
      (((calState { run := some calRunOf : CalChip }).calChip 1).unlocked = false) ∧
      (((calState { run := some calRunOf : CalChip }).calChip 1).run.isSome = true ∨
  ((calState { run := some calRunOf : CalChip }).calChip 1).fullCal = true)) ∧
    ((1 < (calState { unlocked := true : CalChip }).part.chiplets) ∧
      (((calState { unlocked := true : CalChip }).calChip 1).run = none) ∧
      (((calState { unlocked := true : CalChip }).calChip 1).fullCal = false) ∧
      (((calState { unlocked := true : CalChip }).calChip 1).unlocked = true)) :=
  by constructorm* _ ∧ _ <;> decide +kernel

theorem witness_FrontEndLinesAndBuses :
    ((play.fires (act 0 3 640) = true)) ∧
    ((Instr.femChangeInstant 491520000000 ∈ [Instr.femChangeInstant 491520000000, Instr.powerStepBoundary 491520000000])) ∧
    ((Instr.powerStepBoundary 491520000000 ∈ [Instr.femChangeInstant 491520000000, Instr.powerStepBoundary 491520000000])) ∧
    ((play.fires (act 0 1 0) = true)) ∧
    ((((fsbTimed [] 1).fsbBus 2).send = [(491520000001, [537010560])]) ∧
      ((fsbTimed [] 1).tick < 491520000001)) ∧
    ((((fsbTimed [] 0).fsbBus 2).send = [(491520000000, [537010560])]) ∧
      (491520000000 ≤ (fsbTimed [] 0).tick) ∧
      (((fsbTimed [] 0).fsbBus 2).run = [])) ∧
    ((((fsbTimed [5] 0).fsbBus 2).send = [(491520000000, [537010560])]) ∧
      (491520000000 ≤ (fsbTimed [5] 0).tick) ∧
      (((fsbTimed [5] 0).fsbBus 2).run ≠ [])) ∧
    ((((fsbTimed [] 1).fsbBus 2).run = []) ∧
      (((fsbTimed [] 1).fsbBus 2).wait = [[7, 8]]) ∧
      (∀ x ∈ ((fsbTimed [] 1).fsbBus 2).send.head?, (fsbTimed [] 1).tick < x.1)) ∧
    (((fsbBusy.fsbBus 2).run = [2148532225])) ∧
    ((((fsbTimed [2148532225] 0).fsbBus 2).run = [2148532225])) ∧
    (((ready sheaf0 []).run ≠ runStarting) ∧
      ((ready sheaf0 []).running = false) ∧
      ((ready sheaf0 []).flag R.RFE_FSBCMD.BUSY = false)) ∧
    ((fsbIdleBusy.run ≠ runStarting) ∧
      (fsbIdleBusy.running = false) ∧
      (fsbIdleBusy.flag R.RFE_FSBCMD.BUSY = false)) ∧
    ((play.run = runStarting ∨ play.running = true ∨ play.flag R.RFE_FSBCMD.BUSY = true)) :=
  by constructorm* _ ∧ _ <;> decide +kernel

theorem witness_AlertsAndProtection :
    ((255 < 256)) ∧
    ((3 < 8) ∧
      (256 ≤ 256) ∧
      (alertClocked.tim.running = true)) ∧
    ((1 < 8) ∧
      (256 ≤ 256) ∧
      (alertClocked.tim.running = true)) ∧
    ((2 < 8) ∧
      (bit (alertState.get R.RFE_ALERT.LEVEL) 2 = false)) ∧
    ((1 < 8) ∧
      (bit (alertState.get R.RFE_ALERT.LEVEL) 1 = true)) ∧
    ((5 < alertState.part.paths) ∧
      (alertState.tripped 5 = true)) :=
  by constructorm* _ ∧ _ <;> decide +kernel

theorem witness_TineBus :
    ((tineState.fires (act 0 2 0) = true) ∧
      (tineState.tineUsed (BitVec.toNat (act 0 2 0).unit) = true) ∧
      ([{ chain := 2, at_ := 491520000000, chip := 1, words := List.replicate 16 85 : TineHeld }] =
  List.filter (fun h ↦ h.chain == BitVec.toNat (act 0 2 0).unit && h.at_ == tineState.actBound (act 0 2 0))
    tineState.rfe.tineHeld)) ∧
    ((tineState.fires (act 0 255 0) = true)) ∧
    (((tineState.tineChain 2).onBus = [[true, false]])) ∧
    (((tineState.tineChain 2).idle = true)) :=
  by constructorm* _ ∧ _ <;> decide +kernel

theorem witness_TileOperationsJoinTheirBundle :
    (((tileRun.tile 1).st = tiRunning)) ∧
    ((((tileAs 3).tile 1).st ≠ tiRunning) ∧
      (((tileAs 3).tile 1).st ≠ tiOff ∨ (tileAs 3).bound = true)) ∧
    (((tileSelf.tile 1).st = tiOff) ∧
      (tileSelf.bound = false)) :=
  by decide +kernel

theorem witness_TileScalarOperations :
    ((tileRun.issues 1 tileDue)) ∧
    ((tileRun.issues 1 tileDue) ∧
      (tileDue.src (SSrc.s 1) < 32)) ∧
    ((tileRun.issues 1 tileDue) ∧
      ((tileDue.src (SSrc.s 1) < 32) ∧
      (bit (tileDue.src (SSrc.s 3)) 31 = false))) ∧
    ((tileRun.issues 1 tileDue) ∧
      (32 ≤ tileDue.src (SSrc.s 2))) :=
  by constructorm* _ ∧ _ <;> first | decide +kernel | (with_reducible refine issues_of ?_; decide +kernel)

theorem witness_TileVectorOperations :
    ((tileRun.issues 1 tileDue)) ∧
    ((tileRun.issues 1 tileDue) ∧
      ((15 + if true = true then 1 else 0) = 15 + if true = true then 1 else 0)) ∧
    ((tileRun.issues 1 tileDue) ∧
      ((15 + if false = true then 1 else 0) = 15 + if false = true then 1 else 0)) ∧
    ((tileRun.issues 1 tileDue) ∧
      (tileDue.src (SSrc.s 1) ≤ 31)) ∧
    ((tileRun.issues 1 tileDue) ∧
      (31 < tileDue.src (SSrc.s 2))) :=
  by constructorm* _ ∧ _ <;> first | decide +kernel | (with_reducible refine issues_of ?_; decide +kernel)

theorem witness_TileLoadsAndStores :
    ((tileRun.issues 1 tileDue) ∧
      (tileRun.mem.poison = [])) ∧
    ((tileBad.issues 1 (tileBad.tile 1).due) ∧
      (tileBad.localBad 1 ((tileBad.tile 1).due.access ta 64) 64 = true)) ∧
    ((tileRun.issues 1 tileDue) ∧
      ((tileRun.protLen 1 ≤ tileDue.access ta 64) ∧
      (tileDue.access ta 64 < localBytes))) ∧
    ((tileRun.issues 1 tileDue) ∧
      ((tileRun.protLen 1 ≤ tileDue.access ta 64) ∧
      (tileDue.access ta 64 < localBytes) ∧
      (tileDue.access ta 64 + 256 ≤ localBytes ∨ tileRun.protLen 1 = 0))) ∧
    ((tileTop.issues 1 (tileTop.tile 1).due) ∧
      ((tileTop.protLen 1 ≤ (tileTop.tile 1).due.access ta 64) ∧
      ((tileTop.tile 1).due.access ta 64 < localBytes) ∧
      (localBytes < (tileTop.tile 1).due.access ta 64 + 256) ∧
      (0 < tileTop.protLen 1))) ∧
    ((tileRun.issues 1 tileDue) ∧
      ((tileRun.protLen 1 ≤ tileDue.access ta 4) ∧
      (tileDue.access ta 4 < localBytes))) ∧
    ((tileLow.issues 1 (tileLow.tile 1).due) ∧
      ((tileLow.tile 1).due.access ta 64 < tileLow.protLen 1)) ∧
    ((tileLow.issues 1 (tileLow.tile 1).due) ∧
      ((tileLow.tile 1).due.access ta 4 < tileLow.protLen 1)) :=
  by constructorm* _ ∧ _ <;> first | decide +kernel | (with_reducible refine issues_of ?_; decide +kernel)

theorem witness_TileSequencingAndStreams :
    ((tileRun.issues 1 tileDue)) ∧
    ((tileRun.issues 1 tileDue) ∧
      ((List.filter (fun q ↦ decide (tileDue.cyc ≤ q.doneAt)) tileDue.queue).length < 4)) ∧
    ((tileRun.issues 1 tileDue) ∧
      (((List.filter (fun q ↦ decide (tileDue.cyc ≤ q.doneAt)) tileDue.queue).length < 4) ∧
      ((tileRun.windowAddr tileDue.kernel 0 (tileDue.sReg 1 / 8 * 8) 400 !false) = none))) ∧
    (((tileRun.tile 1).st = tiRunning) ∧
      ((tileRun.tile 1).bundle = []) ∧
      ((tileRun.tile 1).need = 0)) ∧
    ((((tileLoopOne [[TOp.rep (TCount.imm 4)]]).tile 1).need = 1) ∧
      (((tileLoopOne [[TOp.rep (TCount.imm 4)]]).tile 1).st = tiRunning) ∧
      (((tileLoopOne [[TOp.rep (TCount.imm 4)]]).tile 1).bundle = []) ∧
      (((tileLoopOne [[TOp.rep (TCount.imm 4)]]).tile 1).todo = []) ∧
      (((tileLoopOne [[TOp.rep (TCount.imm 4)]]).tile 1).waiting = false) ∧
      (((tileLoopOne [[TOp.rep (TCount.imm 4)]]).tile 1).queue = []) ∧
      (((tileLoopOne [[TOp.rep (TCount.imm 4)]]).tile 1).code = [[TOp.rep (TCount.imm 4)]])) ∧
    ((((tileLoopOne [[TOp.loop (TCount.imm 4) 1]]).tile 1).need = 1) ∧
      (((tileLoopOne [[TOp.loop (TCount.imm 4) 1]]).tile 1).st = tiRunning) ∧
      (((tileLoopOne [[TOp.loop (TCount.imm 4) 1]]).tile 1).bundle = []) ∧
      (((tileLoopOne [[TOp.loop (TCount.imm 4) 1]]).tile 1).todo = []) ∧
      (((tileLoopOne [[TOp.loop (TCount.imm 4) 1]]).tile 1).waiting = false) ∧
      (((tileLoopOne [[TOp.loop (TCount.imm 4) 1]]).tile 1).queue = []) ∧
      (((tileLoopOne [[TOp.loop (TCount.imm 4) 1]]).tile 1).code = [[TOp.loop (TCount.imm 4) 1]])) ∧
    ((((tileLoopOne [[TOp.loop (TCount.k 7) 1]]).tile 1).need = 1) ∧
      (((tileLoopOne [[TOp.loop (TCount.k 7) 1]]).tile 1).st = tiRunning) ∧
      (((tileLoopOne [[TOp.loop (TCount.k 7) 1]]).tile 1).bundle = []) ∧
      (((tileLoopOne [[TOp.loop (TCount.k 7) 1]]).tile 1).todo = []) ∧
      (((tileLoopOne [[TOp.loop (TCount.k 7) 1]]).tile 1).waiting = false) ∧
      (((tileLoopOne [[TOp.loop (TCount.k 7) 1]]).tile 1).queue = []) ∧
      (((tileLoopOne [[TOp.loop (TCount.k 7) 1]]).tile 1).code = [[TOp.loop (TCount.k 7) 1]])) ∧
    (((tileXfer.tile 1).queue = [xferOf]) ∧
      (0 < 8 * (xferOf.words - xferOf.moved)) ∧
      (xferOf.inbound = true) ∧
      (tileXfer.protLen 1 ≤ xferOf.local_ + 8 * xferOf.moved) ∧
      (xferOf.local_ + 8 * xferOf.moved + 8 * (xferOf.words - xferOf.moved) ≤ localBytes) ∧
      ((tileXfer.tile 1).todo = []) ∧
      (tileXfer.granPoisoned (xferOf.shared + 8 * xferOf.moved) (8 * (xferOf.words - xferOf.moved)) = false)) ∧
    ((((tileQueued xferOut).tile 1).queue = [xferOut]) ∧
      (0 < 8 * (xferOut.words - xferOut.moved)) ∧
      (xferOut.inbound = false) ∧
      (xferOut.local_ + 8 * xferOut.moved + 8 * (xferOut.words - xferOut.moved) ≤ localBytes) ∧
      (((tileQueued xferOut).tile 1).todo = []) ∧
      ((tileQueued xferOut).mem.poison = [])) ∧
    ((((tileQueued xferPast).tile 1).queue = [xferPast]) ∧
      (0 < 8 * (xferPast.words - xferPast.moved)) ∧
      (xferPast.inbound = false) ∧
      (xferPast.local_ + 8 * xferPast.moved + 8 * (xferPast.words - xferPast.moved) ≤ localBytes) ∧
      (((tileQueued xferPast).tile 1).todo = []) ∧
      ((tileQueued xferPast).mem.poison = [])) ∧
    ((((tileQueued xferLow).tile 1).queue = [xferLow]) ∧
      (0 < 8 * (xferLow.words - xferLow.moved)) ∧
      (xferLow.inbound = true) ∧
      (xferLow.local_ + 8 * xferLow.moved < (tileQueued xferLow).protLen 1) ∧
      ((tileQueued xferLow).granPoisoned (xferLow.shared + 8 * xferLow.moved) (8 * (xferLow.words - xferLow.moved)) = false)) ∧
    ((((tileQueued xferMoved).tile 1).queue = [xferMoved]) ∧
      (xferMoved.words ≤ xferMoved.moved) ∧
      (((tileQueued xferMoved).tile 1).todo = [])) :=
  by constructorm* _ ∧ _ <;> first | decide +kernel | (with_reducible refine issues_of ?_; decide +kernel)

theorem witness_KernelStartsAndChecks :
    (((tileAs 1).fires (act 0 1 0) = true) ∧
      (((tileAs 1).tile (BitVec.toNat (act 0 1 0).unit)).st = tiIdle ∨
  ((tileAs 1).tile (BitVec.toNat (act 0 1 0).unit)).st = tiRunning ∨
    ((tileAs 1).tile (BitVec.toNat (act 0 1 0).unit)).st = tiHalted) ∧
      (((tileAs 1).tile (BitVec.toNat (act 0 1 0).unit)).failed = false) ∧
      (leAt ((tileAs 1).kernelEntry (bits (act 0 1 0).arg.toNat 11 0)) 3 1 ≠ 1)) ∧
    (((tileAs 1).fires (act 0 1 1) = true) ∧
      (((tileAs 1).tile (BitVec.toNat (act 0 1 1).unit)).st = tiIdle ∨
  ((tileAs 1).tile (BitVec.toNat (act 0 1 1).unit)).st = tiRunning ∨
    ((tileAs 1).tile (BitVec.toNat (act 0 1 1).unit)).st = tiHalted) ∧
      (((tileAs 1).tile (BitVec.toNat (act 0 1 1).unit)).failed = false) ∧
      (leAt ((tileAs 1).kernelEntry (bits (act 0 1 1).arg.toNat 11 0)) 3 1 = 1) ∧
      ((act 0 1 1).car.toNat < 4) ∧
      ((tileAs 1).checkSyms (act 0 1 1) (if false = true then subTicks else 0) = [491520000000]) ∧
      (((tileAs 1).symRec (act 0 1 1).car.toNat 491520000000).begun = false)) ∧
    (((tileAs 4).fires (act 0 1 0) = true) ∧
      (((tileAs 4).tile (BitVec.toNat (act 0 1 0).unit)).st = tiSuspended ∨
  ((tileAs 4).tile (BitVec.toNat (act 0 1 0).unit)).st = tiFailed)) ∧
    (((tileAs 0).fires (act 0 1 0) = true) ∧
      (((tileAs 0).tile (BitVec.toNat (act 0 1 0).unit)).st = tiOff)) ∧
    ((tileHurt.fires (act 0 1 0) = true) ∧
      ((tileHurt.tile (BitVec.toNat (act 0 1 0).unit)).st = tiIdle ∨
  (tileHurt.tile (BitVec.toNat (act 0 1 0).unit)).st = tiRunning ∨
    (tileHurt.tile (BitVec.toNat (act 0 1 0).unit)).st = tiHalted) ∧
      ((tileHurt.tile (BitVec.toNat (act 0 1 0).unit)).failed = true)) ∧
    (((tileAs 2).fires (act 0 1 1) = true) ∧
      (leAt ((tileAs 2).kernelEntry (bits (act 0 1 1).arg.toNat 11 0)) 3 1 = 1) ∧
      ((act 0 1 1).car.toNat < 4)) ∧
    (((tileAs 4).fires (act 7 1 0) = true) ∧
      (leAt ((tileAs 4).kernelEntry (bits (act 7 1 0).arg.toNat 11 0)) 3 1 ≠ 1) ∧
      (((tileAs 4).tile (BitVec.toNat (act 7 1 0).unit)).st = tiSuspended ∨
  ((tileAs 4).tile (BitVec.toNat (act 7 1 0).unit)).st = tiFailed ∨
    ((tileAs 4).tile (BitVec.toNat (act 7 1 0).unit)).missed = true ∧
      ((tileAs 4).tile (BitVec.toNat (act 7 1 0).unit)).st ≠ tiOff)) ∧
    ((tileEnded.fires (act 7 1 0) = true) ∧
      ((tileEnded.tile (BitVec.toNat (act 7 1 0).unit)).st = tiIdle ∨
  (tileEnded.tile (BitVec.toNat (act 7 1 0).unit)).st = tiRunning ∨
    (tileEnded.tile (BitVec.toNat (act 7 1 0).unit)).st = tiHalted) ∧
      ((tileEnded.tile (BitVec.toNat (act 7 1 0).unit)).missed = false) ∧
      (leAt (tileEnded.kernelEntry (bits (act 7 1 0).arg.toNat 11 0)) 3 1 ≠ 1)) ∧
    (((tileAs 2).fires (act 7 1 0) = true) ∧
      (((tileAs 2).tile (BitVec.toNat (act 7 1 0).unit)).st = tiIdle ∨
  ((tileAs 2).tile (BitVec.toNat (act 7 1 0).unit)).st = tiRunning ∨
    ((tileAs 2).tile (BitVec.toNat (act 7 1 0).unit)).st = tiHalted) ∧
      (((tileAs 2).tile (BitVec.toNat (act 7 1 0).unit)).missed = false) ∧
      (leAt ((tileAs 2).kernelEntry (bits (act 7 1 0).arg.toNat 11 0)) 3 1 ≠ 1)) ∧
    (((tileAs 4).fires (act 7 1 0) = true) ∧
      (((tileAs 4).tile 1).st = tiSuspended)) :=
  by constructorm* _ ∧ _ <;> decide +kernel

theorem witness_DmaChannelsStartAndStop :
    (((dmaState [(R.DMA_CHSTAT_n.STATE 0, 3)]).fires (act 0 0 9) = true) ∧
      ((dmaState [(R.DMA_CHSTAT_n.STATE 0, 3)]).scheduled (BitVec.toNat (act 0 0 9).unit) = true) ∧
      (0 = BitVec.toNat (act 0 0 9).unit)) ∧
    (((dmaState [(R.DMA_CHSTAT_n.STATE 0, 3)]).fires (act 0 0 9) = true) ∧
      ((dmaState [(R.DMA_CHSTAT_n.STATE 0, 3)]).scheduled (BitVec.toNat (act 0 0 9).unit) = true) ∧
      (0 = BitVec.toNat (act 0 0 9).unit) ∧
      ((dmaState [(R.DMA_CHSTAT_n.STATE 0, 3)]).chState 0 = chIdle ∨
  (dmaState [(R.DMA_CHSTAT_n.STATE 0, 3)]).chState 0 = chHalted)) ∧
    (((dmaState [(R.DMA_CHSTAT_n.STATE 0, 1)]).fires (act 0 0 9) = true) ∧
      ((dmaState [(R.DMA_CHSTAT_n.STATE 0, 1)]).scheduled (BitVec.toNat (act 0 0 9).unit) = true) ∧
      (0 = BitVec.toNat (act 0 0 9).unit) ∧
      ((dmaState [(R.DMA_CHSTAT_n.STATE 0, 1)]).chState 0 = chRunning ∨
  (dmaState [(R.DMA_CHSTAT_n.STATE 0, 1)]).chState 0 = chBarrier)) ∧
    ((15 < 16) ∧
      ((dmaState [(R.DMA_CHCTL_n.HEAD 15, 77)]).scheduled 15 = false) ∧
      ((dmaState [(R.DMA_CHCTL_n.HEAD 15, 77)]).chState 15 = chIdle)) ∧
    ((1 < 16) ∧
      ((dmaState [(R.DMA_CHSTAT_n.STATE 1, 1)]).scheduled 1 = false ∧
    (dmaState [(R.DMA_CHSTAT_n.STATE 1, 1)]).chState 1 ≠ chIdle ∨
  (dmaState [(R.DMA_CHSTAT_n.STATE 1, 1)]).scheduled 1 = true ∧ (dmaState [(R.DMA_CHSTAT_n.STATE 1, 1)]).running = false)) ∧
    ((0 < 16) ∧
      (dmaIdleRun.scheduled 0 = false ∧ dmaIdleRun.chState 0 ≠ chIdle ∨
  dmaIdleRun.scheduled 0 = true ∧ dmaIdleRun.running = false)) ∧
    ((0 < 16) ∧
      ((dmaState []).scheduled 0 = true) ∧
      ((dmaState []).running = true)) ∧
    ((1 < 16) ∧
      ((dmaState [(R.DMA_CHSTAT_n.STATE 1, 3)]).chState 1 = chHalted)) ∧
    ((1 < 16) ∧
      ((dmaState []).chState 1 ≠ chHalted ∨ (dmaState []).scheduled 1 = true ∧ (dmaState []).running = true)) ∧
    (((dmaState [(R.DMA_DWIN_SEL.INDEX, 1), (R.DMA_DWIN_SEL.WORD, 3), (R.DMA_DWIN_LO.LO, 305419896)]).dmaCount ≤
  (dmaState [(R.DMA_DWIN_SEL.INDEX, 1), (R.DMA_DWIN_SEL.WORD, 3), (R.DMA_DWIN_LO.LO, 305419896)]).get
    R.DMA_DWIN_SEL.INDEX)) ∧
    (((dmaState []).get R.DMA_DWIN_SEL.INDEX < (dmaState []).dmaCount)) ∧
    ((dmaPoisoned.granPoisoned
    (descBase + 32 * dmaPoisoned.get R.DMA_DWIN_SEL.INDEX + 8 * dmaPoisoned.get R.DMA_DWIN_SEL.WORD) 8 =
  true)) ∧
    (((dmaState []).granPoisoned
    (descBase + 32 * (dmaState []).get R.DMA_DWIN_SEL.INDEX + 8 * (dmaState []).get R.DMA_DWIN_SEL.WORD) 8 =
  false)) :=
  by constructorm* _ ∧ _ <;> decide +kernel

theorem witness_DmaRings :
    ((1 < 16) ∧
      (1024 = 0 ∨ 256 ≤ 1024 ∧ 1024 % 8 = 0) ∧
      (¬(ringState.scheduled 1 = true ∧ ringState.dmaRlen 1 < 1024))) ∧
    ((2 < 16) ∧
      (256 = 0 ∨ 256 ≤ 256 ∧ 256 % 8 = 0) ∧
      (¬(ringState.scheduled 2 = true ∧ ringState.dmaRlen 2 < 256))) ∧
    ((0 < 16) ∧
      (520 = 0 ∨ 256 ≤ 520 ∧ 520 % 8 = 0) ∧
      (ringState.scheduled 0 = true) ∧
      (ringState.dmaRlen 0 < 520)) ∧
    ((1 < 16) ∧
      (¬(255 = 0 ∨ 256 ≤ 255 ∧ 255 % 8 = 0))) ∧
    ((1 < 16) ∧
      (56 % 8 = 0) ∧
      (56 ≤ ringState.ringUnread 1)) ∧
    ((1 < 16) ∧
      (64 % 8 = 0) ∧
      (64 ≤ ringState.ringUnread 1)) ∧
    ((1 < 16) ∧
      (128 % 8 = 0) ∧
      (128 ≤ ringState.ringUnread 1)) ∧
    ((1 < 16) ∧
      (136 % 8 = 0) ∧
      (ringState.ringUnread 1 < 136)) :=
  by constructorm* _ ∧ _ <;> decide +kernel

theorem witness_DmaBurstsAndBarriers :
    (((dmaState []).dmaPick true = none)) ∧
    ((2 < 16) ∧
      ((dmaMoving 32).dmaPick true = some 2) ∧
      (((dmaMoving 32).chan 2).cur = some (5, linear 32)) ∧
      ((dmaMoving 32).chState 2 = chRunning) ∧
      (dKind (linear 32) = 0) ∧
      (dSrcSp (linear 32) = 0) ∧
      (dDstSp (linear 32) = 0) ∧
      (dDescending (linear 32) = false) ∧
      (((dmaMoving 32).chan 2).pos < dLen (linear 32)) ∧
      (99680264 = dDst (linear 32) + ((dmaMoving 32).chan 2).pos) ∧
      (24 = min (dLen (linear 32) - ((dmaMoving 32).chan 2).pos) (128 - 99680264 % 128)) ∧
      (∀ j < 24,
  (dmaMoving 32).dmaRegion ((dmaMoving 32).scheduled 2) 0 (dSrc (linear 32) + ((dmaMoving 32).chan 2).pos + j) = true ∧
    (dmaMoving 32).dmaRegion ((dmaMoving 32).scheduled 2) 0 (99680264 + j) = true ∧
      (dmaMoving 32).granPoisoned (dSrc (linear 32) + ((dmaMoving 32).chan 2).pos + j) 1 = false)) ∧
    ((2 < 16) ∧
      ((dmaMoving 512).dmaPick true = some 2) ∧
      (((dmaMoving 512).chan 2).cur = some (5, linear 512)) ∧
      ((dmaMoving 512).chState 2 = chRunning) ∧
      (dKind (linear 512) = 0) ∧
      (dSrcSp (linear 512) = 0) ∧
      (dDstSp (linear 512) = 0) ∧
      (dDescending (linear 512) = false) ∧
      (((dmaMoving 512).chan 2).pos < dLen (linear 512)) ∧
      (99680264 = dDst (linear 512) + ((dmaMoving 512).chan 2).pos) ∧
      (120 = min (dLen (linear 512) - ((dmaMoving 512).chan 2).pos) (128 - 99680264 % 128)) ∧
      (∀ j < 120,
  (dmaMoving 512).dmaRegion ((dmaMoving 512).scheduled 2) 0 (dSrc (linear 512) + ((dmaMoving 512).chan 2).pos + j) =
      true ∧
    (dmaMoving 512).dmaRegion ((dmaMoving 512).scheduled 2) 0 (99680264 + j) = true ∧
      (dmaMoving 512).granPoisoned (dSrc (linear 512) + ((dmaMoving 512).chan 2).pos + j) 1 = false)) ∧
    ((2 < 16) ∧
      (dmaDram.dmaPick true = some 2) ∧
      ((dmaDram.chan 2).cur = some (5, dramDesc)) ∧
      (dmaDram.chState 2 = chRunning) ∧
      (dSrcSp dramDesc = 1 ∨ dDstSp dramDesc = 1) ∧
      (dmaDram.scheduled 2 = true ∨ dmaDram.slotOpenTo true dramDesc = true) ∧
      (dKind dramDesc = 2 →
  dLen dramDesc - (dmaDram.chan 2).pos + 8 ≤ dmaDram.get (R.DMA_RCUR_n.LEN 2) ∧
    dLen dramDesc - (dmaDram.chan 2).pos ≤ dmaDram.ringFree 2) ∧
      (dmaDram.dramOk = true) ∧
      (∀ a ∈ dmaSources dramDesc (dmaDram.dmaPairs 2 dramDesc (dmaDram.chan 2).pos),
  dmaDram.dmaRegion (dmaDram.scheduled 2) (dSrcSp dramDesc) a = true ∧ dmaDram.granPoisoned a 1 = false) ∧
      (∀ p ∈ dmaDram.dmaPairs 2 dramDesc (dmaDram.chan 2).pos,
  dmaDram.dmaRegion (dmaDram.scheduled 2) (dDstSp dramDesc) p.2 = true) ∧
      ((dmaDram.chan 2).tries < dmaDram.get R.DMA_CFG.RETRY)) ∧
    ((∀ k < 16, (dmaState []).barrierMet k = false)) ∧
    ((List.filter dmaBarrier.barrierMet (List.range 16) = [2]) ∧
      ((dmaBarrier.chan 2).cur = some (5, [9 + 3 * 65536, 0, 0, 2])) ∧
      (dEnd [9 + 3 * 65536, 0, 0, 2] = false)) :=
  by constructorm* _ ∧ _ <;> decide +kernel

theorem witness_DramTrainingAndRefresh :
    (((awake [(R.SYS_BOOTSTAT.STAGE, 4)]).get R.SYS_BOOTSTAT.STAGE = 4)) ∧
    (((dramState [(R.MEM_DSTAT.STATE, 1), (R.SYS_BOOTSTAT.STAGE, 6)]).get R.MEM_DSTAT.STATE = 1) ∧
      (5 ≤ (dramState [(R.MEM_DSTAT.STATE, 1), (R.SYS_BOOTSTAT.STAGE, 6)]).get R.SYS_BOOTSTAT.STAGE)) ∧
    (((dramState []).dramOk = true)) ∧
    (((dramState [(R.MEM_DSTAT.STATE, 4)]).dramFailed = true) ∧
      ((dramState [(R.MEM_DSTAT.STATE, 4)]).run = runEmpty ∨
  (dramState [(R.MEM_DSTAT.STATE, 4)]).run = runReady ∨ (dramState [(R.MEM_DSTAT.STATE, 4)]).run = runFaulted)) ∧
    (((playing sheaf0 [(R.MEM_DSTAT.STATE, 4)]).dramFailed = true) ∧
      (¬((playing sheaf0 [(R.MEM_DSTAT.STATE, 4)]).run = runEmpty ∨
    (playing sheaf0 [(R.MEM_DSTAT.STATE, 4)]).run = runReady ∨
      (playing sheaf0 [(R.MEM_DSTAT.STATE, 4)]).run = runFaulted))) ∧
    (((dramState [(R.MEM_DSTAT.RETRAIN, 1)]).flag R.MEM_DSTAT.RETRAIN = true) ∧
      (∀ l ∈ lanes8 true, l.works = true ∨ l.kept = true)) ∧
    ((refreshing.get R.MEM_DSTAT.STATE = 2) ∧
      ([1, 2].length ≤ 4) ∧
      ([1, 2].Nodup)) ∧
    ((refreshing.get R.MEM_DSTAT.STATE = 2) ∧
      (1 = List.foldl max 0 (List.map (fun x ↦ x % 4) [1, 0])) ∧
      (1 < 2) ∧
      (refreshing.mem.rates = [] ∨ refreshing.mem.rates = [1, 0]) ∧
      (∀ e ∈ refreshing.mem.postponed, e.2 < 8)) ∧
    ((refreshingHot.get R.MEM_DSTAT.STATE = 2) ∧
      (2 = List.foldl max 0 (List.map (fun x ↦ x % 4) [1, 2])) ∧
      (2 ≤ 2) ∧
      (refreshingHot.mem.rates = [] ∨ refreshingHot.mem.rates = [1, 2]) ∧
      (∀ e ∈ List.foldl (fun m b ↦ sparseSet 0 m b (sparseGet 0 m b + 1)) refreshingHot.mem.postponed [1, 7, 7], e.2 < 8)) ∧
    ((refreshing.get R.MEM_DSTAT.STATE = 2) ∧
      (refreshing.mem.rates ≠ []) ∧
      (refreshing.mem.rates ≠ [2, 5]) ∧
      (∀ e ∈ List.foldl (fun m b ↦ sparseSet 0 m b (sparseGet 0 m b + 1)) refreshing.mem.postponed [4], e.2 < 8) ∧
      (∀ e ∈ refreshing.mem.postponed, e.2 < 8)) ∧
    (((dramState [(R.MEM_DCTL.SR_EN, 1)]).flag R.MEM_DCTL.SR_EN = true) ∧
      ((dramState [(R.MEM_DCTL.SR_EN, 1)]).run = runEmpty ∨
  (dramState [(R.MEM_DCTL.SR_EN, 1)]).run = runReady ∨ (dramState [(R.MEM_DCTL.SR_EN, 1)]).run = runFaulted) ∧
      ((dramState [(R.MEM_DCTL.SR_EN, 1)]).flag R.MEM_DSTAT.RETRAIN = false) ∧
      ((dramState [(R.MEM_DCTL.SR_EN, 1)]).get R.MEM_DSTAT.STATE = 2) ∧
      ((dramState [(R.MEM_DCTL.SR_EN, 1)]).mem.srAt = none) ∧
      ((dramState [(R.MEM_DCTL.SR_EN, 1)]).mem.reqAt + (dramState [(R.MEM_DCTL.SR_EN, 1)]).get R.MEM_DCTL.SR_IDLE * 491520 ≤
  (dramState [(R.MEM_DCTL.SR_EN, 1)]).tim.cycles)) ∧
    (((srState 5).mem.srAt = some (491520000000 - 5)) ∧
      ((srState 5).tick < 491520000000 - 5 + 24)) ∧
    (((srState 24).mem.srAt = some (491520000000 - 24)) ∧
      (491520000000 - 24 + 24 ≤ (srState 24).tick)) ∧
    (((dramState []).mem.srAt = none) ∧
      ((dramState []).mem.srReady ≤ (dramState []).tick)) ∧
    ((srWaiting.mem.srAt = none) ∧
      (srWaiting.tick < srWaiting.mem.srReady)) :=
  by constructorm* _ ∧ _ <;> decide +kernel

theorem witness_GranaryAndLoftErrors :
    ((74565 < 100663296) ∧
      ((awake []).boot.inReset = false)) ∧
    ((33554431 < 100663296) ∧
      ((awake []).boot.inReset = false)) ∧
    ((33554432 < 100663296) ∧
      ((awake []).boot.inReset = false)) ∧
    ((0 < [1, 2].length) ∧
      ([1, 2].length ≤ 8) ∧
      (3145792 % 8 = 0) ∧
      (3145792 / 64 = (3145792 + 8 * [1, 2].length - 1) / 64) ∧
      (loftWriterOk (awake []).part LoftWriter.other 3145792 = false)) ∧
    ((0 < [1, 2].length) ∧
      ([1, 2].length ≤ 8) ∧
      (3145792 % 8 = 0) ∧
      (3145792 / 64 = (3145792 + 8 * [1, 2].length - 1) / 64) ∧
      (loftWriterOk (awake []).part LoftWriter.tally 3145792 = true) ∧
      (3145728 ≤ 3145792) ∧
      (3145792 < 3702784)) ∧
    ((0 < [1].length) ∧
      ([1].length ≤ 8) ∧
      (3702776 % 8 = 0) ∧
      (3702776 / 64 = (3702776 + 8 * [1].length - 1) / 64) ∧
      (loftWriterOk (awake []).part LoftWriter.tally 3702776 = true) ∧
      (3145728 ≤ 3702776) ∧
      (3702776 < 3702784)) ∧
    ((0 < [1, 2, 3].length) ∧
      ([1, 2, 3].length ≤ 8) ∧
      (3145792 % 8 = 0) ∧
      (3145792 / 64 = (3145792 + 8 * [1, 2, 3].length - 1) / 64) ∧
      (loftWriterOk (awake []).part LoftWriter.tally 3145792 = true) ∧
      (3145728 ≤ 3145792) ∧
      (3145792 < 3702784) ∧
      (2 < [1, 2, 3].length)) ∧
    ((0 < [1, 2].length) ∧
      ([1, 2].length ≤ 8) ∧
      (2883648 % 8 = 0) ∧
      (2883648 / 64 = (2883648 + 8 * [1, 2].length - 1) / 64) ∧
      (loftWriterOk (awake []).part LoftWriter.firmware 2883648 = true) ∧
      (1 < [1, 2].length)) :=
  by constructorm* _ ∧ _ <;> decide +kernel

theorem witness_MonitorConversions :
    (((monState none []).fires (act 0 5 3) = true) ∧
      ((monState none []).mon.on = true) ∧
      ((monState none []).mon.initial = false) ∧
      ((monState none []).mon.cur = none)) ∧
    (((monState (some { ch := some 1, src := 0, slot := 0, start := 5 : MonConv }) []).fires (act 0 5 3) = true) ∧
      ((monState (some { ch := some 1, src := 0, slot := 0, start := 5 : MonConv }) []).mon.on = true) ∧
      ((monState (some { ch := some 1, src := 0, slot := 0, start := 5 : MonConv }) []).mon.initial = false) ∧
      ((monState (some { ch := some 1, src := 0, slot := 0, start := 5 : MonConv }) []).mon.cur =
  some { ch := some 1, src := 0, slot := 0, start := 5 : MonConv }) ∧
      ({ ch := some 1, src := 0, slot := 0, start := 5 : MonConv }.src ≠ 2)) ∧
    (((monState (some { ch := some 1, src := 2, slot := 0, start := 5 : MonConv }) []).fires (act 0 5 3) = true) ∧
      ((monState (some { ch := some 1, src := 2, slot := 0, start := 5 : MonConv }) []).mon.on = true) ∧
      ((monState (some { ch := some 1, src := 2, slot := 0, start := 5 : MonConv }) []).mon.initial = false) ∧
      ((monState (some { ch := some 1, src := 2, slot := 0, start := 5 : MonConv }) []).mon.cur =
  some { ch := some 1, src := 2, slot := 0, start := 5 : MonConv }) ∧
      ({ ch := some 1, src := 2, slot := 0, start := 5 : MonConv }.src = 2)) ∧
    (((monState none []).flag R.MON_URG.BUSY = false) ∧
      ((monState none []).part.monHas 95 = true)) ∧
    (((monState none []).flag R.MON_URG.BUSY = true ∨ (monState none []).part.monHas 96 = false)) ∧
    (((monState (some { ch := some 1, src := 2, slot := 0, start := 5 : MonConv }) []).mon.cur ≠ none)) ∧
    (((monState none []).mon.cur = none) ∧
      ((monState none []).mon.on = true) ∧
      ((monState none []).mon.wait = none) ∧
      ((monState none []).mon.urg = none) ∧
      ((monState none []).flag R.MON_STAT.CAL_RUN = false)) ∧
    (((monState none
        [(R.MON_CTRL.SCAN_EN, 1), ({ addr := R.MON_SCAN1.w.addr, hi := 31, lo := 0 : Fld }, 2147483649)]).mon.on =
  true) ∧
      ((monState none
        [(R.MON_CTRL.SCAN_EN, 1), ({ addr := R.MON_SCAN1.w.addr, hi := 31, lo := 0 : Fld }, 2147483649)]).mon.pass =
  []) ∧
      ((monState none [(R.MON_CTRL.SCAN_EN, 1), ({ addr := R.MON_SCAN1.w.addr, hi := 31, lo := 0 : Fld }, 2147483649)]).flag
    R.MON_CTRL.SCAN_EN =
  true)) ∧
    (((monState (some { ch := some 95, src := 2, slot := 31, start := 5 : MonConv }) []).mon.cur =
  some { ch := some 95, src := 2, slot := 31, start := 5 : MonConv }) ∧
      (95 < 96) ∧
      (31 < 32)) ∧
    (((monState (some { ch := some 64, src := 3, slot := 0, start := 5 : MonConv }) []).mon.cur =
  some { ch := some 64, src := 3, slot := 0, start := 5 : MonConv }) ∧
      (64 < 96) ∧
      (0 < 32)) ∧
    (((monState (some { ch := some 1, src := 1, slot := 0, start := 5 : MonConv }) []).mon.cur =
  some { ch := some 1, src := 1, slot := 0, start := 5 : MonConv }) ∧
      (1 < 96) ∧
      (0 < 32)) ∧
    (((monCals 30).mon.cur = some { ch := none, src := 4, slot := 0, start := 491519999000 : MonConv }) ∧
      ((monCals 30).flag R.MON_STAT.CAL_RUN = true) ∧
      ((monCals 30).mon.codes.length < 31)) ∧
    (((monCals 31).mon.cur = some { ch := none, src := 4, slot := 0, start := 491519999000 : MonConv }) ∧
      ((monCals 31).flag R.MON_STAT.CAL_RUN = true) ∧
      ((monCals 31).mon.codes.length = 31)) :=
  by constructorm* _ ∧ _ <;> decide +kernel

theorem witness_LaneBringUp :
    (((laneState 23 1 1 { prog := 1 : Lane } []).part.hasLane 23 = true) ∧
      ((laneState 23 1 1 { prog := 1 : Lane } []).rxState 23 = 1 ∨ (laneState 23 1 1 { prog := 1 : Lane } []).rxState 23 = 7) ∧
      (((laneState 23 1 1 { prog := 1 : Lane } []).lane 23).prog = 1)) ∧
    (((laneState 0 8 4 { : Lane } []).part.hasLane 0 = true) ∧
      ((laneState 0 8 4 { : Lane } []).rxState 0 = 8)) ∧
    (((laneState 0 1 1 { prog := 1, woken := true : Lane } []).part.hasLane 0 = true) ∧
      ((laneState 0 1 1 { prog := 1, woken := true : Lane } []).rxState 0 = 1) ∧
      (((laneState 0 1 1 { prog := 1, woken := true : Lane } []).lane 0).woken = true)) ∧
    (((laneState 0 1 1 { prog := 1 : Lane } []).part.hasLane 0 = true) ∧
      ((laneState 0 1 1 { prog := 1 : Lane } []).rxState 0 = 1) ∧
      (((laneState 0 1 1 { prog := 1 : Lane } []).lane 0).woken = false)) ∧
    (((laneState 0 1 1 { prog := 1 : Lane } []).part.hasLane 0 = true) ∧
      ((laneState 0 1 1 { prog := 1 : Lane } []).txState 0 = 1)) ∧
    (((laneState 15 2 2 { prog := 2 : Lane } [(R.LNK_LEQ_n.TX_MAIN 15, 0), (R.LNK_LEQ_n.TX_PRE 15, 31)]).part.hasLane 15 =
  true) ∧
      (((laneState 15 2 2 { prog := 2 : Lane } [(R.LNK_LEQ_n.TX_MAIN 15, 0), (R.LNK_LEQ_n.TX_PRE 15, 31)]).lane 15).prog = 2) ∧
      (blockIs BlockKind.training [58, 5, 25, 8, 0, 0, 0, 0] = true) ∧
      (25 = leAt [58, 5, 25, 8, 0, 0, 0, 0] 2 1)) ∧
    (((laneState 0 2 2 { prog := 2, readyGot := true : Lane } []).part.hasLane 0 = true) ∧
      (((laneState 0 2 2 { prog := 2, readyGot := true : Lane } []).lane 0).prog = 2) ∧
      (((laneState 0 2 2 { prog := 2, readyGot := true : Lane } []).lane 0).readyGot = true)) ∧
    (((laneState 0 2 2 { prog := 2, trained := true : Lane } []).part.hasLane 0 = true) ∧
      (((laneState 0 2 2 { prog := 2, trained := true : Lane } []).lane 0).prog = 2) ∧
      (((laneState 0 2 2 { prog := 2, trained := true : Lane } []).lane 0).trained = true)) ∧
    (((laneState 0 7 2 { prog := 2, trained := true : Lane } []).part.hasLane 0 = true) ∧
      (((laneState 0 7 2 { prog := 2, trained := true : Lane } []).lane 0).prog = 2) ∧
      (((laneState 0 7 2 { prog := 2, trained := true : Lane } []).lane 0).trained = true)) ∧
    (((laneState 0 3 2 { prog := 3 : Lane } []).part.hasLane 0 = true) ∧
      (((laneState 0 3 2 { prog := 3 : Lane } []).lane 0).prog = 3)) ∧
    (((laneState 0 4 2 { prog := 4 : Lane } [(pState Port.up, 5)]).part.hasLane 0 = true) ∧
      (((laneState 0 4 2 { prog := 4 : Lane } [(pState Port.up, 5)]).lane 0).prog = 4) ∧
      (15 < 16)) :=
  by constructorm* _ ∧ _ <;> decide +kernel

theorem witness_PortBringUpAndMarkers :
    (((allLanes 5 3 [(pState Port.up, 2)]).get (pState Port.up) = 1 ∨
  (allLanes 5 3 [(pState Port.up, 2)]).get (pState Port.up) = 2) ∧
      (16 =
  (List.filter (fun n ↦ (allLanes 5 3 [(pState Port.up, 2)]).rxState n == 5)
      ((allLanes 5 3 [(pState Port.up, 2)]).portLanes Port.up)).length) ∧
      (16 =
  (List.filter (fun n ↦ (allLanes 5 3 [(pState Port.up, 2)]).txState n == 3)
      ((allLanes 5 3 [(pState Port.up, 2)]).portLanes Port.up)).length) ∧
      (((allLanes 5 3 [(pState Port.up, 2)]).port Port.up).minLanes ≤ 16) ∧
      (((allLanes 5 3 [(pState Port.up, 2)]).port Port.up).minLanes ≤ 16)) ∧
    (((allLanes 5 2 [(pState Port.up, 2), (pRate Port.up, 1)]).get (pState Port.up) = 1 ∨
  (allLanes 5 2 [(pState Port.up, 2), (pRate Port.up, 1)]).get (pState Port.up) = 2) ∧
      (16 =
  (List.filter (fun n ↦ (allLanes 5 2 [(pState Port.up, 2), (pRate Port.up, 1)]).rxState n == 5)
      ((allLanes 5 2 [(pState Port.up, 2), (pRate Port.up, 1)]).portLanes Port.up)).length) ∧
      (0 =
  (List.filter (fun n ↦ (allLanes 5 2 [(pState Port.up, 2), (pRate Port.up, 1)]).txState n == 3)
      ((allLanes 5 2 [(pState Port.up, 2), (pRate Port.up, 1)]).portLanes Port.up)).length) ∧
      (¬(((allLanes 5 2 [(pState Port.up, 2), (pRate Port.up, 1)]).port Port.up).minLanes ≤ 16 ∧
    ((allLanes 5 2 [(pState Port.up, 2), (pRate Port.up, 1)]).port Port.up).minLanes ≤ 0)) ∧
      ((allLanes 5 2 [(pState Port.up, 2), (pRate Port.up, 1)]).get (pRate Port.up) < 2)) ∧
    (((allLanes 5 2 [(pState Port.up, 2), (pRate Port.up, 2)]).get (pState Port.up) = 1 ∨
  (allLanes 5 2 [(pState Port.up, 2), (pRate Port.up, 2)]).get (pState Port.up) = 2) ∧
      (16 =
  (List.filter (fun n ↦ (allLanes 5 2 [(pState Port.up, 2), (pRate Port.up, 2)]).rxState n == 5)
      ((allLanes 5 2 [(pState Port.up, 2), (pRate Port.up, 2)]).portLanes Port.up)).length) ∧
      (0 =
  (List.filter (fun n ↦ (allLanes 5 2 [(pState Port.up, 2), (pRate Port.up, 2)]).txState n == 3)
      ((allLanes 5 2 [(pState Port.up, 2), (pRate Port.up, 2)]).portLanes Port.up)).length) ∧
      (¬(((allLanes 5 2 [(pState Port.up, 2), (pRate Port.up, 2)]).port Port.up).minLanes ≤ 16 ∧
    ((allLanes 5 2 [(pState Port.up, 2), (pRate Port.up, 2)]).port Port.up).minLanes ≤ 0)) ∧
      (2 ≤ (allLanes 5 2 [(pState Port.up, 2), (pRate Port.up, 2)]).get (pRate Port.up))) ∧
    (((portWaits.port Port.up).waiting = true)) ∧
    (((portExchange { : PortSt }).get (pState Port.up) = 3) ∧
      ((portExchange { : PortSt }).part.hasLane 3 = true) ∧
      (lanePort 3 = Port.up) ∧
      (blockIs BlockKind.capability (capBlock 1 0) = true) ∧
      ([] = sparseGet [] ((portExchange { : PortSt }).port Port.up).parts 3) ∧
      (leAt (capBlock 1 0) 1 1 < 2) ∧
      (leAt (capBlock 1 0) 1 1 = 0 ∨ ([] : List Byte).length = 6 * leAt (capBlock 1 0) 1 1)) ∧
    (((portExchange { parts := [(3, List.take 6 (capRec 1))] : PortSt }).get (pState Port.up) = 3) ∧
      ((portExchange { parts := [(3, List.take 6 (capRec 1))] : PortSt }).part.hasLane 3 = true) ∧
      (lanePort 3 = Port.up) ∧
      (blockIs BlockKind.capability (capBlock 1 1) = true) ∧
      (List.take 6 (capRec 1) =
  sparseGet [] ((portExchange { parts := [(3, List.take 6 (capRec 1))] : PortSt }).port Port.up).parts 3) ∧
      (leAt (capBlock 1 1) 1 1 < 2) ∧
      (leAt (capBlock 1 1) 1 1 = 0 ∨ (List.take 6 (capRec 1)).length = 6 * leAt (capBlock 1 1) 1 1)) ∧
    (((portExchange { : PortSt }).get (pState Port.up) = 3) ∧
      ((portExchange { : PortSt }).part.hasLane 3 = true) ∧
      (lanePort 3 = Port.up) ∧
      (blockIs BlockKind.capability (capBlock 1 1) = true) ∧
      ([] = sparseGet [] ((portExchange { : PortSt }).port Port.up).parts 3) ∧
      (leAt (capBlock 1 1) 1 1 ≠ 0) ∧
      (2 < leAt (capBlock 1 1) 1 1 ∨ ([] : List Byte).length ≠ 6 * leAt (capBlock 1 1) 1 1)) ∧
    (((portGathers 0).get (pState Port.up) = 3) ∧
      ((portGathers 0).part.hasLane 3 = true) ∧
      (lanePort 3 = Port.up) ∧
      (blockIs BlockKind.capability (capBlock 0 2) = true) ∧
      (List.take 12 (capRec 0) = sparseGet [] ((portGathers 0).port Port.up).parts 3) ∧
      (leAt (capBlock 0 2) 1 1 = 2) ∧
      ((List.take 12 (capRec 0)).length = 12) ∧
      (capabilityOk Port.up (List.take 12 (capRec 0) ++ List.drop 2 (capBlock 0 2)) = false)) ∧
    (((portGathers 1).get (pState Port.up) = 3) ∧
      ((portGathers 1).part.hasLane 3 = true) ∧
      (lanePort 3 = Port.up) ∧
      (blockIs BlockKind.capability (capBlock 1 2) = true) ∧
      (List.take 12 (capRec 1) = sparseGet [] ((portGathers 1).port Port.up).parts 3) ∧
      (leAt (capBlock 1 2) 1 1 = 2) ∧
      ((List.take 12 (capRec 1)).length = 12) ∧
      (capabilityOk Port.up (List.take 12 (capRec 1) ++ List.drop 2 (capBlock 1 2)) = true) ∧
      (match Port.up with
| Port.up =>
  leAt (List.take 12 (capRec 1) ++ List.drop 2 (capBlock 1 2)) 0 1 = 1 ∨
    leAt (List.take 12 (capRec 1) ++ List.drop 2 (capBlock 1 2)) 0 1 = 3
| Port.cas => leAt (List.take 12 (capRec 1) ++ List.drop 2 (capBlock 1 2)) 0 1 = 2)) ∧
    (((portGathers 2).get (pState Port.up) = 3) ∧
      ((portGathers 2).part.hasLane 3 = true) ∧
      (lanePort 3 = Port.up) ∧
      (blockIs BlockKind.capability (capBlock 2 2) = true) ∧
      (List.take 12 (capRec 2) = sparseGet [] ((portGathers 2).port Port.up).parts 3) ∧
      (leAt (capBlock 2 2) 1 1 = 2) ∧
      ((List.take 12 (capRec 2)).length = 12) ∧
      (capabilityOk Port.up (List.take 12 (capRec 2) ++ List.drop 2 (capBlock 2 2)) = true) ∧
      (¬match Port.up with
  | Port.up =>
    leAt (List.take 12 (capRec 2) ++ List.drop 2 (capBlock 2 2)) 0 1 = 1 ∨
      leAt (List.take 12 (capRec 2) ++ List.drop 2 (capBlock 2 2)) 0 1 = 3
  | Port.cas => leAt (List.take 12 (capRec 2) ++ List.drop 2 (capBlock 2 2)) 0 1 = 2)) ∧
    ((portAgreed.get (pState Port.up) = 3) ∧
      ((portAgreed.port Port.up).farRec = some (capRec 1)) ∧
      ((portAgreed.port Port.up).exchanged = true) ∧
      ((portAgreed.port Port.up).sleepReq = 0)) ∧
    (((markUp 65535).get (pState Port.up) ≠ 3 ∨
  ((markUp 65535).port Port.up).exchanged = false ∨ ((markUp 65535).port Port.up).farRec = none) ∧
      (false = ((markUp 65535).portUp Port.up && ((markUp 65535).nextTxMap Port.up).1 != (markUp 65535).get (pTxMap Port.up))) ∧
      (65535 = if false = true then ((markUp 65535).nextTxMap Port.up).1 else (markUp 65535).get (pTxMap Port.up)) ∧
      (0 = if false = true then ((markUp 65535).get (pTxEpoch Port.up) + 1) % 256 else (markUp 65535).get (pTxEpoch Port.up))) ∧
    (((markUp 32767).get (pState Port.up) ≠ 3 ∨
  ((markUp 32767).port Port.up).exchanged = false ∨ ((markUp 32767).port Port.up).farRec = none) ∧
      (true = ((markUp 32767).portUp Port.up && ((markUp 32767).nextTxMap Port.up).1 != (markUp 32767).get (pTxMap Port.up))) ∧
      (32767 = if true = true then ((markUp 32767).nextTxMap Port.up).1 else (markUp 32767).get (pTxMap Port.up)) ∧
      (1 = if true = true then ((markUp 32767).get (pTxEpoch Port.up) + 1) % 256 else (markUp 32767).get (pTxEpoch Port.up))) ∧
    (((awake []).get (pState Port.cas) ≠ 3 ∨
  ((awake []).port Port.cas).exchanged = false ∨ ((awake []).port Port.cas).farRec = none) ∧
      (false = ((awake []).portUp Port.cas && ((awake []).nextTxMap Port.cas).1 != (awake []).get (pTxMap Port.cas))) ∧
      (0 = if false = true then ((awake []).nextTxMap Port.cas).1 else (awake []).get (pTxMap Port.cas)) ∧
      (0 = if false = true then ((awake []).get (pTxEpoch Port.cas) + 1) % 256 else (awake []).get (pTxEpoch Port.cas))) ∧
    ((((laneMark []).portLanes Port.up).contains
    { lane := 2, bytes := markBytes, late := false, invalid := 5 : Marker }.lane =
  true) ∧
      ((laneMark []).blockLocked { lane := 2, bytes := markBytes, late := false, invalid := 5 : Marker }.lane = true) ∧
      ({ lane := 2, bytes := markBytes, late := false, invalid := 5 : Marker }.late = false) ∧
      (blockIs BlockKind.marker { lane := 2, bytes := markBytes, late := false, invalid := 5 : Marker }.bytes = true) ∧
      (leAt { lane := 2, bytes := markBytes, late := false, invalid := 5 : Marker }.bytes 1 1 % 16 =
  (laneMark []).get (R.LNK_LSTAT_n.LANE { lane := 2, bytes := markBytes, late := false, invalid := 5 : Marker }.lane)) ∧
      (∀ (q : ℕ),
  ((laneMark []).lane { lane := 2, bytes := markBytes, late := false, invalid := 5 : Marker }.lane).mseq = some q →
    leAt { lane := 2, bytes := markBytes, late := false, invalid := 5 : Marker }.bytes 2 1 = (q + 1) % 256) ∧
      ((laneMark []).portUp Port.up = false)) ∧
    ((((laneMark []).portLanes Port.up).contains { lane := 2, bytes := sleepBytes, late := false : Marker }.lane = true) ∧
      ((laneMark []).blockLocked { lane := 2, bytes := sleepBytes, late := false : Marker }.lane = true) ∧
      ({ lane := 2, bytes := sleepBytes, late := false : Marker }.late = false) ∧
      (blockIs BlockKind.marker { lane := 2, bytes := sleepBytes, late := false : Marker }.bytes = true) ∧
      (leAt { lane := 2, bytes := sleepBytes, late := false : Marker }.bytes 1 1 % 16 =
  (laneMark []).get (R.LNK_LSTAT_n.LANE { lane := 2, bytes := sleepBytes, late := false : Marker }.lane)) ∧
      (∀ (q : ℕ),
  ((laneMark []).lane { lane := 2, bytes := sleepBytes, late := false : Marker }.lane).mseq = some q →
    leAt { lane := 2, bytes := sleepBytes, late := false : Marker }.bytes 2 1 = (q + 1) % 256) ∧
      ((laneMark []).portUp Port.up = false)) ∧
    ((((laneMark []).portLanes Port.up).contains
    { lane := 2, bytes := 125 :: List.drop 1 markBytes, late := false : Marker }.lane =
  true) ∧
      ((laneMark []).blockLocked { lane := 2, bytes := 125 :: List.drop 1 markBytes, late := false : Marker }.lane = true) ∧
      ({ lane := 2, bytes := 125 :: List.drop 1 markBytes, late := false : Marker }.late = false) ∧
      (blockIs BlockKind.marker { lane := 2, bytes := 125 :: List.drop 1 markBytes, late := false : Marker }.bytes = false)) ∧
    (([2, 4, 6] = List.filter (markFrom []).blockLocked ((markFrom []).portLanes Port.up)) ∧
      ([{ lane := 2, bytes := markBytes, late := false : Marker }] =
  List.filter (fun m ↦ [2, 4, 6].contains m.lane)
    [{ lane := 2, bytes := markBytes, late := false : Marker },
      { lane := 3, bytes := markBytes, late := false : Marker }]) ∧
      (majorityMark [2, 4, 6].length
    (List.map (fun m ↦ markerSays m.bytes)
      (List.filter (fun m ↦ blockIs BlockKind.marker m.bytes)
        [{ lane := 2, bytes := markBytes, late := false : Marker }])) =
  none)) ∧
    (([2, 4, 6] = List.filter (markFrom []).blockLocked ((markFrom []).portLanes Port.up)) ∧
      (markAll markBytes = List.filter (fun m ↦ [2, 4, 6].contains m.lane) (markAll markBytes)) ∧
      (majorityMark [2, 4, 6].length
    (List.map (fun m ↦ markerSays m.bytes)
      (List.filter (fun m ↦ blockIs BlockKind.marker m.bytes) (markAll markBytes))) =
  some (false, List.drop 2 markBytes)) ∧
      (((markFrom []).each (markAll markBytes) fun m t ↦ t.takeMarker m).portUp Port.up = true)) ∧
    (([2, 4, 6] = List.filter (markFrom []).blockLocked ((markFrom []).portLanes Port.up)) ∧
      (markAll newMapBytes = List.filter (fun m ↦ [2, 4, 6].contains m.lane) (markAll newMapBytes)) ∧
      (majorityMark [2, 4, 6].length
    (List.map (fun m ↦ markerSays m.bytes)
      (List.filter (fun m ↦ blockIs BlockKind.marker m.bytes) (markAll newMapBytes))) =
  some (true, List.drop 2 newMapBytes)) ∧
      (((markFrom []).each (markAll newMapBytes) fun m t ↦ t.takeMarker m).portUp Port.up = true)) ∧
    (((markUp 65535).run = runEmpty ∨ (markUp 65535).run = runReady ∨ (markUp 65535).run = runFaulted)) ∧
    (((markUp 65535).run = runEmpty ∨ (markUp 65535).run = runReady ∨ (markUp 65535).run = runFaulted) ∧
      ((markUp 65535).part.ex = true)) ∧
    ((play.run = runStarting ∨ play.run = runRunning ∨ play.run = runStopping) ∧
      (Instr.upRestart ∈ [Instr.upRestart] ++ if play.part.ex = true then [Instr.casRestart] else [])) ∧
    ((play.run = runStarting ∨ play.run = runRunning ∨ play.run = runStopping) ∧
      (Instr.casRestart ∈ [Instr.upRestart] ++ if play.part.ex = true then [Instr.casRestart] else [])) ∧
    ((segWaits.lnk.segAt = some (5, true, true, false))) :=
  by constructorm* _ ∧ _ <;> decide +kernel

theorem witness_LaneRecoveryAndSleep :
    (((laneState 20 4 4 { prog := 4 : Lane } []).part.hasLane 20 = true) ∧
      (3 ≤ ((laneState 20 4 4 { prog := 4 : Lane } []).lane 20).prog) ∧
      ((laneState 20 4 4 { prog := 4 : Lane } []).rxState 20 = 3 ∨ (laneState 20 4 4 { prog := 4 : Lane } []).rxState 20 = 4)) ∧
    (((laneState 20 3 4 { prog := 3 : Lane } []).part.hasLane 20 = true) ∧
      (3 ≤ ((laneState 20 3 4 { prog := 3 : Lane } []).lane 20).prog) ∧
      ((laneState 20 3 4 { prog := 3 : Lane } []).rxState 20 = 3 ∨ (laneState 20 3 4 { prog := 3 : Lane } []).rxState 20 = 4)) ∧
    (((laneState 20 6 4 { prog := 5, excls := [5] : Lane } []).part.hasLane 20 = true) ∧
      (3 ≤ ((laneState 20 6 4 { prog := 5, excls := [5] : Lane } []).lane 20).prog) ∧
      ((laneState 20 6 4 { prog := 5, excls := [5] : Lane } []).rxState 20 = 5 ∨
  (laneState 20 6 4 { prog := 5, excls := [5] : Lane } []).rxState 20 = 6)) ∧
    (((laneState 20 5 4 { prog := 5, excls := [5] : Lane } []).part.hasLane 20 = true) ∧
      (3 ≤ ((laneState 20 5 4 { prog := 5, excls := [5] : Lane } []).lane 20).prog) ∧
      ((laneState 20 5 4 { prog := 5, excls := [5] : Lane } []).rxState 20 = 5 ∨
  (laneState 20 5 4 { prog := 5, excls := [5] : Lane } []).rxState 20 = 6) ∧
      ((laneState 20 5 4 { prog := 5, excls := [5] : Lane } []).portUp (lanePort 20) = false) ∧
      (((laneState 20 5 4 { prog := 5, excls := [5] : Lane } []).lane 20).excls.length < 3)) ∧
    (((laneState 20 7 4 { prog := 3 : Lane } []).part.hasLane 20 = true) ∧
      ((laneState 20 7 4 { prog := 3 : Lane } []).rxState 20 = 7)) ∧
    (((laneState 20 9 4 { prog := 3, excls := [1] : Lane } []).part.hasLane 20 = true) ∧
      ((laneState 20 9 4 { prog := 3, excls := [1] : Lane } []).rxState 20 ≠ 0) ∧
      ((laneState 20 9 4 { prog := 3, excls := [1] : Lane } []).rxState 20 ≠ 5) ∧
      ((laneState 20 9 4 { prog := 3, excls := [1] : Lane } []).rxState 20 ≠ 6)) ∧
    (((laneState 20 6 4 { prog := 5 : Lane } []).part.hasLane 20 = true) ∧
      ((laneState 20 6 4 { prog := 5 : Lane } []).rxState 20 = 5 ∨ (laneState 20 6 4 { prog := 5 : Lane } []).rxState 20 = 6)) ∧
    (((laneState 20 9 4 { prog := 3, excls := [1] : Lane } []).part.hasLane 20 = true)) ∧
    (((laneState 20 5 4 { prog := 3, manual := true, slips := 65 : Lane } []).part.hasLane 20 = true) ∧
      (((laneState 20 5 4 { prog := 3, manual := true, slips := 65 : Lane } []).lane 20).manual = true) ∧
      ((laneState 20 5 4 { prog := 3, manual := true, slips := 65 : Lane } []).rxState 20 ≠ 6)) ∧
    (((laneState 20 5 4 { prog := 3 : Lane } []).part.hasLane 20 = true) ∧
      (((laneState 20 5 4 { prog := 3 : Lane } []).lane 20).manual = false ∨
  (laneState 20 5 4 { prog := 3 : Lane } []).rxState 20 = 6)) ∧
    (((markUp 65535).part.hasLane 3 = true) ∧
      (15 =
  popcount
    (maskLess ((markUp 65535).get (pTxMap (lanePort 3)))
      (maskSet ((markUp 65535).port (lanePort 3)).sleepReq (laneIdx 3)) 16)
    16) ∧
      ((markUp 65535).sleepFloor (lanePort 3) ≤ 15)) ∧
    (((laneState 3 5 4 { prog := 3 : Lane } []).part.hasLane 3 = true) ∧
      (0 =
  popcount
    (maskLess ((laneState 3 5 4 { prog := 3 : Lane } []).get (pTxMap (lanePort 3)))
      (maskSet ((laneState 3 5 4 { prog := 3 : Lane } []).port (lanePort 3)).sleepReq (laneIdx 3)) 16)
    16) ∧
      (0 < (laneState 3 5 4 { prog := 3 : Lane } []).sleepFloor (lanePort 3))) ∧
    (((laneState 20 5 5 { prog := 3 : Lane } []).part.hasLane 20 = true)) ∧
    (((laneState 20 2 5 { prog := 2, woken := true : Lane } []).part.hasLane 20 = true) ∧
      (((laneState 20 2 5 { prog := 2, woken := true : Lane } []).lane 20).woken = true)) :=
  by constructorm* _ ∧ _ <;> decide +kernel

theorem witness_LinkMessages :
    ((play.boot.restarting = false) ∧
      (play.admits 1 1 (upMsg 1 1 [])) ∧
      ((upMsg 1 1 []).src = 128)) ∧
    ((linkUp.boot.restarting = false) ∧
      (linkUp.admits 1 (if true = true then 15 else 14) (upMsg 1 15 (List.replicate 24 0)))) ∧
    ((linkUp.boot.restarting = false) ∧
      (linkUp.admits 1 (if false = true then 15 else 14) (upMsg 1 14 (List.replicate 24 0)))) ∧
    ((linkUp.boot.restarting = false) ∧
      (linkUp.portUp (upMsg 1 48 []).port = true) ∧
      ((linkUp.port (upMsg 1 48 []).port).hunting = false) ∧
      ((linkUp.port (upMsg 1 48 []).port).rest = []) ∧
      (crc16 ((upMsg 1 48 []).hdrBytes 1 48) = (upMsg 1 48 []).hcrc) ∧
      ((upMsg 1 48 []).check2 1 48 = some (rcType, 1)) ∧
      (rcType = rcPlane ∨ rcType = rcType) ∧
      (¬(1 = 1 ∧ (48 = 14 ∨ 48 = 15)))) ∧
    ((linkUp.boot.restarting = false) ∧
      (linkUp.portUp (upMsg 9 48 []).port = true) ∧
      ((linkUp.port (upMsg 9 48 []).port).hunting = false) ∧
      ((linkUp.port (upMsg 9 48 []).port).rest = []) ∧
      (crc16 ((upMsg 9 48 []).hdrBytes 9 48) = (upMsg 9 48 []).hcrc) ∧
      ((upMsg 9 48 []).check2 9 48 = some (rcPlane, 0)) ∧
      (rcPlane = rcPlane ∨ rcPlane = rcType) ∧
      (¬(9 = 1 ∧ (48 = 14 ∨ 48 = 15)))) ∧
    ((linkUp.boot.restarting = false) ∧
      (2 ≠ 4) ∧
      ((linkUp.port (passMsg Port.up 1).port).hunting = false) ∧
      ((linkUp.port (passMsg Port.up 1).port).rest = []) ∧
      (linkUp.rxHead 2 1 (passMsg Port.up 1) = none) ∧
      (linkUp.route 2 1 (passMsg Port.up 1) = Route.forward Port.cas) ∧
      (linkUp.shedOn Port.cas 2 1 (passMsg Port.up 1) = false)) ∧
    ((middle.boot.restarting = false) ∧
      (1 ≠ 4) ∧
      ((middle.port (passMsg Port.cas 128).port).hunting = false) ∧
      ((middle.port (passMsg Port.cas 128).port).rest = []) ∧
      (middle.rxHead 1 5 (passMsg Port.cas 128) = none) ∧
      (middle.route 1 5 (passMsg Port.cas 128) = Route.forward Port.up) ∧
      (middle.shedOn Port.up 1 5 (passMsg Port.cas 128) = false)) ∧
    ((linkShed.boot.restarting = false) ∧
      (3 ≠ 4) ∧
      ((linkShed.port shedMsg.port).hunting = false) ∧
      ((linkShed.port shedMsg.port).rest = []) ∧
      (linkShed.rxHead 3 1 shedMsg = none) ∧
      (linkShed.route 3 1 shedMsg = Route.forward Port.cas) ∧
      (linkShed.shedOn Port.cas 3 1 shedMsg = true)) ∧
    ((linkQueued.boot.restarting = false) ∧
      (linkQueued.portUp Port.cas = true) ∧
      (linkQueued.nextOut Port.cas = some (0, waitS))) ∧
    ((linkQueued.boot.restarting = false) ∧
      (List.filter (fun x ↦ x.2.plane == 4) (linkQueued.port Port.cas).waitq = [(0, waitS)]) ∧
      (linkQueued.storeLoad Port.cas + 8 * lenWords waitS.body.length ≤ replayBytes)) ∧
    ((middle.boot.restarting = false) ∧
      ((middle.port (passMsg Port.up 0).port).hunting = false) ∧
      ((middle.port (passMsg Port.up 0).port).rest = []) ∧
      (middle.rxHead 2 1 (passMsg Port.up 0) = none) ∧
      (middle.route 2 1 (passMsg Port.up 0) = Route.refuse rcDest) ∧
      (¬(2 = 1 ∧ (1 = 14 ∨ 1 = 15)))) ∧
    ((middle.boot.restarting = false) ∧
      ((middle.port (passMsg Port.cas 3).port).hunting = false) ∧
      ((middle.port (passMsg Port.cas 3).port).rest = []) ∧
      (middle.rxHead 1 5 (passMsg Port.cas 3) = none) ∧
      (middle.route 1 5 (passMsg Port.cas 3) = Route.refuse rcDest) ∧
      (¬(1 = 1 ∧ (5 = 14 ∨ 5 = 15)))) ∧
    ((linkUp.boot.restarting = false) ∧
      (linkUp.portUp Port.cas = true) ∧
      (16 ≤ (List.replicate 32 1).length) ∧
      (leAt (List.replicate 32 1) 14 2 ≠ (crc16 (List.take 14 (List.replicate 32 1))).toNat)) ∧
    (((alarmed 491520000).boot.restarting = false) ∧
      ({ last := 491520000, held := 2, latest := List.replicate 24 7, air := 0 : AlarmSlot } =
  sparseGet noAlarm (alarmed 491520000).alarms 16) ∧
      ({ last := 491520000, held := 2, latest := List.replicate 24 7, air := 0 : AlarmSlot }.held ≠ 0) ∧
      ({ last := 491520000, held := 2, latest := List.replicate 24 7, air := 0 : AlarmSlot }.last ≠ 0)) ∧
    (((alarmedDown 7).boot.restarting = false) ∧
      ({ last := 7, held := 2, latest := List.replicate 24 7, air := 0 : AlarmSlot } =
  sparseGet noAlarm (alarmedDown 7).alarms 16) ∧
      ({ last := 7, held := 2, latest := List.replicate 24 7, air := 0 : AlarmSlot }.held ≠ 0) ∧
      ((alarmedDown 7).maySend Port.up 1 5 = false)) ∧
    (((alarmed (491520001 - 49152000)).boot.restarting = false) ∧
      ((alarmed (491520001 - 49152000)).portUp Port.up = true) ∧
      ((alarmed (491520001 - 49152000)).flag R.LNK_PROTO.POS_VALID = true) ∧
      ({ last := 491520001 - 49152000, held := 2, latest := List.replicate 24 7, air := 0 : AlarmSlot } =
  sparseGet noAlarm (alarmed (491520001 - 49152000)).alarms 16) ∧
      ({ last := 491520001 - 49152000, held := 2, latest := List.replicate 24 7, air := 0 : AlarmSlot }.held ≠ 0) ∧
      ({ last := 491520001 - 49152000, held := 2, latest := List.replicate 24 7, air := 0 : AlarmSlot }.last + hundredMs ≤
  (alarmed (491520001 - 49152000)).tim.cycles + 1)) ∧
    ((lostSome.boot.restarting = false) ∧
      (lostSome.lost ≠ 0) ∧
      (lostSome.answers.length < 1024)) :=
  by constructorm* _ ∧ _ <;> first | decide +kernel | ((with_reducible refine admits_of ?_ ?_) <;> [decide +kernel; rfl])

theorem witness_RegisterAccess :
    ((regDesc linkUp.part 4294967292 = none)) ∧
    ((linkUp.boot.restarting = false) ∧
      (linkUp.admits 1 2 (upMsg 1 2 (regBody R.SYS_RESETCAUSE.w.addr 3 []))) ∧
      ((firstFail (regChecks (upMsg 1 2 (regBody R.SYS_RESETCAUSE.w.addr 3 [])).body) = none) ∧
      ((linkUp.remember (upMsg 1 2 (regBody R.SYS_RESETCAUSE.w.addr 3 [])) 1).windowFails
    (leAt (upMsg 1 2 (regBody R.SYS_RESETCAUSE.w.addr 3 [])).body 0 4)
    (leAt (upMsg 1 2 (regBody R.SYS_RESETCAUSE.w.addr 3 [])).body 4 2) =
  false) ∧
      ((((linkUp.remember (upMsg 1 2 (regBody R.SYS_RESETCAUSE.w.addr 3 [])) 1).passed 1
              (upMsg 1 2 (regBody R.SYS_RESETCAUSE.w.addr 3 []))).readRegs
          (leAt (upMsg 1 2 (regBody R.SYS_RESETCAUSE.w.addr 3 [])).body 4 2)
          (leAt (upMsg 1 2 (regBody R.SYS_RESETCAUSE.w.addr 3 [])).body 0 4)).2.portUp
    (upMsg 1 2 (regBody R.SYS_RESETCAUSE.w.addr 3 [])).port =
  true) ∧
      ((((linkUp.remember (upMsg 1 2 (regBody R.SYS_RESETCAUSE.w.addr 3 [])) 1).passed 1
              (upMsg 1 2 (regBody R.SYS_RESETCAUSE.w.addr 3 []))).readRegs
          (leAt (upMsg 1 2 (regBody R.SYS_RESETCAUSE.w.addr 3 [])).body 4 2)
          (leAt (upMsg 1 2 (regBody R.SYS_RESETCAUSE.w.addr 3 [])).body 0 4)).2.flag
    R.LNK_PROTO.POS_VALID =
  true))) ∧
    ((linkPoisoned.boot.restarting = false) ∧
      (linkPoisoned.admits 1 2 (upMsg 1 2 (regBody R.DMA_DWIN_RDLO.w.addr 2 []))) ∧
      ((firstFail (regChecks (upMsg 1 2 (regBody R.DMA_DWIN_RDLO.w.addr 2 [])).body) = none) ∧
      ((linkPoisoned.remember (upMsg 1 2 (regBody R.DMA_DWIN_RDLO.w.addr 2 [])) 1).windowFails
    (leAt (upMsg 1 2 (regBody R.DMA_DWIN_RDLO.w.addr 2 [])).body 0 4)
    (leAt (upMsg 1 2 (regBody R.DMA_DWIN_RDLO.w.addr 2 [])).body 4 2) =
  true))) ∧
    ((dmaLinked.boot.restarting = false) ∧
      (dmaLinked.admits 1 4 (upMsg 1 4 (regBody ((R.DMA_CHCTL_n.w 0).addr - 4) 2 [1, 2]))) ∧
      ((firstFail
    (regChecks (upMsg 1 4 (regBody ((R.DMA_CHCTL_n.w 0).addr - 4) 2 [1, 2])).body ++
      [(upMsg 1 4 (regBody ((R.DMA_CHCTL_n.w 0).addr - 4) 2 [1, 2])).lenIs
          (8 + 4 * leAt (upMsg 1 4 (regBody ((R.DMA_CHCTL_n.w 0).addr - 4) 2 [1, 2])).body 4 2)]) =
  none) ∧
      (1 < leAt (upMsg 1 4 (regBody ((R.DMA_CHCTL_n.w 0).addr - 4) 2 [1, 2])).body 4 2) ∧
      ((dmaLinked.remember (upMsg 1 4 (regBody ((R.DMA_CHCTL_n.w 0).addr - 4) 2 [1, 2])) 1).schedOwned
    (leAt (upMsg 1 4 (regBody ((R.DMA_CHCTL_n.w 0).addr - 4) 2 [1, 2])).body 0 4 + 4 * 1) =
  true) ∧
      (∀ j < 1,
  (dmaLinked.remember (upMsg 1 4 (regBody ((R.DMA_CHCTL_n.w 0).addr - 4) 2 [1, 2])) 1).schedOwned
      (leAt (upMsg 1 4 (regBody ((R.DMA_CHCTL_n.w 0).addr - 4) 2 [1, 2])).body 0 4 + 4 * j) =
    false))) ∧
    ((linkUp.boot.restarting = false) ∧
      (linkUp.admits 1 4 (upMsg 1 4 (regBody R.TIM_STEPTHR.w.addr 2 [500, 2]))) ∧
      ((firstFail
    (regChecks (upMsg 1 4 (regBody R.TIM_STEPTHR.w.addr 2 [500, 2])).body ++
      [(upMsg 1 4 (regBody R.TIM_STEPTHR.w.addr 2 [500, 2])).lenIs
          (8 + 4 * leAt (upMsg 1 4 (regBody R.TIM_STEPTHR.w.addr 2 [500, 2])).body 4 2)]) =
  none) ∧
      (∀ k < leAt (upMsg 1 4 (regBody R.TIM_STEPTHR.w.addr 2 [500, 2])).body 4 2,
  (linkUp.remember (upMsg 1 4 (regBody R.TIM_STEPTHR.w.addr 2 [500, 2])) 1).schedOwned
      (leAt (upMsg 1 4 (regBody R.TIM_STEPTHR.w.addr 2 [500, 2])).body 0 4 + 4 * k) =
    false))) ∧
    ((2 % 4 ≠ 0 ∨ regDesc linkUp.part 2 = none ∨ linkUp.schedOwned 2 = true)) ∧
    ((4294967292 % 4 ≠ 0 ∨ regDesc linkUp.part 4294967292 = none ∨ linkUp.schedOwned 4294967292 = true)) ∧
    (((BitVec.ofNat 32 (R.DMA_CHCTL_n.w 0).addr).toNat % 4 ≠ 0 ∨
  regDesc dmaLinked.part (BitVec.ofNat 32 (R.DMA_CHCTL_n.w 0).addr).toNat = none ∨
    dmaLinked.schedOwned (BitVec.ofNat 32 (R.DMA_CHCTL_n.w 0).addr).toNat = true)) ∧
    ((linkUp.boot.inReset = false)) ∧
    ((linkUp.boot.inReset = false) ∧
      (100 ≤ R.TIM_STEPTHR.STEPTHR.read 100) ∧
      (R.TIM_STEPTHR.STEPTHR.read 100 ≤ 1000000)) ∧
    ((linkUp.boot.inReset = false) ∧
      (100 ≤ R.TIM_STEPTHR.STEPTHR.read 1000000) ∧
      (R.TIM_STEPTHR.STEPTHR.read 1000000 ≤ 1000000)) ∧
    ((linkUp.boot.inReset = false) ∧
      (¬(100 ≤ R.TIM_STEPTHR.STEPTHR.read 99 ∧ R.TIM_STEPTHR.STEPTHR.read 99 ≤ 1000000))) ∧
    ((linkUp.boot.inReset = false) ∧
      (¬(100 ≤ R.TIM_STEPTHR.STEPTHR.read 1000001 ∧ R.TIM_STEPTHR.STEPTHR.read 1000001 ≤ 1000000))) :=
  by constructorm* _ ∧ _ <;> first | decide +kernel | ((with_reducible refine admits_of ?_ ?_) <;> [decide +kernel; rfl])

theorem witness_SectionsAndAmendments :
    (((1, 0) = if true = true then (1, 0) else (2, 2)) ∧
      (content.admits 2 1 dlMsg) ∧
      ((firstFail (sectionBody dlMsg 1) = none) ∧
      (leAt dlMsg.body 1 1 = 1) ∧
      (firstFail
    ((content.remember dlMsg 2).airChecks dlMsg.air ++
        (content.remember dlMsg 2).sectionSheaf dlMsg
          (if true = true then (content.remember dlMsg 2).dlLayers (airCar dlMsg.air)
          else (content.remember dlMsg 2).ulLayers (airCar dlMsg.air)) ++
      [(content.remember dlMsg 2).windowCheck (airCar dlMsg.air) 0 ((content.remember dlMsg 2).airTick dlMsg.air)]) =
  none) ∧
      ((content.remember dlMsg 2).slotSects true (airCar dlMsg.air) ((content.remember dlMsg 2).airSlotTick dlMsg.air) = []) ∧
      (content.con.data = []))) ∧
    (((2, 2) = if false = true then (1, 0) else (2, 2)) ∧
      (content.admits 2 2 ulMsg) ∧
      ((firstFail (sectionBody ulMsg 1) = none) ∧
      (leAt ulMsg.body 1 1 = 1) ∧
      (firstFail
    ((content.remember ulMsg 2).airChecks ulMsg.air ++
        (content.remember ulMsg 2).sectionSheaf ulMsg
          (if false = true then (content.remember ulMsg 2).dlLayers (airCar ulMsg.air)
          else (content.remember ulMsg 2).ulLayers (airCar ulMsg.air)) ++
      [(content.remember ulMsg 2).windowCheck (airCar ulMsg.air) 2 ((content.remember ulMsg 2).airTick ulMsg.air)]) =
  none) ∧
      ((content.remember ulMsg 2).slotSects false (airCar ulMsg.air) ((content.remember ulMsg 2).airSlotTick ulMsg.air) = []) ∧
      (content.con.data = []))) ∧
    (((1, 0) = if true = true then (1, 0) else (2, 2)) ∧
      (amendState.admits 2 1 dlMsg) ∧
      ((firstFail (sectionBody dlMsg 1) = none) ∧
      (leAt dlMsg.body 1 1 = 1) ∧
      (firstFail
    ((amendState.remember dlMsg 2).airChecks dlMsg.air ++
        (amendState.remember dlMsg 2).sectionSheaf dlMsg
          (if true = true then (amendState.remember dlMsg 2).dlLayers (airCar dlMsg.air)
          else (amendState.remember dlMsg 2).ulLayers (airCar dlMsg.air)) ++
      [(amendState.remember dlMsg 2).windowCheck (airCar dlMsg.air) 0
          ((amendState.remember dlMsg 2).airTick dlMsg.air)]) =
  none) ∧
      ((((amendState.remember dlMsg 2).slotSects true (airCar dlMsg.air)
        ((amendState.remember dlMsg 2).airSlotTick dlMsg.air)).any
    fun x ↦ x.id == leAt (entryAt dlMsg.body 0) 0 2) =
  true))) ∧
    ((amendState.admits 2 4 amendMsg) ∧
      ((firstFail (sectionBody amendMsg 7) = none) ∧
      (leAt amendMsg.body 1 1 = 1) ∧
      (leAt (entryAt amendMsg.body 0) 13 1 = 0) ∧
      (firstFail
    ((amendState.remember amendMsg 2).airChecks amendMsg.air ++
        (amendState.remember amendMsg 2).sectionSheaf amendMsg
          ((amendState.remember amendMsg 2).dlLayers (airCar amendMsg.air)) ++
      [(amendState.remember amendMsg 2).amendWindow amendMsg]) =
  none) ∧
      (∀ k ∈ coveredSyms amendMsg,
  (((amendState.remember amendMsg 2).slotSects true (airCar amendMsg.air)
          ((amendState.remember amendMsg 2).airSlotTick amendMsg.air)).any
      fun x ↦ x.id == leAt (entryAt amendMsg.body 0) 0 2 && x.sym == k) =
    true) ∧
      (∀
  x ∈
    (amendState.remember amendMsg 2).slotSects true (airCar amendMsg.air)
      ((amendState.remember amendMsg 2).airSlotTick amendMsg.air),
  x.id = leAt (entryAt amendMsg.body 0) 0 2) ∧
      (((amendState.remember amendMsg 2).newlyMarked amendMsg).length ≤ (amendState.remember amendMsg 2).budgetLeft amendMsg) ∧
      (sparseGet 0 amendState.con.gens
      (symKey (airCar amendMsg.air) ((amendState.remember amendMsg 2).airSlotTick amendMsg.air)) +
    1 ≤
  255) ∧
      (amendState.con.data = []))) ∧
    ((amendState.admits 2 5 revokeMsg) ∧
      ((leAt revokeMsg.body 1 1 = 0) ∧
      (firstFail (prefixChecks revokeMsg 0 ++ [revokeMsg.lenIs 4]) = none) ∧
      (firstFail
    ((amendState.remember revokeMsg 2).airChecks revokeMsg.air ++
      [(amendState.remember revokeMsg 2).amendWindow revokeMsg]) =
  none) ∧
      (((amendState.remember revokeMsg 2).newlyMarked revokeMsg).length ≤
  (amendState.remember revokeMsg 2).budgetLeft revokeMsg))) :=
  by constructorm* _ ∧ _ <;> first | decide +kernel | ((with_reducible refine admits_of ?_ ?_) <;> [decide +kernel; rfl])

theorem witness_OtherCPlaneMessages :
    ((content.admits 2 3 (beamMsg 2)) ∧
      ((1 = leAt (beamMsg 2).body 0 1) ∧
      (2 = leAt (beamMsg 2).body 1 1) ∧
      (1 ≤ 1) ∧
      (1 ≤ 16) ∧
      (1 ≤ 2) ∧
      (2 ≤ 3) ∧
      (zeroAt (beamMsg 2).body 2 2 = true) ∧
      ((beamMsg 2).lenIs (4 + 260 * 1) = none) ∧
      (∀ i < 1, leAt (beamMsg 2).body (4 + 260 * i) 4 < 2 ^ 18) ∧
      (2 ≠ 2 →
  (firstFail ((content.remember (beamMsg 2) 2).airChecks (beamMsg 2).air) = none ∧
      (content.remember (beamMsg 2) 2).windowCheck (airCar (beamMsg 2).air) 3
          ((content.remember (beamMsg 2) 2).airTick (beamMsg 2).air) =
        none) ∧
    ∀ i < 1,
      (content.remember (beamMsg 2) 2).beamPinned (leAt (beamMsg 2).body (4 + 260 * i) 4) = false ∨
        (content.remember (beamMsg 2) 2).txc.pinned = some (leAt (beamMsg 2).body (4 + 260 * i) 4)) ∧
      (2 ≠ 1 → content.dramOk = true ∧ linkBad [] = false))) ∧
    ((content.admits 2 3 (beamMsg 1)) ∧
      ((1 = leAt (beamMsg 1).body 0 1) ∧
      (1 = leAt (beamMsg 1).body 1 1) ∧
      (1 ≤ 1) ∧
      (1 ≤ 16) ∧
      (1 ≤ 1) ∧
      (1 ≤ 3) ∧
      (zeroAt (beamMsg 1).body 2 2 = true) ∧
      ((beamMsg 1).lenIs (4 + 260 * 1) = none) ∧
      (∀ i < 1, leAt (beamMsg 1).body (4 + 260 * i) 4 < 2 ^ 18) ∧
      (1 ≠ 2 →
  (firstFail ((content.remember (beamMsg 1) 2).airChecks (beamMsg 1).air) = none ∧
      (content.remember (beamMsg 1) 2).windowCheck (airCar (beamMsg 1).air) 3
          ((content.remember (beamMsg 1) 2).airTick (beamMsg 1).air) =
        none) ∧
    ∀ i < 1,
      (content.remember (beamMsg 1) 2).beamPinned (leAt (beamMsg 1).body (4 + 260 * i) 4) = false ∨
        (content.remember (beamMsg 1) 2).txc.pinned = some (leAt (beamMsg 1).body (4 + 260 * i) 4)) ∧
      (1 ≠ 1 → content.dramOk = true ∧ linkBad [] = false))) ∧
    ((content.admits 2 3 (beamMsg 3)) ∧
      ((1 = leAt (beamMsg 3).body 0 1) ∧
      (3 = leAt (beamMsg 3).body 1 1) ∧
      (1 ≤ 1) ∧
      (1 ≤ 16) ∧
      (1 ≤ 3) ∧
      (3 ≤ 3) ∧
      (zeroAt (beamMsg 3).body 2 2 = true) ∧
      ((beamMsg 3).lenIs (4 + 260 * 1) = none) ∧
      (∀ i < 1, leAt (beamMsg 3).body (4 + 260 * i) 4 < 2 ^ 18) ∧
      (3 ≠ 2 →
  (firstFail ((content.remember (beamMsg 3) 2).airChecks (beamMsg 3).air) = none ∧
      (content.remember (beamMsg 3) 2).windowCheck (airCar (beamMsg 3).air) 3
          ((content.remember (beamMsg 3) 2).airTick (beamMsg 3).air) =
        none) ∧
    ∀ i < 1,
      (content.remember (beamMsg 3) 2).beamPinned (leAt (beamMsg 3).body (4 + 260 * i) 4) = false ∨
        (content.remember (beamMsg 3) 2).txc.pinned = some (leAt (beamMsg 3).body (4 + 260 * i) 4)) ∧
      (3 ≠ 1 → content.dramOk = true ∧ linkBad [] = false))) ∧
    ((contentDown.admits 2 3 (beamMsg 2)) ∧
      ((1 = leAt (beamMsg 2).body 0 1) ∧
      (2 = leAt (beamMsg 2).body 1 1) ∧
      (1 ≤ 1) ∧
      (1 ≤ 16) ∧
      (1 ≤ 2) ∧
      (2 ≤ 3) ∧
      (zeroAt (beamMsg 2).body 2 2 = true) ∧
      ((beamMsg 2).lenIs (4 + 260 * 1) = none) ∧
      (∀ i < 1, leAt (beamMsg 2).body (4 + 260 * i) 4 < 2 ^ 18) ∧
      (2 ≠ 2 →
  (firstFail ((contentDown.remember (beamMsg 2) 2).airChecks (beamMsg 2).air) = none ∧
      (contentDown.remember (beamMsg 2) 2).windowCheck (airCar (beamMsg 2).air) 3
          ((contentDown.remember (beamMsg 2) 2).airTick (beamMsg 2).air) =
        none) ∧
    ∀ i < 1,
      (contentDown.remember (beamMsg 2) 2).beamPinned (leAt (beamMsg 2).body (4 + 260 * i) 4) = false ∨
        (contentDown.remember (beamMsg 2) 2).txc.pinned = some (leAt (beamMsg 2).body (4 + 260 * i) 4)) ∧
      (2 ≠ 1) ∧
      (contentDown.dramFailed = true ∨ linkBad [] = true))) ∧
    ((content.admits 2 3 (beamMsg 3)) ∧
      ((1 = leAt (beamMsg 3).body 0 1) ∧
      (3 = leAt (beamMsg 3).body 1 1) ∧
      (1 ≤ 1) ∧
      (1 ≤ 16) ∧
      (1 ≤ 3) ∧
      (3 ≤ 3) ∧
      (zeroAt (beamMsg 3).body 2 2 = true) ∧
      ((beamMsg 3).lenIs (4 + 260 * 1) = none) ∧
      (∀ i < 1, leAt (beamMsg 3).body (4 + 260 * i) 4 < 2 ^ 18) ∧
      (3 ≠ 2 →
  (firstFail ((content.remember (beamMsg 3) 2).airChecks (beamMsg 3).air) = none ∧
      (content.remember (beamMsg 3) 2).windowCheck (airCar (beamMsg 3).air) 3
          ((content.remember (beamMsg 3) 2).airTick (beamMsg 3).air) =
        none) ∧
    ∀ i < 1,
      (content.remember (beamMsg 3) 2).beamPinned (leAt (beamMsg 3).body (4 + 260 * i) 4) = false ∨
        (content.remember (beamMsg 3) 2).txc.pinned = some (leAt (beamMsg 3).body (4 + 260 * i) 4)) ∧
      (3 ≠ 1) ∧
      (content.dramFailed = true ∨ linkBad [(3, true)] = true))) ∧
    (((firstFail ((content.remember (stepMsg 6) 2).airChecks (stepMsg 6).air) = none ∧
  (content.remember (stepMsg 6) 2).windowCheck (airCar (stepMsg 6).air) 0
      ((content.remember (stepMsg 6) 2).airTick (stepMsg 6).air) =
    none) ∧
      (zeroAt (stepMsg 6).body 9 7 = true) ∧
      (∀ p ∈ namedPaths (stepMsg 6).body, p < content.part.paths)) ∧
      (content.admits 2 6 (stepMsg 6)) ∧
      ((leAt (stepMsg 6).body 8 1 ≤ 63) ∧
      (leAt (stepMsg 6).body 8 1 < (content.remember (stepMsg 6) 2).pstepCount) ∧
      (∀ p ∈ namedPaths (stepMsg 6).body,
  (content.remember (stepMsg 6) 2).fsDbm (leAt (stepMsg 6).body 8 1) p ≤
    envFsMax (content.remember (stepMsg 6) 2).envelope p))) ∧
    (((firstFail ((content.remember (stepMsg 7) 2).airChecks (stepMsg 7).air) = none ∧
  (content.remember (stepMsg 7) 2).windowCheck (airCar (stepMsg 7).air) 0
      ((content.remember (stepMsg 7) 2).airTick (stepMsg 7).air) =
    none) ∧
      (zeroAt (stepMsg 7).body 9 7 = true) ∧
      (∀ p ∈ namedPaths (stepMsg 7).body, p < content.part.paths)) ∧
      (content.admits 2 7 (stepMsg 7)) ∧
      ((leAt (stepMsg 7).body 8 1 ≤ 15) ∧
      ((content.remember (stepMsg 7) 2).hasFemtab = true))) ∧
    ((tineContent.admits 2 8 tineBad) ∧
      ((15 = leAt tineBad.body 0 1) ∧
      (510 = leAt tineBad.body 2 2) ∧
      (2 = leAt tineBad.body 4 2) ∧
      (15 ≤ 15) ∧
      (zeroAt tineBad.body 1 1 = true) ∧
      (zeroAt tineBad.body 6 2 = true) ∧
      (1 ≤ 2) ∧
      (510 + 2 ≤ 512) ∧
      (3 < 16 * 2) ∧
      (10 + 2 * 3 ≤ tineBad.body.length) ∧
      (2 ^ 13 ≤ leAt tineBad.body (8 + 2 * 3) 2) ∧
      (∀ j < 3, leAt tineBad.body (8 + 2 * j) 2 < 2 ^ 13))) :=
  by constructorm* _ ∧ _ <;> first | decide +kernel | ((with_reducible refine admits_of ?_ ?_) <;> [decide +kernel; rfl])

theorem witness_SamplesAndBulkData :
    ((amendState.admits 3 1 (dlDataMsg 0)) ∧
      ((firstFail (sampleBody (dlDataMsg 0) true) = none) ∧
      (firstFail
    (((amendState.remember (dlDataMsg 0) 3).airChecks (dlDataMsg 0).air ++
        (amendState.remember (dlDataMsg 0) 3).sampleSheaf (dlDataMsg 0)
          ((amendState.remember (dlDataMsg 0) 3).dlLayers (airCar (dlDataMsg 0).air)) fun f ↦ decide (f ≤ 3)) ++
      [(amendState.remember (dlDataMsg 0) 3).dataWindow (dlDataMsg 0)]) =
  none) ∧
      (List.find?
    (fun x ↦
      { asker := (dlDataMsg 0).asker 3 1, ackReq := (dlDataMsg 0).ackReq, car := airCar (dlDataMsg 0).air,
              slotT := (amendState.remember (dlDataMsg 0) 3).airSlotTick (dlDataMsg 0).air,
              sym := airSym (dlDataMsg 0).air, id := leAt (dlDataMsg 0).body 0 2, gen := leAt (dlDataMsg 0).body 8 1,
              layer := leAt (dlDataMsg 0).body 6 1, fmt := leAt (dlDataMsg 0).body 7 1,
              piece :=
                { start := leAt (dlDataMsg 0).body 2 2, num := leAt (dlDataMsg 0).body 4 2,
                  data :=
                    List.take (leAt (dlDataMsg 0).body 4 2 * prbBytes (leAt (dlDataMsg 0).body 7 1))
                      (List.drop 16 (dlDataMsg 0).body) :
                  Piece } :
              HeldData }.names
          x &&
        !x.revoked)
    amendState.con.sects =
  some (standing true 7 0)) ∧
      ((standing true 7 0).gen =
  { asker := (dlDataMsg 0).asker 3 1, ackReq := (dlDataMsg 0).ackReq, car := airCar (dlDataMsg 0).air,
      slotT := (amendState.remember (dlDataMsg 0) 3).airSlotTick (dlDataMsg 0).air, sym := airSym (dlDataMsg 0).air,
      id := leAt (dlDataMsg 0).body 0 2, gen := leAt (dlDataMsg 0).body 8 1, layer := leAt (dlDataMsg 0).body 6 1,
      fmt := leAt (dlDataMsg 0).body 7 1,
      piece :=
        { start := leAt (dlDataMsg 0).body 2 2, num := leAt (dlDataMsg 0).body 4 2,
          data :=
            List.take (leAt (dlDataMsg 0).body 4 2 * prbBytes (leAt (dlDataMsg 0).body 7 1))
              (List.drop 16 (dlDataMsg 0).body) :
          Piece } :
      HeldData }.gen) ∧
      (firstFail
    (pieceChecks (standing true 7 0)
      { asker := (dlDataMsg 0).asker 3 1, ackReq := (dlDataMsg 0).ackReq, car := airCar (dlDataMsg 0).air,
        slotT := (amendState.remember (dlDataMsg 0) 3).airSlotTick (dlDataMsg 0).air, sym := airSym (dlDataMsg 0).air,
        id := leAt (dlDataMsg 0).body 0 2, gen := leAt (dlDataMsg 0).body 8 1, layer := leAt (dlDataMsg 0).body 6 1,
        fmt := leAt (dlDataMsg 0).body 7 1,
        piece :=
          { start := leAt (dlDataMsg 0).body 2 2, num := leAt (dlDataMsg 0).body 4 2,
            data :=
              List.take (leAt (dlDataMsg 0).body 4 2 * prbBytes (leAt (dlDataMsg 0).body 7 1))
                (List.drop 16 (dlDataMsg 0).body) :
            Piece } :
        HeldData }) =
  none))) ∧
    ((amendState.admits 3 1 (dlDataMsg 255)) ∧
      ((firstFail (sampleBody (dlDataMsg 255) true) = none) ∧
      (firstFail
    (((amendState.remember (dlDataMsg 255) 3).airChecks (dlDataMsg 255).air ++
        (amendState.remember (dlDataMsg 255) 3).sampleSheaf (dlDataMsg 255)
          ((amendState.remember (dlDataMsg 255) 3).dlLayers (airCar (dlDataMsg 255).air)) fun f ↦ decide (f ≤ 3)) ++
      [(amendState.remember (dlDataMsg 255) 3).dataWindow (dlDataMsg 255)]) =
  none) ∧
      (List.find?
    (fun x ↦
      { asker := (dlDataMsg 255).asker 3 1, ackReq := (dlDataMsg 255).ackReq, car := airCar (dlDataMsg 255).air,
              slotT := (amendState.remember (dlDataMsg 255) 3).airSlotTick (dlDataMsg 255).air,
              sym := airSym (dlDataMsg 255).air, id := leAt (dlDataMsg 255).body 0 2,
              gen := leAt (dlDataMsg 255).body 8 1, layer := leAt (dlDataMsg 255).body 6 1,
              fmt := leAt (dlDataMsg 255).body 7 1,
              piece :=
                { start := leAt (dlDataMsg 255).body 2 2, num := leAt (dlDataMsg 255).body 4 2,
                  data :=
                    List.take (leAt (dlDataMsg 255).body 4 2 * prbBytes (leAt (dlDataMsg 255).body 7 1))
                      (List.drop 16 (dlDataMsg 255).body) :
                  Piece } :
              HeldData }.names
          x &&
        !x.revoked)
    amendState.con.sects =
  some (standing true 7 0)) ∧
      ((standing true 7 0).gen <
  { asker := (dlDataMsg 255).asker 3 1, ackReq := (dlDataMsg 255).ackReq, car := airCar (dlDataMsg 255).air,
      slotT := (amendState.remember (dlDataMsg 255) 3).airSlotTick (dlDataMsg 255).air,
      sym := airSym (dlDataMsg 255).air, id := leAt (dlDataMsg 255).body 0 2, gen := leAt (dlDataMsg 255).body 8 1,
      layer := leAt (dlDataMsg 255).body 6 1, fmt := leAt (dlDataMsg 255).body 7 1,
      piece :=
        { start := leAt (dlDataMsg 255).body 2 2, num := leAt (dlDataMsg 255).body 4 2,
          data :=
            List.take (leAt (dlDataMsg 255).body 4 2 * prbBytes (leAt (dlDataMsg 255).body 7 1))
              (List.drop 16 (dlDataMsg 255).body) :
          Piece } :
      HeldData }.gen))) ∧
    ((amendState.admits 3 1 dlOther) ∧
      ((firstFail (sampleBody dlOther true) = none) ∧
      (firstFail
    (((amendState.remember dlOther 3).airChecks dlOther.air ++
        (amendState.remember dlOther 3).sampleSheaf dlOther
          ((amendState.remember dlOther 3).dlLayers (airCar dlOther.air)) fun f ↦ decide (f ≤ 3)) ++
      [(amendState.remember dlOther 3).dataWindow dlOther]) =
  none) ∧
      (List.find?
    (fun x ↦
      { asker := dlOther.asker 3 1, ackReq := dlOther.ackReq, car := airCar dlOther.air,
              slotT := (amendState.remember dlOther 3).airSlotTick dlOther.air, sym := airSym dlOther.air,
              id := leAt dlOther.body 0 2, gen := leAt dlOther.body 8 1, layer := leAt dlOther.body 6 1,
              fmt := leAt dlOther.body 7 1,
              piece :=
                { start := leAt dlOther.body 2 2, num := leAt dlOther.body 4 2,
                  data :=
                    List.take (leAt dlOther.body 4 2 * prbBytes (leAt dlOther.body 7 1)) (List.drop 16 dlOther.body) :
                  Piece } :
              HeldData }.names
          x &&
        !x.revoked)
    amendState.con.sects =
  some (standing true 7 0)) ∧
      ((standing true 7 0).gen =
  { asker := dlOther.asker 3 1, ackReq := dlOther.ackReq, car := airCar dlOther.air,
      slotT := (amendState.remember dlOther 3).airSlotTick dlOther.air, sym := airSym dlOther.air,
      id := leAt dlOther.body 0 2, gen := leAt dlOther.body 8 1, layer := leAt dlOther.body 6 1,
      fmt := leAt dlOther.body 7 1,
      piece :=
        { start := leAt dlOther.body 2 2, num := leAt dlOther.body 4 2,
          data := List.take (leAt dlOther.body 4 2 * prbBytes (leAt dlOther.body 7 1)) (List.drop 16 dlOther.body) :
          Piece } :
      HeldData }.gen) ∧
      (firstFail
    (pieceChecks (standing true 7 0)
      { asker := dlOther.asker 3 1, ackReq := dlOther.ackReq, car := airCar dlOther.air,
        slotT := (amendState.remember dlOther 3).airSlotTick dlOther.air, sym := airSym dlOther.air,
        id := leAt dlOther.body 0 2, gen := leAt dlOther.body 8 1, layer := leAt dlOther.body 6 1,
        fmt := leAt dlOther.body 7 1,
        piece :=
          { start := leAt dlOther.body 2 2, num := leAt dlOther.body 4 2,
            data := List.take (leAt dlOther.body 4 2 * prbBytes (leAt dlOther.body 7 1)) (List.drop 16 dlOther.body) :
            Piece } :
        HeldData }) =
  some (rcRange, 22)))) ∧
    ((content.admits 3 4 (partialMsg 5)) ∧
      ((content.flag R.LNK_SEG.BOUNDARY = false) ∧
      (firstFail (sampleBody (partialMsg 5) false) = none) ∧
      (firstFail
    (((content.remember (partialMsg 5) 3).airChecks (partialMsg 5).air ++
        (content.remember (partialMsg 5) 3).sampleSheaf (partialMsg 5)
          ((content.remember (partialMsg 5) 3).ulLayers (airCar (partialMsg 5).air)) fun f ↦
          f == 5 || f == 6 && decide (3 ≤ (partialMsg 5).rev)) ++
      [if (content.remember (partialMsg 5) 3).expectsPartial = true then
          (content.remember (partialMsg 5) 3).windowCheck (airCar (partialMsg 5).air) 4
            ((content.remember (partialMsg 5) 3).airTick (partialMsg 5).air)
        else none]) =
  none) ∧
      (none =
  List.find? (fun x ↦ x.sym == airSym (partialMsg 5).air && x.id == leAt (partialMsg 5).body 0 2)
    ((content.remember (partialMsg 5) 3).slotSects false (airCar (partialMsg 5).air)
      ((content.remember (partialMsg 5) 3).airSlotTick (partialMsg 5).air))))) ∧
    (((held [standing false 7 0]).admits 3 4 (partialMsg 6)) ∧
      (((held [standing false 7 0]).flag R.LNK_SEG.BOUNDARY = false) ∧
      (firstFail (sampleBody (partialMsg 6) false) = none) ∧
      (firstFail
    ((((held [standing false 7 0]).remember (partialMsg 6) 3).airChecks (partialMsg 6).air ++
        ((held [standing false 7 0]).remember (partialMsg 6) 3).sampleSheaf (partialMsg 6)
          (((held [standing false 7 0]).remember (partialMsg 6) 3).ulLayers (airCar (partialMsg 6).air)) fun f ↦
          f == 5 || f == 6 && decide (3 ≤ (partialMsg 6).rev)) ++
      [if ((held [standing false 7 0]).remember (partialMsg 6) 3).expectsPartial = true then
          ((held [standing false 7 0]).remember (partialMsg 6) 3).windowCheck (airCar (partialMsg 6).air) 4
            (((held [standing false 7 0]).remember (partialMsg 6) 3).airTick (partialMsg 6).air)
        else none]) =
  none) ∧
      (some (standing false 7 0) =
  List.find? (fun x ↦ x.sym == airSym (partialMsg 6).air && x.id == leAt (partialMsg 6).body 0 2)
    (((held [standing false 7 0]).remember (partialMsg 6) 3).slotSects false (airCar (partialMsg 6).air)
      (((held [standing false 7 0]).remember (partialMsg 6) 3).airSlotTick (partialMsg 6).air))) ∧
      ((held [standing false 7 0]).rxc.partials = []) ∧
      (firstFail (partialChecks (partialMsg 6) (standing false 7 0) false) = none))) ∧
    ((moving.admits 5 1 (dWriteMsg 0 8)) ∧
      ((16 = 8 * (dWriteMsg 0 8).lenW.toNat - 40) ∧
      (0 = leAt (dWriteMsg 0 8).body 0 1) ∧
      (8 = leAt (dWriteMsg 0 8).body 8 8) ∧
      (0 < 3) ∧
      (firstFail (moving.dChecks (dWriteMsg 0 8).body 16) = none) ∧
      (moving.xferBusy (leAt (dWriteMsg 0 8).body 1 1) (some 0) = false) ∧
      (moving.dramOk = true) ∧
      (¬(0 = 0 ∧ (moving.get R.SHF_STATE.STAGE = 1 ∨ moving.get R.SHF_STATE.STAGE = 2 ∨ moving.run = runApplying))) ∧
      (linkBad [(2, false)] = false))) ∧
    ((moving.admits 5 1 (dWriteMsg 0 8)) ∧
      ((16 = 8 * (dWriteMsg 0 8).lenW.toNat - 40) ∧
      (0 = leAt (dWriteMsg 0 8).body 0 1) ∧
      (8 = leAt (dWriteMsg 0 8).body 8 8) ∧
      (0 < 3) ∧
      (firstFail (moving.dChecks (dWriteMsg 0 8).body 16) = none) ∧
      (moving.xferBusy (leAt (dWriteMsg 0 8).body 1 1) (some 0) = false) ∧
      (moving.dramOk = true) ∧
      (¬(0 = 0 ∧ (moving.get R.SHF_STATE.STAGE = 1 ∨ moving.get R.SHF_STATE.STAGE = 2 ∨ moving.run = runApplying))) ∧
      (linkBad [(2, true)] = true))) ∧
    ((content.admits 5 1 (dWriteMsg 2 0)) ∧
      ((16 = 8 * (dWriteMsg 2 0).lenW.toNat - 40) ∧
      (2 = leAt (dWriteMsg 2 0).body 0 1) ∧
      (0 = leAt (dWriteMsg 2 0).body 8 8) ∧
      (2 < 3) ∧
      (firstFail (content.dChecks (dWriteMsg 2 0).body 16) = none) ∧
      (content.xferBusy (leAt (dWriteMsg 2 0).body 1 1) (some 2) = false) ∧
      (content.dramOk = true) ∧
      (¬(2 = 0 ∧ (content.get R.SHF_STATE.STAGE = 1 ∨ content.get R.SHF_STATE.STAGE = 2 ∨ content.run = runApplying))) ∧
      (linkBad [] = false))) ∧
    ((content.admits 5 2 (dReadMsg 5)) ∧
      ((5 = leAt (dReadMsg 5).body 0 1) ∧
      (15 = leAt (dReadMsg 5).body 1 1) ∧
      (firstFail (content.dChecks (dReadMsg 5).body 0 ++ [content.dLength (dReadMsg 5).body]) = none) ∧
      (¬(5 = 2 ∧ content.fwVerifying = true)) ∧
      (∀ x ∈ content.con.xfers, x.id ≠ 15) ∧
      ((List.filter (fun x ↦ x.read) content.con.xfers).length < 4) ∧
      (regionDram 5 = true → content.dramFailed = false) ∧
      (5 = 5 → content.get R.TAL_STAT.STATE ≠ 2) ∧
      (regionDram 5 = true → linkBad [] = false))) ∧
    ((content.admits 5 2 (dReadMsg 0)) ∧
      ((0 = leAt (dReadMsg 0).body 0 1) ∧
      (15 = leAt (dReadMsg 0).body 1 1) ∧
      (firstFail (content.dChecks (dReadMsg 0).body 0 ++ [content.dLength (dReadMsg 0).body]) = none) ∧
      (¬(0 = 2 ∧ content.fwVerifying = true)) ∧
      (∀ x ∈ content.con.xfers, x.id ≠ 15) ∧
      ((List.filter (fun x ↦ x.read) content.con.xfers).length < 4) ∧
      (regionDram 0 = true → content.dramFailed = false) ∧
      (0 = 5 → content.get R.TAL_STAT.STATE ≠ 2) ∧
      (regionDram 0 = true → linkBad [] = false))) ∧
    ((content.admits 5 2 (dReadMsg 0)) ∧
      ((0 = leAt (dReadMsg 0).body 0 1) ∧
      (15 = leAt (dReadMsg 0).body 1 1) ∧
      (firstFail (content.dChecks (dReadMsg 0).body 0 ++ [content.dLength (dReadMsg 0).body]) = none) ∧
      (¬(0 = 2 ∧ content.fwVerifying = true)) ∧
      (∀ x ∈ content.con.xfers, x.id ≠ 15) ∧
      ((List.filter (fun x ↦ x.read) content.con.xfers).length < 4) ∧
      (regionDram 0 = true → content.dramFailed = false) ∧
      (0 = 5 → content.get R.TAL_STAT.STATE ≠ 2) ∧
      (regionDram 0 = true) ∧
      (linkBad [(0, true)] = true))) ∧
    ((moving.admits 5 4 (dEndMsg 0 (crc32c (List.replicate 16 0)).toNat)) ∧
      ((0 = leAt (dEndMsg 0 (crc32c (List.replicate 16 0)).toNat).body 0 1) ∧
      (15 = leAt (dEndMsg 0 (crc32c (List.replicate 16 0)).toNat).body 1 1) ∧
      (firstFail
    (moving.dChecks (dEndMsg 0 (crc32c (List.replicate 16 0)).toNat).body 0 ++
      [moving.dLength (dEndMsg 0 (crc32c (List.replicate 16 0)).toNat).body]) =
  none) ∧
      (regionDram 0 = true → moving.dramFailed = false) ∧
      (regionDram 0 = true → linkBad [] = false) ∧
      (crc32c
    (moving.regionBytes 0 (leAt (dEndMsg 0 (crc32c (List.replicate 16 0)).toNat).body 8 8)
      (leAt (dEndMsg 0 (crc32c (List.replicate 16 0)).toNat).body 16 8)) =
  BitVec.ofNat 32 (leAt (dEndMsg 0 (crc32c (List.replicate 16 0)).toNat).body 24 4)))) ∧
    ((moving.admits 5 4 (dEndMsg 0 5)) ∧
      ((0 = leAt (dEndMsg 0 5).body 0 1) ∧
      (15 = leAt (dEndMsg 0 5).body 1 1) ∧
      (firstFail (moving.dChecks (dEndMsg 0 5).body 0 ++ [moving.dLength (dEndMsg 0 5).body]) = none) ∧
      (regionDram 0 = true → moving.dramFailed = false) ∧
      (regionDram 0 = true) ∧
      (linkBad [(1, true)] = true))) ∧
    ((moving.admits 5 4 (dEndMsg 0 5)) ∧
      ((0 = leAt (dEndMsg 0 5).body 0 1) ∧
      (15 = leAt (dEndMsg 0 5).body 1 1) ∧
      (firstFail (moving.dChecks (dEndMsg 0 5).body 0 ++ [moving.dLength (dEndMsg 0 5).body]) = none) ∧
      (regionDram 0 = true → moving.dramFailed = false) ∧
      (regionDram 0 = true → linkBad [] = false) ∧
      (crc32c (moving.regionBytes 0 (leAt (dEndMsg 0 5).body 8 8) (leAt (dEndMsg 0 5).body 16 8)) ≠
  BitVec.ofNat 32 (leAt (dEndMsg 0 5).body 24 4)))) :=
  by constructorm* _ ∧ _ <;> first | decide +kernel | ((with_reducible refine admits_of ?_ ?_) <;> [decide +kernel; rfl])

theorem witness_SecurityCommandsBegin :
    ((secUp.grants (envelopeCmd secUp) 4 [] 8) ∧
      ((badAfter 4 4 ((envelopeCmd secUp).params 4 [] 8) = none) ∧
      (secUp.sec.op = none) ∧
      (secUp.envOpen = true))) ∧
    ((secBusy.grants (envelopeCmd secBusy) 4 [] 8) ∧
      ((badAfter 4 4 ((envelopeCmd secBusy).params 4 [] 8) = none) ∧
      (secBusy.sec.op ≠ none))) ∧
    ((secUp.grants (enrollCmd secUp) 5 [0] 8) ∧
      ((badAfter 1 3 ((enrollCmd secUp).params 5 [0] 8) = none) ∧
      (secUp.sec.op = none) ∧
      (True))) ∧
    ((secBusy.grants (enrollCmd secBusy) 5 [0] 8) ∧
      ((badAfter 1 3 ((enrollCmd secBusy).params 5 [0] 8) = none) ∧
      (secBusy.sec.op ≠ none))) ∧
    ((enrolled.grants (revokeCmd enrolled) 5 [1] 8) ∧
      ((badByte 1 1 4 6 ((revokeCmd enrolled).params 5 [1] 8) = none) ∧
      (enrolled.sec.op = none) ∧
      (((enrolled.lock.getD { : LockCopy }).key (leAt ((revokeCmd enrolled).params 5 [1] 8) 1 1)).state = 1 ∧
  enrolled.keyNamed (leAt ((revokeCmd enrolled).params 5 [1] 8) 1 1) = false))) ∧
    ((secBusy.grants (revokeCmd secBusy) 5 [1] 8) ∧
      ((badByte 1 1 4 6 ((revokeCmd secBusy).params 5 [1] 8) = none) ∧
      (secBusy.sec.op ≠ none))) ∧
    ((secUp.grants (installCmd secUp) 8 [0] 8) ∧
      ((badAfter 1 3 ((installCmd secUp).params 8 [0] 8) = none) ∧
      (secUp.sec.op = none) ∧
      (secUp.get R.SYS_BOOTSTAT.TRIAL = 0))) ∧
    ((secBusy.grants (installCmd secBusy) 8 [0] 8) ∧
      ((badAfter 1 3 ((installCmd secBusy).params 8 [0] 8) = none) ∧
      (secBusy.sec.op ≠ none))) ∧
    ((secTrial.grants (confirmCmd secTrial) 8 [1] 8) ∧
      ((badByte 1 0 1 6 ((confirmCmd secTrial).params 8 [1] 8) = none) ∧
      (secTrial.sec.op = none) ∧
      (secTrial.get R.SYS_BOOTSTAT.TRIAL = 1))) ∧
    ((secBusy.grants (confirmCmd secBusy) 8 [1] 8) ∧
      ((badByte 1 0 1 6 ((confirmCmd secBusy).params 8 [1] 8) = none) ∧
      (secBusy.sec.op ≠ none))) ∧
    ((secUp.grants (lockCmd secUp) 9 [] 8) ∧
      (((if 1 < leAt ((lockCmd secUp).params 9 [] 8) 0 1 then some 0 else badByte 1 0 1 6 ((lockCmd secUp).params 9 [] 8)) =
  none) ∧
      (secUp.sec.op = none) ∧
      (True))) ∧
    ((secBusy.grants (lockCmd secBusy) 9 [] 8) ∧
      (((if 1 < leAt ((lockCmd secBusy).params 9 [] 8) 0 1 then some 0 else badByte 1 0 1 6 ((lockCmd secBusy).params 9 [] 8)) =
  none) ∧
      (secBusy.sec.op ≠ none))) ∧
    (((logState 1).grants (clearCmd (logState 1)) 7 [] 8) ∧
      ((badAfter 0 8 ((clearCmd (logState 1)).params 7 [] 8) = none) ∧
      ((logState 1).tal.queue = []) ∧
      ((clearCmd (logState 1)).ctr.toNat ≠ 2 ^ 64 - 1) ∧
      ((logState 1).get R.TAL_STAT.STATE = 1) ∧
      ((logState 1).logOpen = false))) ∧
    (((logState 3).grants (clearCmd (logState 3)) 7 [] 8) ∧
      ((badAfter 0 8 ((clearCmd (logState 3)).params 7 [] 8) = none) ∧
      ((logState 3).tal.queue = []) ∧
      ((clearCmd (logState 3)).ctr.toNat ≠ 2 ^ 64 - 1) ∧
      ((logState 3).clearRefusal = some rcState))) ∧
    (((logState 2).grants (clearCmd (logState 2)) 7 [] 8) ∧
      ((badAfter 0 8 ((clearCmd (logState 2)).params 7 [] 8) = none) ∧
      ((logState 2).tal.queue = []) ∧
      ((clearCmd (logState 2)).ctr.toNat ≠ 2 ^ 64 - 1) ∧
      ((logState 2).clearRefusal = some rcLogBusy))) :=
  by constructorm* _ ∧ _ <;> first | decide +kernel | ((with_reducible refine grants_of ?_ ?_ ?_) <;> [decide +kernel; exact admits_of (by decide +kernel) (critOf_crc ..); exact critOf_tag _ _ _ _ _ rfl])

theorem witness_SecurityOperationsEnd :
    ((¬(askerOf.plane = 1 ∧ (askerOf.typ = 14 ∨ askerOf.typ = 15))) ∧
      ((secIn (SecOp.rekey [1, 2])).sec.op = some (SecOp.rekey [1, 2], askerOf))) ∧
    ((¬(askerOf.plane = 1 ∧ (askerOf.typ = 14 ∨ askerOf.typ = 15))) ∧
      ((secIn (SecOp.lockWrite 3)).sec.op = some (SecOp.lockWrite 3, askerOf)) ∧
      ((secIn (SecOp.lockWrite 3)).loft.readable = true) ∧
      (SecOp.lockWrite 3 = SecOp.lockWrite ((secIn (SecOp.lockWrite 3)).lock.getD { : LockCopy }).policy)) ∧
    ((¬(askerOf.plane = 1 ∧ (askerOf.typ = 14 ∨ askerOf.typ = 15))) ∧
      ((secIn (SecOp.revoke 1)).sec.op = some (SecOp.revoke 1, askerOf)) ∧
      ((secIn (SecOp.revoke 1)).loft.readable = true) ∧
      (SecOp.revoke 1 = SecOp.revoke (0 + 1))) ∧
    ((¬(askerOf.plane = 1 ∧ (askerOf.typ = 14 ∨ askerOf.typ = 15))) ∧
      ((secIn (SecOp.revoke 2)).sec.op = some (SecOp.revoke 2, askerOf)) ∧
      ((secIn (SecOp.revoke 2)).loft.readable = true) ∧
      (SecOp.revoke 2 = SecOp.revoke (1 + 1))) ∧
    ((¬(askerOf.plane = 1 ∧ (askerOf.typ = 14 ∨ askerOf.typ = 15))) ∧
      ((secIn (SecOp.revoke 3)).sec.op = some (SecOp.revoke 3, askerOf)) ∧
      ((secIn (SecOp.revoke 3)).loft.readable = true) ∧
      (SecOp.revoke 3 = SecOp.revoke (2 + 1))) ∧
    ((¬(askerOf.plane = 1 ∧ (askerOf.typ = 14 ∨ askerOf.typ = 15))) ∧
      ((secIn (SecOp.revoke 4)).sec.op = some (SecOp.revoke 4, askerOf)) ∧
      ((secIn (SecOp.revoke 4)).loft.readable = true) ∧
      (SecOp.revoke 4 = SecOp.revoke (3 + 1))) ∧
    ((¬(askerOf.plane = 1 ∧ (askerOf.typ = 14 ∨ askerOf.typ = 15))) ∧
      ((secIn (SecOp.lockWrite 2)).sec.op = some (SecOp.lockWrite 2, askerOf)) ∧
      ((secIn (SecOp.lockWrite 2)).loft.readable = true)) ∧
    ((¬(askerOf.plane = 1 ∧ (askerOf.typ = 14 ∨ askerOf.typ = 15))) ∧
      ((secIn (SecOp.confirm false)).sec.op = some (SecOp.confirm false, askerOf))) ∧
    ((¬(askerOf.plane = 1 ∧ (askerOf.typ = 14 ∨ askerOf.typ = 15))) ∧
      (installing.sec.op = some (SecOp.install 2644, askerOf)) ∧
      (installing.dramFailed = false) ∧
      (linkBad [(1, true)] = true)) ∧
    ((secUp.sec.op = none)) ∧
    ((treeUp.boot.restarting = false) ∧
      (treeUp.admits 1 7 (attestMsg 0)) ∧
      (treeUp.attestCheck (attestMsg 0).body = none)) ∧
    ((treeUp.boot.restarting = false) ∧
      (treeUp.admits 1 7 (attestMsg 1)) ∧
      (treeUp.attestCheck (attestMsg 1).body = none)) ∧
    (((attesting 1).sec.attest = some (askerOf, 1, List.replicate 32 119)) ∧
      ((attesting 1).portUp askerOf.port = true) ∧
      ((attesting 1).flag R.LNK_PROTO.POS_VALID = true)) ∧
    (((attesting 0).sec.attest = some (askerOf, 0, List.replicate 32 119)) ∧
      ((attesting 0).portUp askerOf.port = true) ∧
      ((attesting 0).flag R.LNK_PROTO.POS_VALID = true) ∧
      (3 = (attesting 0).get R.SEC_SIGIDX.NEXT) ∧
      (3 < 2 ^ 25 - 2 ^ 20) ∧
      (3 ≠ (attesting 0).loft.sigLimit)) ∧
    ((treeUp.boot.inReset = false)) ∧
    ((secUp.boot.inReset = false)) :=
  by constructorm* _ ∧ _ <;> first | decide +kernel | ((with_reducible refine admits_of ?_ ?_) <;> [decide +kernel; rfl])

theorem witness_CommandCounterIsTested :
      ((secIn (SecOp.rekey [1, 2])).sec.op = some (SecOp.rekey [1, 2], askerOf)) :=
  by decide +kernel

theorem witness_RepeatedTriggersAreSuppressed :
    ((talMandatory 16 = false) ∧
      (sparseGet 0 (triggered (491520002 - hundredMs)).tal.lastRec 16 ≠ 0) ∧
      ((triggered (491520002 - hundredMs)).tim.cycles + 1 <
  sparseGet 0 (triggered (491520002 - hundredMs)).tal.lastRec 16 + hundredMs)) ∧
    ((talMandatory 16 = true ∨
  sparseGet 0 (triggered (491520001 - hundredMs)).tal.lastRec 16 = 0 ∨
    sparseGet 0 (triggered (491520001 - hundredMs)).tal.lastRec 16 + hundredMs ≤
      (triggered (491520001 - hundredMs)).tim.cycles + 1) ∧
      ((triggered (491520001 - hundredMs)).tal.queue.length < 56)) ∧
    ((talMandatory 17 = true ∨
  sparseGet 0 (triggered 491520001).tal.lastRec 17 = 0 ∨
    sparseGet 0 (triggered 491520001).tal.lastRec 17 + hundredMs ≤ (triggered 491520001).tim.cycles + 1) ∧
      ((triggered 491520001).tal.queue.length < 56)) :=
  by decide +kernel

theorem witness_TicksOfNetworkTime :
      ({ sec := 7, ns := 999999999, frac := 65535 : NetTime }.ns < 10 ^ 9) ∧
      ({ sec := 7, ns := 999999999, frac := 65535 : NetTime }.frac < 65536) :=
  by decide +kernel

/-- What is below the last counter, or repeats it, is refused; R463's limits. -/
theorem witness_CommandCounterIsTested_2 : exhausted.loft.lastCtr = 2 ^ 64 - 1 ∧ (9 : Nat) ≠ 6 ∧ (5 : Nat) ≠ 2 ^ 64 - 1 ∧ (nearLast 9).loft.lastCtr ≠ 2 ^ 64 - 1
    ∧ 9 ≤ (nearLast 9).loft.lastCtr := by decide
theorem signedBody_tag (s : State) (cmd ctr : Nat) (tail : List Byte) (n : Nat) (h : n = tail.length) :
    s.commandTag (signedBody s cmd ctr tail) n = ((signedBody s cmd ctr tail).drop (16 + n)).take 16 := by
  subst h
  let b := leBytes 2 cmd ++ leBytes 2 tail.length ++ leBytes 4 0 ++ leBytes 8 ctr ++ tail
  have hb : b.length = 16 + tail.length := by simp only [b, List.length_append, length_leBytes]
  have e : signedBody s cmd ctr tail = b ++ s.commandTag b tail.length := rfl
  rw [e, List.drop_left' hb]
  simp only [State.commandTag, List.take_left' hb]
  rw [List.take_take, Nat.min_self, List.take_of_length_le (Nat.le_of_eq hb)]
theorem witness_CommandCounterIsTested_3 :
    exhausted.commandTag (signedBody exhausted 9 (2 ^ 64 - 1) [1, 1, 0, 0, 0, 0, 0, 0]) 8
        = ((signedBody exhausted 9 (2 ^ 64 - 1) [1, 1, 0, 0, 0, 0, 0, 0]).drop (16 + 8)).take 16
      ∧ exhausted.commandTag (signedBody exhausted 6 5 (List.replicate 64 0)) 64 = ((signedBody exhausted 6 5 (List.replicate 64 0)).drop (16 + 64)).take 16
      ∧ (nearLast 9).commandTag (signedBody (nearLast 9) 9 9 [1, 1, 0, 0, 0, 0, 0, 0]) 8
        = ((signedBody (nearLast 9) 9 9 [1, 1, 0, 0, 0, 0, 0, 0]).drop (16 + 8)).take 16
      ∧ exhausted.commandTag (signedBody exhausted 6 (2 ^ 64 - 1) (List.replicate 64 0)) 64
        = ((signedBody exhausted 6 (2 ^ 64 - 1) (List.replicate 64 0)).drop (16 + 64)).take 16
      ∧ (nearLast (2 ^ 64 - 2)).commandTag (signedBody (nearLast (2 ^ 64 - 2)) 9 (2 ^ 64 - 1) [1, 1, 0, 0, 0, 0, 0, 0]) 8
        = ((signedBody (nearLast (2 ^ 64 - 2)) 9 (2 ^ 64 - 1) [1, 1, 0, 0, 0, 0, 0, 0]).drop (16 + 8)).take 16 :=
  ⟨signedBody_tag _ _ _ _ _ rfl, signedBody_tag _ _ _ _ _ rfl, signedBody_tag _ _ _ _ _ rfl, signedBody_tag _ _ _ _ _ rfl, signedBody_tag _ _ _ _ _ rfl⟩
theorem witness_CommandCounterIsTested_4 : exhausted.loft.lastCtr = 2 ^ 64 - 1 ∧ (nearLast (2 ^ 64 - 2)).loft.lastCtr ≠ 2 ^ 64 - 1
    ∧ (nearLast (2 ^ 64 - 2)).loft.lastCtr < 2 ^ 64 - 1 ∧ ¬ (askerOf.plane = 1 ∧ (askerOf.typ = 0x0E ∨ askerOf.typ = 0x0F)) := by decide
/-- Where the FURROWS section spells one furrow with the SEND of the symbol named, a chain takes the chips of TINE_WEIGHTS; with no SEND, none. -/
theorem witness_OtherCPlaneMessages_tine (plan : furrowsOf [1] = [[sendAct]]) :
    tinePlan.admits 2 0x08 tineMsg ∧
    (15 = leAt tineMsg.body 0 1 ∧ 510 = leAt tineMsg.body 2 2 ∧ 2 = leAt tineMsg.body 4 2 ∧ zeroAt tineMsg.body 1 1 = true ∧ zeroAt tineMsg.body 6 2 = true ∧
      (∀ i < 16 * 2, leAt tineMsg.body (8 + 2 * i) 2 < 2 ^ 13) ∧ tineMsg.lenIs (8 + 32 * 2) = none ∧
      firstFail ((tinePlan.remember tineMsg 2).airChecks tineMsg.air) = none ∧
      (tinePlan.remember tineMsg 2).windowCheck (airCar tineMsg.air) 0 ((tinePlan.remember tineMsg 2).airTick tineMsg.air) = none ∧
      tinePlan.part.tine = true ∧ 510 + 2 ≤ (tinePlan.remember tineMsg 2).get (R.RFE_TINE_k.LEN 15)) ∧
    (tinePlan.remember tineMsg 2).chipsHeld 15 ((tinePlan.remember tineMsg 2).airTick tineMsg.air) + 2
      ≤ (tinePlan.remember tineMsg 2).maxChips 15 ((tinePlan.remember tineMsg 2).cyclePos ((tinePlan.remember tineMsg 2).airTick tineMsg.air)) := by
  refine ⟨admits_of (by decide +kernel) rfl, by decide +kernel, ?_⟩
  have hf : (tinePlan.remember tineMsg 2).furrows = [[sendAct]] := plan
  simp only [State.maxChips, State.serving, State.furrowOf, hf]
  decide +kernel
theorem witness_OtherCPlaneMessages_tineNone (plan : furrowsOf [1] = [[]]) :
    (tinePlan.remember tineMsg 2).maxChips 15 ((tinePlan.remember tineMsg 2).cyclePos ((tinePlan.remember tineMsg 2).airTick tineMsg.air))
      < (tinePlan.remember tineMsg 2).chipsHeld 15 ((tinePlan.remember tineMsg 2).airTick tineMsg.air) + 2 := by
  have hf : (tinePlan.remember tineMsg 2).furrows = [[]] := plan
  simp only [State.maxChips, State.serving, State.furrowOf, hf]
  decide +kernel

/-- Where it spells the COVAR of the symbol named, the descriptor of that COVAR admits SOUND_REQ; with no COVAR, none does. -/
theorem witness_OtherCPlaneMessages_sound (plan : furrowsOf [1] = [[covarAct]]) :
    soundPlan.admits 2 0x09 (soundMsg 1) ∧
    (16 = leAt (soundMsg 1).body 0 1 ∧ 4 = leAt (soundMsg 1).body 1 1 ∧ 16 = leAt (soundMsg 1).body 2 1 ∧ 1 = leAt (soundMsg 1).body 3 1 ∧
      0x3FFFC = leAt (soundMsg 1).body 4 4 ∧ soundPlan.part.ex = true ∧ firstFail ((soundPlan.remember (soundMsg 1) 2).airChecks (soundMsg 1).air) = none ∧
      0x3FFFC + (soundPlan.remember (soundMsg 1) 2).groups (airCar (soundMsg 1).air) 16 * 4 ≤ 2 ^ 18 ∧
      (soundPlan.remember (soundMsg 1) 2).windowCheck (airCar (soundMsg 1).air) 2 ((soundPlan.remember (soundMsg 1) 2).airTick (soundMsg 1).air) = none ∧
      3 ≤ (soundPlan.remember (soundMsg 1) 2).sheafClass ∧ soundPlan.flag R.RXC_SOUND.BUSY = false) ∧
    (soundPlan.remember (soundMsg 1) 2).covarPast (airCar (soundMsg 1).air) ((soundPlan.remember (soundMsg 1) 2).airTick (soundMsg 1).air) = false ∧
    (let d := (soundPlan.remember (soundMsg 1) 2).soundSlot (airCar (soundMsg 1).air) ((soundPlan.remember (soundMsg 1) 2).airTick (soundMsg 1).air)
      let w := (soundPlan.remember (soundMsg 1) 2).param (d - 1)
      0 < d ∧ bits w 12 8 ≤ 16 ∧ 4 ≤ bits w 15 13 ∧ 16 ≤ bits w 20 16) := by
  refine ⟨admits_of (by decide +kernel) rfl, by decide +kernel, covarPast_far _ _ _ (by decide +kernel), ?_⟩
  have hf : (soundPlan.remember (soundMsg 1) 2).furrows = [[covarAct]] := plan
  simp only [State.soundSlot, State.soundSlotAt, State.soundCovar, State.serving, State.furrowOf, hf]
  decide +kernel
theorem witness_OtherCPlaneMessages_soundNone (plan : furrowsOf [1] = [[]]) :
    (soundPlan.remember (soundMsg 1) 2).soundSlot (airCar (soundMsg 1).air) ((soundPlan.remember (soundMsg 1) 2).airTick (soundMsg 1).air) = 0 := by
  have hf : (soundPlan.remember (soundMsg 1) 2).furrows = [[]] := plan
  simp only [State.soundSlot, State.soundSlotAt, State.soundCovar, State.serving, State.furrowOf, hf]
  decide +kernel
/-- A COVAR that serves the next subframe has begun for a symbol of this one. -/
theorem witness_OtherCPlaneMessages_soundLate (plan : furrowsOf [1] = [[covarEarly]]) :
    soundLate.admits 2 0x09 lateMsg ∧
    (16 = leAt lateMsg.body 0 1 ∧ 4 = leAt lateMsg.body 1 1 ∧ 16 = leAt lateMsg.body 2 1 ∧ 0 = leAt lateMsg.body 3 1 ∧ 0x3FFFC = leAt lateMsg.body 4 4 ∧
      soundLate.part.ex = true ∧ firstFail ((soundLate.remember lateMsg 2).airChecks lateMsg.air) = none ∧
      (soundLate.remember lateMsg 2).ulLayers (airCar lateMsg.air) = 0) ∧
    (soundLate.remember lateMsg 2).covarPast (airCar lateMsg.air) ((soundLate.remember lateMsg 2).airTick lateMsg.air) = true := by
  refine ⟨admits_of (by decide +kernel) rfl, by decide +kernel, ?_⟩
  have hf : (soundLate.remember lateMsg 2).furrows = [[covarEarly]] := plan
  simp only [State.covarPast, State.soundCovar, State.serving, State.furrowOf, hf]
  decide +kernel

end Sys2Proof.Tests
end

section

namespace Sys2Proof.Machine

/-- The rest of a well-formed network time is shorter than a second: `10 ^ 9` ns are exactly 491,520,000 ticks, and it falls short of them
by at least one unit of 2^-16 ns. -/
theorem restOfSecond_lt_secondTicks (t : NetTime) (hns : t.ns < 10 ^ 9) (hfrac : t.frac < 65536) :
    (t.ns * 65536 + t.frac) * 49152 < 491520000 * (65536 * 100000) := by
  have hunits : t.ns * 65536 + t.frac < 10 ^ 9 * 65536 := by omega
  calc (t.ns * 65536 + t.frac) * 49152
      < 10 ^ 9 * 65536 * 49152 := Nat.mul_lt_mul_of_pos_right hunits (by decide)
    _ = 491520000 * (65536 * 100000) := by norm_num

/-- Settles O60: the quotient of the model's division is the floor of R20, and it stays below the ticks of a second. -/
theorem ticksOfNetworkTime : Obligations.TicksOfNetworkTime := by
  intro t hns hfrac
  have hunit : 0 < 65536 * 100000 := by decide
  refine ⟨(t.ns * 65536 + t.frac) * 49152 / (65536 * 100000), rfl, ?_, ?_, ?_⟩
  · exact Nat.div_mul_le_self _ _
  · exact (Nat.div_lt_iff_lt_mul hunit).1 (Nat.lt_succ_self _)
  · exact (Nat.div_lt_iff_lt_mul hunit).2 (restOfSecond_lt_secondTicks t hns hfrac)

end Sys2Proof.Machine
end

section
/-! The command counter against LAST (R463, R464): what each step of authentication leaves of the loft and of the answers that wait, and the
two ways a command with a right tag can go. -/

namespace Sys2Proof.Machine

-- What the steps of authentication leave

@[simp] theorem Loft.withLast_lastCtr (l : Loft) (n : Nat) : (l.withLast n).lastCtr = n := by unfold Loft.withLast; split <;> rfl

@[simp] theorem State.setLast_loft (s : State) (n : Nat) : (s.setLast n).loft = s.loft.withLast n := rfl

@[simp] theorem State.security_loft (s : State) (event cmd sev : Nat) : (s.security event cmd sev).loft = s.loft :=
  (security_frame s event cmd sev).comps .loft (by decide)

@[simp] theorem State.security_answers (s : State) (event cmd sev : Nat) : (s.security event cmd sev).answers = s.answers :=
  (security_frame s event cmd sev).comps .answers (by decide)

@[simp] theorem State.runRefused_loft (s : State) (cmd reason : Nat) : (s.runRefused cmd reason).loft = s.loft := by
  unfold State.runRefused; split <;> rfl

@[simp] theorem State.runRefused_answers (s : State) (cmd reason : Nat) : (s.runRefused cmd reason).answers = s.answers := by
  unfold State.runRefused; split <;> rfl

@[simp] theorem State.critAnswer_loft (s : State) (a : Asker) (typ reason off detail : Nat) :
    (s.critAnswer a typ reason off detail).loft = s.loft :=
  (critAnswer_frame s a typ reason off detail).comps .loft (by decide)

/-- The final answer of a command that is itself no ACK or NACK joins the answers that wait (R177, R178). -/
theorem critAnswer_queues (s : State) (a : Asker) (typ reason off detail : Nat) (ha : ¬ (a.plane = 1 ∧ (a.typ = 0x0E ∨ a.typ = 0x0F))) :
    s.queues a typ reason off detail (s.critAnswer a typ reason off detail) := by
  intro hroom
  have hown : ¬ (a.plane == 1 && (a.typ == 0x0E || a.typ == 0x0F)) = true := by simpa using ha
  unfold State.critAnswer
  split <;> simp only [State.put_answers, State.answer, if_neg hown, if_pos hroom]

/-- What an answer joins is told by the answers that wait alone. -/
theorem queues_of_answers {s t u : State} {a : Asker} {typ reason off detail : Nat} (h : t.answers = s.answers)
    (hq : t.queues a typ reason off detail u) : s.queues a typ reason off detail u := by
  unfold State.queues at *; rwa [← h]

-- The test of the counter, by LAST

theorem ctrRefusal_of_exhausted {last cmd : Nat} (ctr : Nat) (hlast : last = 2 ^ 64 - 1) (hcmd : cmd ≠ 6) :
    ctrRefusal last ctr cmd = some (rcExhausted, 3) := if_pos ⟨hlast, hcmd⟩

/-- A REKEY at the largest LAST passes with the largest counter alone. -/
theorem ctrRefusal_rekey {last cmd : Nat} (ctr : Nat) (hlast : last = 2 ^ 64 - 1) (hcmd : cmd = 6) :
    ctrRefusal last ctr cmd = if ctr = 2 ^ 64 - 1 then none else some (rcReplay, 2) := by
  have h : ¬ (last = 2 ^ 64 - 1 ∧ cmd ≠ 6) := fun h => h.2 hcmd
  rw [ctrRefusal, if_neg h, if_pos hlast]

theorem ctrRefusal_of_le {last ctr : Nat} (cmd : Nat) (hlast : last ≠ 2 ^ 64 - 1) (h : ctr ≤ last) :
    ctrRefusal last ctr cmd = some (rcReplay, 2) := by
  simp only [ctrRefusal, hlast, h, false_and, if_false, if_true]

theorem ctrRefusal_of_lt {last ctr : Nat} (cmd : Nat) (hlast : last ≠ 2 ^ 64 - 1) (h : last < ctr) : ctrRefusal last ctr cmd = none := by
  simp only [ctrRefusal, hlast, Nat.not_le.mpr h, false_and, if_false]

-- Authentication after a right tag

section
variable {s : State} {body : List Byte} {cmd plen ctr : Nat} (a : Asker) (act : State → State)
  (htag : s.commandTag body plen = (body.drop (16 + plen)).take 16)
include htag

/-- A refused counter is answered with its reason at CTR, and the loft stays as it is (R463). -/
theorem authenticate_refuses (lastFails : Bool) {reason event : Nat} (ha : ¬ (a.plane = 1 ∧ (a.typ = 0x0E ∨ a.typ = 0x0F)))
    (h : ctrRefusal s.loft.lastCtr ctr cmd = some (reason, event)) :
    ∃ t, s.authenticate a body cmd plen ctr lastFails act = t ∧ s.queues a 0x0F reason 24 0 t ∧ t.loft = s.loft := by
  unfold State.authenticate
  extract_lets sec t u
  have ht : t.commandTag body plen = (body.drop (16 + plen)).take 16 := htag
  have hr : ctrRefusal t.loft.lastCtr ctr cmd = some (reason, event) := h
  rw [if_neg (not_not.mpr ht), hr]
  refine ⟨_, rfl, queues_of_answers ?_ (critAnswer_queues _ a _ _ _ _ ha), ?_⟩
  · simp [t]
  · simp [t, State.critNackAt]

/-- A counter that passes becomes LAST, where the loft takes it, and the command goes on from there (R463, R464). -/
theorem authenticate_passes (h : ctrRefusal s.loft.lastCtr ctr cmd = none) :
    ∃ u, s.authenticate a body cmd plen ctr false act = act u ∧ u.loft = s.loft.withLast ctr := by
  unfold State.authenticate
  extract_lets sec t u
  have ht : t.commandTag body plen = (body.drop (16 + plen)).take 16 := htag
  have hr : ctrRefusal t.loft.lastCtr ctr cmd = none := h
  rw [if_neg (not_not.mpr ht), hr]
  refine ⟨_, rfl, ?_⟩
  split <;> simp [u, t]

end

-- REKEY

/-- A REKEY that its loft writes complete leaves LAST at 0 (R463, R468). -/
theorem secDone_rekey_lastCtr (s : State) (key : List Byte) (a : Asker) (link : LinkErrs) :
    (s.secDone (.rekey key) a false link).loft.lastCtr = 0 := by
  simp [State.secDone, State.critAck]

theorem exec_securityOpDone_of_op {s : State} {op : SecOp} {a : Asker} (fails : Bool) (link : LinkErrs) (h : s.sec.op = some (op, a)) :
    exec (.securityOpDone fails link) s = .next (s.secEnd.secDone op a fails link) := by
  show execSecurityOpDone fails s link = _
  simp only [execSecurityOpDone, h]

/-- Settles O58: after a right tag the outcome turns on `ctrRefusal` alone, whose value each clause's conditions fix. -/
theorem commandCounterIsTested : Obligations.CommandCounterIsTested := by
  refine ⟨rfl, fun s key a hop => ⟨_, exec_securityOpDone_of_op false [] hop, secDone_rekey_lastCtr _ key a []⟩, ?_⟩
  intro s a body cmd plen ctr lastFails act htag ha _ refused accepted
  have hrefused : ∀ {reason event : Nat}, ctrRefusal s.loft.lastCtr ctr cmd = some (reason, event) → refused reason :=
    authenticate_refuses a act htag lastFails ha
  have haccepted (h : ctrRefusal s.loft.lastCtr ctr cmd = none) : accepted := by
    rintro rfl
    exact authenticate_passes a act htag h
  refine ⟨fun hmax hcmd => ?_, fun hmax hcmd hctr => ?_, fun hmax hcmd hctr => ?_, fun hlast hle => ?_, fun hlast hlt => ?_⟩
  · exact hrefused (ctrRefusal_of_exhausted ctr hmax hcmd)
  · exact hrefused ((ctrRefusal_rekey ctr hmax hcmd).trans (if_neg hctr))
  · exact haccepted ((ctrRefusal_rekey ctr hmax hcmd).trans (if_pos hctr))
  · exact hrefused (ctrRefusal_of_le cmd hlast hle)
  · exact haccepted (ctrRefusal_of_lt cmd hlast hlt)

end Sys2Proof.Machine
end

section
/-! Repeated triggers of a tally code (R484): what a statistic counter reads after an increment, and the tally after a trigger that is
suppressed and after one that is recorded. -/

namespace Sys2Proof.Machine

-- Statistic counters

/-- Increments of a counter show in it up to its largest value, where the overflow bit lies in another field (R520). -/
theorem countBy_counted (s : State) {c o : Fld} (i k : Nat) (hc : c.ok = true) (ho : o.ok = true) (ha : c.apart o = true) :
    s.counted c k (s.countBy c o i k) := by
  unfold State.counted State.countBy
  split
  case isTrue hfits =>
    rw [State.get_put _ _ _ hc, Nat.mod_eq_of_lt hfits, Nat.min_eq_left (Nat.le_sub_one_of_lt hfits)]
  case isFalse hfull =>
    refine frame_get_eq (setBit_frame _ o i ho) ?_ hc (by simpa using ha)
    rw [State.get_put _ _ _ hc, Nat.mod_eq_of_lt (Nat.sub_one_lt (Nat.two_pow_pos _).ne'), Nat.min_eq_right (by omega)]

-- The queue and the two ways of a trigger

@[simp] theorem State.setQueue_tal (s : State) (q : List TalEvent) : (s.setQueue q).tal = { s.tal with queue := q } := by
  unfold State.setQueue
  dsimp only
  split <;> rfl

/-- One more trigger of a code has been suppressed since its last recorded event. -/
def State.suppress (s : State) (code : Nat) : State :=
  { s with tal := { s.tal with suppr := sparseSet 0 s.tal.suppr code (sparseGet 0 s.tal.suppr code + 1) } }

theorem suppress_suppr (s : State) (code : Nat) : sparseGet 0 (s.suppress code).tal.suppr code = sparseGet 0 s.tal.suppr code + 1 :=
  sparseGet_set_same 0 s.tal.suppr code (sparseGet 0 s.tal.suppr code + 1)

theorem suppress_frame (s : State) (code : Nat) : s.frame [.tal] [] (s.suppress code) :=
  frame_of (frame_refl _ _ s) rfl rfl (fun c hc => by cases c <;> first | rfl | exact absurd (by decide) hc)

section
variable {s : State} {code : Nat} (detail : List Byte)

theorem tally_of_recent (hopt : talMandatory code = false) (hlast : sparseGet 0 s.tal.lastRec code ≠ 0)
    (hrecent : s.tim.cycles + 1 < sparseGet 0 s.tal.lastRec code + hundredMs) :
    s.tally code detail = (s.suppress code).count R.TAL_CNT_SUPPR.SUPPR R.TAL_CNTOVF.OVF 1 :=
  if_pos (by simp [hopt, hlast, hrecent])

/-- A queue of less than 56 events has room for every code, mandatory or not (R485). -/
theorem tally_tal_of_due
    (hdue : talMandatory code = true ∨ sparseGet 0 s.tal.lastRec code = 0 ∨ sparseGet 0 s.tal.lastRec code + hundredMs ≤ s.tim.cycles + 1)
    (hroom : s.tal.queue.length < 56) :
    (s.tally code detail).tal = { s.tal with
      queue := s.tal.queue ++ [s.talEvent code detail]
      seq := (s.tal.seq + 1) % 2 ^ 32
      suppr := sparseSet 0 s.tal.suppr code 0
      lastRec := sparseSet 0 s.tal.lastRec code (s.tim.cycles + 1) } := by
  have hrecorded : ¬ (!talMandatory code && decide (sparseGet 0 s.tal.lastRec code ≠ 0
      ∧ s.tim.cycles + 1 < sparseGet 0 s.tal.lastRec code + hundredMs)) = true := by
    rcases hdue with h | h | h
    · simp [h]
    · simp [h]
    · simp [Nat.not_lt.mpr h]
  have hlimit : s.tal.queue.length < (if talMandatory code then 64 else 56) := by split <;> omega
  simp only [State.tally, if_neg hrecorded, if_pos hlimit, State.setQueue_tal]

end

/-- Settles O59: a trigger within 100 ms of the last recorded event takes the suppressing branch and any other, with room in the queue, the
recording branch; each branch's effect is read off its equation. -/
theorem repeatedTriggersAreSuppressed : Obligations.RepeatedTriggersAreSuppressed := by
  intro s code detail
  constructor
  · intro hopt hlast hrecent
    have hcounted : s.counted R.TAL_CNT_SUPPR.SUPPR 1 ((s.suppress code).count R.TAL_CNT_SUPPR.SUPPR R.TAL_CNTOVF.OVF 1) :=
      countBy_counted (s.suppress code) 1 1 rfl rfl rfl
    have hframe : s.frame [.tal] [R.TAL_CNT_SUPPR.SUPPR, R.TAL_CNTOVF.OVF]
        ((s.suppress code).count R.TAL_CNT_SUPPR.SUPPR R.TAL_CNTOVF.OVF 1) :=
      frame_after (count_frame _ _ _ 1 rfl rfl) (frame_mono (suppress_frame s code) (fun _ h => h) (by simp)) (by simp) (fun _ h => h)
    rw [tally_of_recent detail hopt hlast hrecent, State.count_tal]
    exact ⟨rfl, hcounted, suppress_suppr s code, rfl, hframe⟩
  · intro hdue hroom
    rw [tally_tal_of_due detail hdue hroom]
    exact ⟨s.talEvent code detail, rfl, rfl, rfl,
      sparseGet_set_same 0 s.tal.suppr code 0, sparseGet_set_same 0 s.tal.lastRec code (s.tim.cycles + 1)⟩

end Sys2Proof.Machine
end
